-- ==== Sys2Proof/Word.lean ====
section
/-! DEFINITION. Bytes, fixed-length tables and the index types of the SG460's like things (links, slots,
meters, channels, contacts, banks). -/

namespace Sys2Proof

/-- One byte on a serial link (R153, R166). -/
abbrev Byte := BitVec 8

/-- A table of exactly `n` like things, indexed by `Fin n`: plain data over a list, so that the kernel
evaluates it. -/
structure Tab (n : Nat) (α : Type) where
  list : List α
  len : list.length = n
deriving DecidableEq, Repr

/-- Entry `i` of the table. -/
def Tab.get {n : Nat} {α : Type} (t : Tab n α) (i : Fin n) : α :=
  t.list.get (i.cast t.len.symm)

/-- The table with entry `i` replaced. -/
def Tab.set {n : Nat} {α : Type} (t : Tab n α) (i : Fin n) (a : α) : Tab n α :=
  ⟨t.list.set i.val a, by rw [List.length_set]; exact t.len⟩

/-- The table whose every entry is `a`. -/
def Tab.fill {α : Type} (n : Nat) (a : α) : Tab n α :=
  ⟨List.replicate n a, List.length_replicate⟩

/-- The table whose entry `i` is `f i`. -/
def Tab.gen {n : Nat} {α : Type} (f : Fin n → α) : Tab n α :=
  ⟨List.ofFn f, List.length_ofFn⟩

/-- The table with entry `i` passed through `f`. -/
def Tab.modify {n : Nat} {α : Type} (t : Tab n α) (i : Fin n) (f : α → α) : Tab n α :=
  t.set i (f (t.get i))

/-- A serial link, 0 to 6 (introduction, "Stations and links"). -/
abbrev Link := Fin 7
/-- A claim slot: index 0 is C1, index 4 is C5 (chapter 4.1). The flare slot C6 has no claim. -/
abbrev Slot := Fin 5
/-- A meter: indexes 0 to 5 are M1 to M6, indexes 6 to 11 are Q1 to Q6 (chapter 1.1). -/
abbrev Meter := Fin 12
/-- A production line P1 to P6. -/
abbrev Line := Fin 6
/-- An analog channel A1 to A5 (chapter 1.4). -/
abbrev Channel := Fin 5
/-- A contact K1 to K4 (chapter 1.5). -/
abbrev Contact := Fin 4
/-- A policy bank 0 to 3 (R139). -/
abbrev BankNo := Fin 4

def chA1 : Channel := 0
def chA2 : Channel := 1
def chA3 : Channel := 2
def chA4 : Channel := 3
def chA5 : Channel := 4

def conK1 : Contact := 0
def conK2 : Contact := 1
def conK3 : Contact := 2
def conK4 : Contact := 3

/-- The slots in the order C1 to C5. -/
def allSlots : List Slot := [0, 1, 2, 3, 4]

/-- The consumer meter Q1 to Q5 of a claim slot (chapter 1.1). -/
def slotMeter (c : Slot) : Meter := ⟨c.val + 6, by omega⟩

/-- The production meter M1 to M6 of a line. -/
def lineMeter (l : Line) : Meter := ⟨l.val, by omega⟩

/-- The flare meter Q6. -/
def flareMeter : Meter := 11

end Sys2Proof
end

