-- ==== Sys2Proof/Config.lean ====
section
/-! DEFINITION. What the manual leaves open: the free values (no body, so no proof can see them) and the
durations each part settles for itself within the manual's bounds. -/

namespace Sys2Proof

/-- FREE VALUE (notes/assumptions/5.md). Events that arrive together may be taken in either order (R22, R86,
R105, R113, R140, R150 and others): at the moment numbered `moment`, the `k`-th tie is broken by this number. -/
opaque Config.tieBreak (moment k : Nat) : Nat

/-- IMPLEMENTATION-DEFINED (notes/assumptions/6.md). How long a configuration save takes, in ms; the manual
bounds it by 2 s (section 11.3). -/
opaque Config.saveMs : Nat

/-- IMPLEMENTATION-DEFINED (notes/assumptions/6.md). How long a port waits before it begins to send, in ms;
the manual bounds it by 20 ms (R156). -/
opaque Config.answerDelayMs : Nat

/-- IMPLEMENTATION-DEFINED (notes/assumptions/6.md). How long the gaps between an answer's bytes are, in ms; the
manual keeps each below 5 ms (R156). -/
opaque Config.answerGapMs : Nat

/-- `x` put into a list at position `k`, or at its end where the list is shorter. -/
def insertAt {α : Type} (k : Nat) (x : α) : List α → List α
  | [] => [x]
  | y :: ys =>
    match k with
    | 0 => x :: y :: ys
    | k + 1 => y :: insertAt k x ys

/-- A permutation of a list chosen by `f`; every permutation is some `f`'s choice. -/
def arrange {α : Type} (f : Nat → Nat) : List α → List α
  | [] => []
  | x :: xs => insertAt (f xs.length % (xs.length + 1)) x (arrange f xs)

end Sys2Proof
end

