-- ==== Sys2Proof/Syntax.lean ====
section
/-! DEFINITION. The commands of the SG460: one constructor per row of spec/opcode_table.json, with the
operands the rules give each step. A request command carries the link it arrived on. -/

namespace Sys2Proof

/-- The five loop currents A1 to A5 in µA, as one sample of the analog stage finds them (R12). -/
abbrev Currents := Tab 5 Nat

/-- A row record of a policy bank (R139). -/
structure RowRecord where
  trim : Int
  steps : Nat
  restore : Bool
  admits : Bool
  flare : Bool
  cutAll : Bool
  admissionMargin : Nat
  restoreMargin : Nat
  shedStep : Nat
deriving DecidableEq, Repr

/-- A date and time of the backed-up clock (R167, R168). -/
structure DateTime where
  year : Nat
  month : Nat
  day : Nat
  hour : Nat
  minute : Nat
  second : Nat
deriving DecidableEq, Repr

/-- The three geometry items of a bank (R147). -/
inductive Geometry where
  | count
  | width
  | hysteresis
deriving DecidableEq, Repr

/-- The commands. The order is that of spec/opcode_table.json. -/
inductive Instr where
  /-- PULSE (R1): a leading edge on a meter's line. -/
  | pulse (m : Meter)
  /-- STALL_TIMER_EXPIRY (R6): a meter's stall timer has run for the stall time. -/
  | stallTimerExpiry (m : Meter)
  /-- CONTACT_CHANGE (R15): the raw contact is now closed (or open). -/
  | contactChange (k : Contact) (closed : Bool)
  /-- DEBOUNCE_EXPIRY (R15): the debounce timer has reached 200 ms. -/
  | debounceExpiry (k : Contact)
  /-- POWER_FAIL (R19): the supply fails. -/
  | powerFail
  /-- POWER_ON_START (R177): the supply returns; the start sample's currents, whether the backup cell was
  too low, and whether the check values of the totals store and of the stored copy are found to agree. -/
  | powerOnStart (amps : Currents) (cellLow totalsAgree configAgrees : Bool)
  /-- CLOCK_SECOND (R168). -/
  | clockSecond
  /-- PASS_TIMER_EXPIRY (R83), with the bank stage (R86). -/
  | passTimerExpiry
  /-- SAMPLE_STAGE (R87): with the loop currents the analog stage samples. -/
  | sampleStage (amps : Currents)
  /-- MEASURE_STAGE (R88). -/
  | measureStage
  /-- HOLDER_STAGE (R56). -/
  | holderStage
  /-- SNAPSHOT_STAGE (R89). -/
  | snapshotStage
  /-- SHORTFALL_STAGE (R94). -/
  | shortfallStage
  /-- SHED_PUSH (R111): the next push of the shortfall stage is made on the live stack. -/
  | shedPush
  /-- RESTORE_STAGE (R97). -/
  | restoreStage
  /-- POP (R114). -/
  | pop
  /-- ADMISSION_STAGE (R100). -/
  | admissionStage
  /-- ALLOTMENT_STAGE (R101). -/
  | allotmentStage
  /-- FLARE_STAGE (R103). -/
  | flareStage
  /-- APPLY_STAGE (R105). -/
  | applyStage
  /-- HOLD_TIMER_EXPIRY (R24). -/
  | holdTimerExpiry
  /-- QUALITY_RESUME (R25). -/
  | qualityResume (l : Link)
  /-- REGISTER (R63): min, max and ramp. -/
  | register (l : Link) (m x u : Nat)
  /-- CLAIM (R64). -/
  | claim (l : Link) (r : Nat)
  /-- AMEND (R64). -/
  | amend (l : Link) (r : Nat)
  /-- REPORT (R65). -/
  | report (l : Link) (running : Bool) (rate : Nat)
  /-- RELEASE (R66). -/
  | release (l : Link)
  /-- LEASE_TIMER_EXPIRY (R62). -/
  | leaseTimerExpiry (c : Slot)
  /-- START_TIMER_EXPIRY (R68). -/
  | startTimerExpiry (c : Slot)
  /-- HOLD_SLOTS (R72): the slot mask byte and on or off. -/
  | holdSlots (l : Link) (mask : Nat) (on : Bool)
  /-- FORCE_VACANT (R76): the slot byte, 1 to 5 for C1 to C5. -/
  | forceVacant (l : Link) (slot : Nat)
  /-- READ_CLAIM (R81): the slot byte, 1 to 5 for C1 to C5. -/
  | readClaim (l : Link) (slot : Nat)
  /-- READ_STACK (R119): the position counted from the top. -/
  | readStack (l : Link) (position : Nat)
  /-- FLARE_STATUS (R123). -/
  | flareStatus (l : Link) (flame ready fault : Bool)
  /-- IGNITION_TIMER_EXPIRY (R127). -/
  | ignitionTimerExpiry
  /-- MINIMUM_BURN_TIMER_EXPIRY (R130). -/
  | minimumBurnTimerExpiry
  /-- BURN_TIME_SECOND (R136). -/
  | burnTimeSecond
  /-- FLARE_RESET (R133). -/
  | flareReset (l : Link)
  /-- FLARE_PERMIT (R134). -/
  | flarePermit (l : Link) (on : Bool)
  /-- SWITCH_BANK (R141). -/
  | switchBank (l : Link) (bank : Nat)
  /-- WRITE_ROW (R145). -/
  | writeRow (l : Link) (bank row : Nat) (rec : RowRecord)
  /-- SET_RANK (R146): the slot byte is 1 to 5 for C1 to C5. -/
  | setRank (l : Link) (bank slot rank : Nat)
  /-- SET_LIMITS (R151). -/
  | setLimits (l : Link) (mask max : Nat)
  /-- READ_BANK (R148). -/
  | readBank (l : Link) (bank row : Nat)
  /-- CONFIGURE (R175): item number and signed value. -/
  | configure (l : Link) (item : Nat) (value : Int)
  /-- CONFIGURE_BAND_GEOMETRY (R147): N, W or H of a bank. -/
  | configureBandGeometry (l : Link) (bank : Nat) (which : Geometry) (value : Int)
  /-- CONFIGURE_EVENT_BINDING (R149): the binding number 1 to 6 and the coded value (R175). -/
  | configureEventBinding (l : Link) (number : Nat) (value : Int)
  /-- FRAME_RECEIVED (R154): the frame in the link's port is complete. -/
  | frameReceived (l : Link)
  /-- GAP_TIMER_EXPIRY (R153). -/
  | gapTimerExpiry (l : Link)
  /-- ANSWER_SENT (R156). -/
  | answerSent (l : Link)
  /-- UNKNOWN_REQUEST (R157): a request code outside the code table. -/
  | unknownRequest (l : Link) (code : Nat)
  /-- READ_STATUS (R160): the group number is read on link 0 only. -/
  | readStatus (l : Link) (group : Nat)
  /-- ACK_ALERTS (R162). -/
  | ackAlerts (l : Link)
  /-- SET_CLOCK (R168). -/
  | setClock (l : Link) (d : DateTime)
  /-- READ_TOTALS (R172). -/
  | readTotals (l : Link) (record group : Nat)
  /-- SAVE_CONFIG (R176). -/
  | saveConfig (l : Link)
  /-- SAVE_END (R176). -/
  | saveEnd
  /-- RESTART (R156). -/
  | restart (l : Link)
  /-- RESTART_TAKES_PLACE (R178): with the start sample's currents. -/
  | restartTakesPlace (amps : Currents)
  /-- BYTE_RECEIVED (R153). -/
  | byteReceived (l : Link) (b : Byte)
deriving DecidableEq, Repr

end Sys2Proof
end

