-- ==== Sys2Proof/Decode.lean ====
section
/-! DEFINITION. Reading requests out of frames (R157, R166): the code table, the authority of each link and
the form of each payload; and the encoder that writes a request's code and payload from the same table.
The table spec/opcode_table.json gives no row any bits, so `decodeTableWord` reads nothing. -/

namespace Sys2Proof

/-- spec/opcode_table.json gives no row of this block any bits: no word spells a command. -/
def decodeTableWord (_nbits _w : Nat) : Option Instr := none

/-! ## Multi-byte fields, most significant byte first (R166) -/

/-- Two bytes, most significant first, as a number. -/
def nat16 (a b : Byte) : Nat := a.toNat * 256 + b.toNat

/-- Two bytes in two's complement. -/
def int16 (a b : Byte) : Int :=
  if a.toNat < 128 then (nat16 a b : Int) else (nat16 a b : Int) - 65536

/-- Four bytes in two's complement. -/
def int32 (a b c d : Byte) : Int :=
  if a.toNat < 128 then (nat16 a b * 65536 + nat16 c d : Nat)
  else ((nat16 a b * 65536 + nat16 c d : Nat) : Int) - 4294967296

/-- The one-byte field of a number below 256. -/
def byte (n : Nat) : Byte := BitVec.ofNat 8 n

/-- The two-byte field of a number below 65,536. -/
def bytes16 (n : Nat) : List Byte := [byte (n / 256), byte n]

/-- The four-byte field of a number below 4,294,967,296. -/
def bytes32 (n : Nat) : List Byte :=
  [byte (n / 16777216), byte (n / 65536), byte (n / 256), byte n]

/-- The two-byte two's-complement field. -/
def signed16 (v : Int) : List Byte := bytes16 (v % 65536).toNat

/-- The four-byte two's-complement field. -/
def signed32 (v : Int) : List Byte := bytes32 (v % 4294967296).toNat

/-- A flag, condition, on/off or flame byte: 0 or 1, nothing else (R157 check 3, R166). -/
def flagOf (b : Byte) : Option Bool :=
  if b = 0 then some false else if b = 1 then some true else none

/-- The byte of a flag. -/
def flagByte (b : Bool) : Byte := if b then 1 else 0

/-! ## The code table and the authority table (R157, R166) -/

/-- Request codes of the code table (section 9.5). -/
def codeKnown (code : Nat) : Bool :=
  code = 0x01 || (0x10 ≤ code && code ≤ 0x14) || code = 0x20 ||
    (0x30 ≤ code && code ≤ 0x3A) || (0x40 ≤ code && code ≤ 0x46)

/-- The authority of each link (R157 check 2): is the request of this code allowed on link `l`? -/
def codeAllowed (l : Link) (code : Nat) : Bool :=
  if l = 0 then code = 0x01 || (0x30 ≤ code && code ≤ 0x3A) || (0x40 ≤ code && code ≤ 0x46)
  else if l = 6 then code = 0x01 || code = 0x20
  else code = 0x01 || (0x10 ≤ code && code ≤ 0x14)

/-! ## Items that are served by the policy banks (R143, R147, R149, R175) -/

/-- The geometry item a CONFIGURE item number names: 0x0200 + 16 × bank + 0, 1, 2 (R175). -/
def geometryItem (item : Nat) : Option (Nat × Geometry) :=
  if 0x200 ≤ item ∧ item < 0x240 then
    match item % 16 with
    | 0 => some (item / 16 % 16, .count)
    | 1 => some (item / 16 % 16, .width)
    | 2 => some (item / 16 % 16, .hysteresis)
    | _ => none
  else none

/-- The event binding a CONFIGURE item number names: 0x0301 to 0x0306 (R175). -/
def bindingItem (item : Nat) : Option Nat :=
  if 0x301 ≤ item ∧ item ≤ 0x306 then some (item - 0x300) else none

/-- The row of the table that serves a CONFIGURE frame: a geometry item, a binding item or any other. -/
def configureRequest (l : Link) (item : Nat) (value : Int) : Instr :=
  match geometryItem item with
  | some (bank, which) => .configureBandGeometry l bank which value
  | none =>
    match bindingItem item with
    | some n => .configureEventBinding l n value
    | none => .configure l item value

/-- The position of a geometry item within its bank's three. -/
def Geometry.offset : Geometry → Nat
  | .count => 0
  | .width => 1
  | .hysteresis => 2

/-! ## The form check and the request of a frame (R157 check 3, R166) -/

/-- The requests of links 1 to 5 from their code and payload. -/
def parseConsumer (l : Link) (code : Nat) (payload : List Byte) : Option Instr :=
  match code, payload with
  | 0x10, [a, b, c, d, e, f] => some (.register l (nat16 a b) (nat16 c d) (nat16 e f))
  | 0x11, [a, b] => some (.claim l (nat16 a b))
  | 0x12, [a, b] => some (.amend l (nat16 a b))
  | 0x13, [c, a, b] => (flagOf c).map fun running => .report l running (nat16 a b)
  | 0x14, [] => some (.release l)
  | _, _ => none

/-- FLARE_STATUS from its payload. -/
def parseFlareStatus (l : Link) : List Byte → Option Instr
  | [a, b, c] =>
    match flagOf a, flagOf b, flagOf c with
    | some flame, some ready, some fault => some (.flareStatus l flame ready fault)
    | _, _, _ => none
  | _ => none

/-- The WRITE_ROW flags byte: restore, admission, flare and cut all in bits 0 to 3, bits 4 to 7 zero. -/
def rowFlags (b : Byte) : Option (Bool × Bool × Bool × Bool) :=
  if b.toNat < 16 then
    some (b.toNat % 2 = 1, b.toNat / 2 % 2 = 1, b.toNat / 4 % 2 = 1, b.toNat / 8 % 2 = 1)
  else none

/-- WRITE_ROW from its payload. -/
def parseWriteRow (l : Link) : List Byte → Option Instr
  | [bank, row, t1, t0, steps, flags, a1, a0, r1, r0, s1, s0] =>
    (rowFlags flags).map fun (restore, admits, flare, cutAll) =>
      .writeRow l bank.toNat row.toNat
        { trim := int16 t1 t0, steps := steps.toNat, restore, admits, flare, cutAll,
          admissionMargin := nat16 a1 a0, restoreMargin := nat16 r1 r0, shedStep := nat16 s1 s0 }
  | _ => none

/-- The supervisor requests 0x30 to 0x3A from their code and payload. -/
def parseWrite (l : Link) (code : Nat) (payload : List Byte) : Option Instr :=
  match code, payload with
  | 0x30, [i1, i0, a, b, c, d] => some (configureRequest l (nat16 i1 i0) (int32 a b c d))
  | 0x31, p => parseWriteRow l p
  | 0x32, [b, c, r] => some (.setRank l b.toNat c.toNat r.toNat)
  | 0x33, [b] => some (.switchBank l b.toNat)
  | 0x34, [k, a, b] => some (.setLimits l k.toNat (nat16 a b))
  | 0x35, [] => some (.qualityResume l)
  | 0x36, [b] => (flagOf b).map fun on => .flarePermit l on
  | 0x37, [] => some (.flareReset l)
  | 0x38, [k, b] => (flagOf b).map fun on => .holdSlots l k.toNat on
  | 0x39, [c] => some (.forceVacant l c.toNat)
  | 0x3A, [] => some (.ackAlerts l)
  | _, _ => none

/-- The supervisor requests 0x40 to 0x46 from their code and payload. -/
def parseRead (l : Link) (code : Nat) (payload : List Byte) : Option Instr :=
  match code, payload with
  | 0x40, [c] => some (.readClaim l c.toNat)
  | 0x41, [p] => some (.readStack l p.toNat)
  | 0x42, [b, r] => some (.readBank l b.toNat r.toNat)
  | 0x43, [r, g] => some (.readTotals l r.toNat g.toNat)
  | 0x44, [y1, y0, mo, d, h, mi, sec] =>
    some (.setClock l ⟨nat16 y1 y0, mo.toNat, d.toNat, h.toNat, mi.toNat, sec.toNat⟩)
  | 0x45, [] => some (.saveConfig l)
  | 0x46, [] => some (.restart l)
  | _, _ => none

/-- READ_STATUS: a group byte on link 0, no payload on the other links. -/
def parseReadStatus (l : Link) (payload : List Byte) : Option Instr :=
  if l = 0 then
    match payload with
    | [g] => some (.readStatus l g.toNat)
    | _ => none
  else
    match payload with
    | [] => some (.readStatus l 0)
    | _ => none

/-- The request a code and a payload spell on link `l`; `none` where the form check fails (R157). -/
def parseRequest (l : Link) (code : Nat) (payload : List Byte) : Option Instr :=
  if code = 0x01 then parseReadStatus l payload
  else if code < 0x20 then parseConsumer l code payload
  else if code = 0x20 then parseFlareStatus l payload
  else if code < 0x40 then parseWrite l code payload
  else parseRead l code payload

/-- What the three checks of R157 make of a request. -/
inductive Checked where
  | unknownCode
  | notAllowed
  | badForm
  | request (i : Instr)
deriving DecidableEq, Repr

/-- The checks of R157 in their order: code, authority, form. -/
def checkRequest (l : Link) (code : Nat) (payload : List Byte) : Checked :=
  if !codeKnown code then .unknownCode
  else if !codeAllowed l code then .notAllowed
  else
    match parseRequest l code payload with
    | none => .badForm
    | some i => .request i

/-! ## The encoder -/

/-- The payload of WRITE_ROW. -/
def writeRowPayload (bank row : Nat) (r : RowRecord) : List Byte :=
  [byte bank, byte row] ++ signed16 r.trim ++ [byte r.steps] ++
    [byte (r.restore.toNat + 2 * r.admits.toNat + 4 * r.flare.toNat + 8 * r.cutAll.toNat)] ++
    bytes16 r.admissionMargin ++ bytes16 r.restoreMargin ++ bytes16 r.shedStep

/-- The link, code and payload of the frame that carries a request; `none` for a step that is no request
of the code table. -/
def encodeRequest : Instr → Option (Link × Nat × List Byte)
  | .qualityResume l => some (l, 0x35, [])
  | .register l m x u => some (l, 0x10, bytes16 m ++ bytes16 x ++ bytes16 u)
  | .claim l r => some (l, 0x11, bytes16 r)
  | .amend l r => some (l, 0x12, bytes16 r)
  | .report l running rate => some (l, 0x13, flagByte running :: bytes16 rate)
  | .release l => some (l, 0x14, [])
  | .holdSlots l mask on => some (l, 0x38, [byte mask, flagByte on])
  | .forceVacant l slot => some (l, 0x39, [byte slot])
  | .readClaim l slot => some (l, 0x40, [byte slot])
  | .readStack l position => some (l, 0x41, [byte position])
  | .flareStatus l flame ready fault =>
    some (l, 0x20, [flagByte flame, flagByte ready, flagByte fault])
  | .flareReset l => some (l, 0x37, [])
  | .flarePermit l on => some (l, 0x36, [flagByte on])
  | .switchBank l bank => some (l, 0x33, [byte bank])
  | .writeRow l bank row r => some (l, 0x31, writeRowPayload bank row r)
  | .setRank l bank slot rank => some (l, 0x32, [byte bank, byte slot, byte rank])
  | .setLimits l mask max => some (l, 0x34, byte mask :: bytes16 max)
  | .readBank l bank row => some (l, 0x42, [byte bank, byte row])
  | .configure l item value => some (l, 0x30, bytes16 item ++ signed32 value)
  | .configureBandGeometry l bank which value =>
    some (l, 0x30, bytes16 (0x200 + 16 * bank + which.offset) ++ signed32 value)
  | .configureEventBinding l number value => some (l, 0x30, bytes16 (0x300 + number) ++ signed32 value)
  | .readStatus l group => some (l, 0x01, if l = 0 then [byte group] else [])
  | .ackAlerts l => some (l, 0x3A, [])
  | .setClock l d =>
    some (l, 0x44, bytes16 d.year ++ [byte d.month, byte d.day, byte d.hour, byte d.minute, byte d.second])
  | .readTotals l record group => some (l, 0x43, [byte record, byte group])
  | .saveConfig l => some (l, 0x45, [])
  | .restart l => some (l, 0x46, [])
  | .pulse _ | .stallTimerExpiry _ | .contactChange _ _ | .debounceExpiry _ | .powerFail
  | .powerOnStart _ _ _ _ | .clockSecond | .passTimerExpiry | .sampleStage _ | .measureStage
  | .holderStage | .snapshotStage | .shortfallStage | .shedPush | .restoreStage | .pop
  | .admissionStage | .allotmentStage | .flareStage | .applyStage | .holdTimerExpiry
  | .leaseTimerExpiry _ | .startTimerExpiry _ | .ignitionTimerExpiry | .minimumBurnTimerExpiry
  | .burnTimeSecond | .frameReceived _ | .gapTimerExpiry _ | .answerSent _ | .unknownRequest _ _
  | .saveEnd | .restartTakesPlace _ | .byteReceived _ _ => none

end Sys2Proof
end

