-- ==== Sys2Proof/Machine/State.lean ====
section
/-! DEFINITION. The state of the SG460, block by block, as plain data; the reasons a step can stop; and the
state after reset. -/

namespace Sys2Proof.Machine

open Sys2Proof

/-- A timer: `none` while stopped, `some ms` while running, with the milliseconds it has run. -/
abbrev Timer := Option Nat

/-! ## Field stages (chapter 1) -/

/-- One meter of the meter stage (R1 to R10). The hold count and the held line rate are used on the
production lines only (R10). A counter overrun is the active indication of the meter's COUNTER_OVERRUN
record (R2). -/
structure MeterRec where
  count : Nat
  stallTimer : Timer
  stalled : Bool
  recovery : Nat
  hold : Nat
  heldRate : Nat
deriving DecidableEq, Repr

/-- One analog channel (R12 to R14). -/
structure ChannelRec where
  reading : Int
  fault : Bool
  recovery : Nat
  lastGood : Int
deriving DecidableEq, Repr

/-- One contact (R15): the raw input, the debounced state and the debounce timer; `true` is closed. -/
structure ContactRec where
  raw : Bool
  debounced : Bool
  timer : Timer
deriving DecidableEq, Repr

/-! ## Quality monitor and normalizer (chapter 2) -/

/-- Quality source state (section 2.1). -/
inductive QualitySource where
  | live
  | held
  | substituted
deriving DecidableEq, Repr

/-- The quality monitor (section 2.1); `sour` is the sour condition state, true for PRESENT. -/
structure Quality where
  source : QualitySource
  ch4 : Nat
  h2s : Nat
  hold : Timer
  sour : Bool
  high : Nat
  low : Nat
deriving DecidableEq, Repr

/-- The normalizer (section 2.3): twelve carries in µL and the filtered production rate P_f. -/
structure Normalizer where
  carries : Tab 12 Nat
  filtered : Nat
deriving DecidableEq, Repr

/-! ## Holder monitor (chapter 3) -/

/-- The band index: a numbered row, or the fall-through row (R47). -/
inductive Band where
  | row (n : Nat)
  | fallThrough
deriving DecidableEq, Repr

/-- The holder monitor (section 3.1); `mismatch` is true for PRESENT. -/
structure Holder where
  level : Nat
  prevLevel : Nat
  inventory : Nat
  deltaI : Int
  band : Band
  accumulator : Int
  window : Nat
  mismatch : Bool
  overfill : Bool
  pressureHigh : Bool
  pressureLow : Bool
deriving DecidableEq, Repr

/-! ## Claim table (chapter 4) -/

/-- Claim states (section 4.1), in the order the manual lists them. -/
inductive ClaimState where
  | vacant
  | idle
  | waiting
  | admitted
  | running
  | shed
  | locked
  | lapsed
deriving DecidableEq, Repr

/-- Lock causes (R69). -/
inductive LockCause where
  | sour
  | gasRoom
  | estop
  | heldBySupervisor
deriving DecidableEq, Repr

/-- A lock cause set. -/
structure Locks where
  sour : Bool
  gasRoom : Bool
  estop : Bool
  held : Bool
deriving DecidableEq, Repr

/-- Min m, max x and ramp u of a registered claim. -/
structure Limits where
  m : Nat
  x : Nat
  u : Nat
deriving DecidableEq, Repr

/-- A claim record (section 4.1). Slot and kind are fixed by the record's place. m, x and u are absent
together, in VACANT. -/
structure Claim where
  state : ClaimState
  limits : Option Limits
  request : Option Nat
  standing : Bool
  orphaned : Nat
  withheld : Nat
  allotment : Nat
  soft : Bool
  locks : Locks
  lease : Timer
  start : Timer
  lastRate : Nat
  epoch : Nat
deriving DecidableEq, Repr

/-! ## Shed stack (chapter 6) -/

/-- Kind of a shed record (R109). -/
inductive ShedKind where
  | trim
  | whole
deriving DecidableEq, Repr

/-- A shed record (R109). -/
structure ShedRecord where
  slot : Slot
  kind : ShedKind
  amount : Nat
  band : Band
  passNumber : Nat
  pending : Bool
deriving DecidableEq, Repr

/-- The shed stack (R110, R118), newest record first. The overflow flag is the active indication of the
STACK_OVERFLOW record (R113). -/
structure ShedStack where
  records : List ShedRecord
  changes : Nat
deriving DecidableEq, Repr

/-! ## Flare sequencer (chapter 7) -/

/-- Flare states, in the order the manual lists them. -/
inductive FlareState where
  | off
  | called
  | burning
  | holding
  | failed
deriving DecidableEq, Repr

/-- The fields of a FLARE_STATUS (R123). -/
structure FlareReport where
  flame : Bool
  ready : Bool
  fault : Bool
deriving DecidableEq, Repr

/-- The flare sequencer (section 7.1). -/
structure Flare where
  state : FlareState
  heldCall : Bool
  heldDemand : Nat
  demand : Nat
  attempts : Nat
  ignition : Timer
  minBurn : Timer
  permit : Bool
  report : FlareReport
  burnMs : Nat
  burnSeconds : Nat
  starts : Nat
deriving DecidableEq, Repr

/-! ## Policy banks and the working configuration (chapters 8 and 11) -/

/-- Sources of event bindings, in the order of the table in R149. -/
inductive Source where
  | k2
  | k3
  | k4
  | sour
  | substituted
  | flareFailed
  | mismatch
deriving DecidableEq, Repr

/-- An event binding that is not empty (R149). -/
structure Binding where
  source : Source
  bank : BankNo
deriving DecidableEq, Repr

/-- A policy bank (R139). -/
structure Bank where
  count : Nat
  width : Nat
  hysteresis : Nat
  rows : Tab 16 RowRecord
  fall : RowRecord
  ranks : Tab 5 Nat
deriving DecidableEq, Repr

/-- The range of an analog channel (R11). -/
structure Range where
  lo : Int
  hi : Int
deriving DecidableEq, Repr

/-- The working configuration (R174, R175): the settings in item order 0x0001 to 0x001B, then the meter
factors, line-in-use flags, channel ranges, banks and bindings. -/
structure WorkingConfig where
  period : Nat
  lease : Nat
  startTimeout : Nat
  stallTime : Nat
  stallHold : Nat
  qualityHold : Nat
  defaultCh4 : Nat
  defaultH2s : Nat
  defaultTemp : Int
  sourLimit : Nat
  sourHysteresis : Nat
  sourPersistence : Nat
  filterShift : Nat
  restoreSpacing : Nat
  balanceWindow : Nat
  balanceTolerance : Nat
  pressureHigh : Nat
  pressureLow : Nat
  flareMin : Nat
  flareMax : Nat
  ignitionTimeout : Nat
  flareAttempts : Nat
  minBurn : Nat
  siteLimit : Nat
  gasDayHour : Nat
  ambient : Nat
  capacity : Nat
  factors : Tab 12 Nat
  inUse : Tab 6 Bool
  ranges : Tab 5 Range
  banks : Tab 4 Bank
  bindings : Tab 6 (Option Binding)
deriving DecidableEq, Repr

/-- The policy banks' indications beside the banks themselves (section 8.2, R148). -/
structure Policy where
  active : BankNo
  switch : Option BankNo
  changes : Tab 4 Nat
deriving DecidableEq, Repr

/-- The configuration store (R174): the stored copy, whether its check value agrees, the save state
(`saving`, with the time the save has run) and the defaulted flag. -/
structure ConfigStore where
  stored : WorkingConfig
  checkAgrees : Bool
  saving : Timer
  defaulted : Bool
deriving DecidableEq, Repr

/-! ## Balance unit (chapter 5) -/

/-- The stage a pass in flight has completed (the stage table of chapter 5). `pushing` is the shortfall
stage with its pushes (R96) under way, `popping` the restore stage with its pop (R114) still to come. -/
inductive PassStage where
  | banked
  | sampled
  | measured
  | held
  | snapped
  | pushing
  | popping
  | restored
  | admitted
  | allotted
  | flared
deriving DecidableEq, Repr

/-- The settings a pass uses as they stood when it began: taken during a pass, they are used from the next
(R31, R41, R175). -/
structure PassSettings where
  factors : Tab 12 Nat
  inUse : Tab 6 Bool
  ambient : Nat
  defaultTemp : Int
  filterShift : Nat
  stallHold : Nat
deriving DecidableEq, Repr

/-- What the sample stage gives the pass (R87): pass counts, substitute rates of stalled meters, whether the
A1 fault ended at this sample, K3, and the working quality. `lineChanged` marks the lines whose line-in-use flag a
CONFIGURE has written since: their carry and held line rate stay as it left them (R10, R33, R41). -/
structure Sampled where
  counts : Tab 12 Nat
  substitutes : Tab 12 (Option Nat)
  a1Ended : Bool
  k3 : Bool
  ch4 : Nat
  h2s : Nat
  source : QualitySource
  lineChanged : Tab 6 Bool
deriving DecidableEq, Repr

/-- A meter's pass figures (R37): normal mL, J and kW. -/
structure Figures where
  volume : Nat
  energy : Nat
  rate : Nat
deriving DecidableEq, Repr

/-- What the measure stage gives the pass (R37 to R39). -/
structure Measured where
  figures : Tab 12 Figures
  pRaw : Nat
  pF : Nat
deriving DecidableEq, Repr

/-- What the holder stage hands to the balance unit (R56). -/
structure Handed where
  band : Band
  overfill : Bool
  pressureHigh : Bool
  pressureLow : Bool
deriving DecidableEq, Repr

/-- One slot of the pass snapshot and of the working copy (R89, R91). -/
structure WorkClaim where
  state : ClaimState
  m : Nat
  x : Nat
  u : Nat
  request : Option Nat
  withheld : Nat
  allotment : Nat
  soft : Bool
  epoch : Nat
deriving DecidableEq, Repr

/-- The pass snapshot (R89, R90). -/
structure Snapshot where
  claims : Tab 5 WorkClaim
  siteLimit : Nat
  restoreSpacing : Nat
  flareMin : Nat
  flareMax : Nat
  row : RowRecord
  ranks : Tab 5 Nat
  distributable : Nat
deriving DecidableEq, Repr

/-- One shed the shortfall stage has decided and not yet pushed. -/
structure Shed where
  slot : Slot
  kind : ShedKind
  amount : Nat
deriving DecidableEq, Repr

/-- Shed kind of a pass (R108). -/
inductive ShedReport where
  | none
  | steps
  | cutAll
  | pressureLow
deriving DecidableEq, Repr

/-- The working copy and the decisions of stages 6 to 10 (R91 to R104). -/
structure Decisions where
  work : Tab 5 WorkClaim
  toPush : List Shed
  pushed : List ShedRecord
  shedMade : Bool
  kind : ShedReport
  steps : Nat
  restored : Option Slot
  admitted : Option Slot
  sumCeilings : Nat
  sumAllotments : Nat
  allotments : Tab 5 Nat
  call : Bool
  demand : Nat
deriving DecidableEq, Repr

/-- The pass in flight (section 5.1): its last stage, the T in force (R83), whether its bank stage took a
switch (R48), and what each stage has given it. A part not yet formed holds its empty value. -/
structure Pass where
  stage : PassStage
  period : Nat
  switched : Bool
  settings : PassSettings
  sampled : Sampled
  measured : Measured
  handed : Handed
  snapshot : Snapshot
  decisions : Decisions
deriving DecidableEq, Repr

/-- The pass results record (R108), with the quality source state of the pass (R160), the working level and
A1 fault indication it left (R42) and the slot rates (R37). -/
structure Results where
  passNumber : Nat
  period : Nat
  active : BankNo
  band : Band
  pRaw : Nat
  pF : Nat
  distributable : Nat
  kind : ShedReport
  steps : Nat
  pushed : Nat
  restored : Option Slot
  admitted : Option Slot
  sumCeilings : Nat
  sumAllotments : Nat
  call : Bool
  demand : Nat
  discarded : Tab 5 Bool
  source : QualitySource
  level : Nat
  a1Fault : Bool
  slotRates : Tab 6 Nat
deriving DecidableEq, Repr

/-- The balance unit (section 5.1): the pass timer with the period its run began with (R83), the pass number,
the restore spacing count, the pass in flight and the results record. -/
structure Balance where
  timer : Nat
  period : Nat
  passNumber : Nat
  spacing : Nat
  pass : Option Pass
  results : Results
deriving DecidableEq, Repr

/-! ## Links (chapter 9) -/

/-- Link port states (R153). -/
inductive PortState where
  | hunt
  | receive
  | hold
  | send
deriving DecidableEq, Repr

/-- Answer statuses (R158). -/
inductive Status where
  | done
  | clamped
  | refusedAuthority
  | refusedState
  | refusedUnknown
  | notRegistered
  | busy
  | bankActive
  | bankPending
deriving DecidableEq, Repr

/-- An answer as its frame's fields carry it (R166). -/
structure Answer where
  code : Nat
  status : Status
  passNumber : Nat
  attention : Nat
  payload : List Byte
deriving DecidableEq, Repr

/-- A request held at a port: code and payload. -/
structure HeldRequest where
  code : Nat
  payload : List Byte
deriving DecidableEq, Repr

/-- A link port (R153): the body received so far without escapes, whether an escape byte awaits its second
byte, the gap timer, the request held, the answer last built and the time it has been in SEND. -/
structure Port where
  state : PortState
  body : List Byte
  escaped : Bool
  gap : Timer
  held : Option HeldRequest
  answer : Option Answer
  sending : Timer
deriving DecidableEq, Repr

/-- States of an alert record (R161). -/
inductive AlertState where
  | clear
  | active
  | latched
deriving DecidableEq, Repr

/-! ## Totals store (chapter 10) -/

/-- A start date. -/
structure Date where
  year : Nat
  month : Nat
  day : Nat
deriving DecidableEq, Repr

/-- A gas-day record (R167). -/
structure GasDay where
  start : Option Date
  lineLitres : Tab 6 Nat
  slotLitres : Tab 6 Nat
  slotKwh : Tab 6 Nat
  burnSeconds : Nat
  starts : Nat
  passes : Nat
deriving DecidableEq, Repr

/-- The totals store (R167). `clockMs` is the part of the second the clock has counted; `checkAgrees` stands
for the check value, which agrees after every change the store makes. -/
structure Totals where
  clock : DateTime
  clockMs : Nat
  current : GasDay
  previous : GasDay
  lineRemainders : Tab 6 Nat
  slotRemainders : Tab 6 Nat
  energyRemainders : Tab 6 Nat
  hourCopy : Nat
  clockUnset : Bool
  checkAgrees : Bool
deriving DecidableEq, Repr

/-! ## The machine -/

/-- The state of the part. `pending` is the queue of commands that wait, first in, first out; `moments`
is the model's own: it numbers the moments at which ties are broken (notes/assumptions/5.md). -/
structure State where
  supplied : Bool
  config : WorkingConfig
  store : ConfigStore
  meters : Tab 12 MeterRec
  channels : Tab 5 ChannelRec
  loops : Tab 5 Nat
  contacts : Tab 4 ContactRec
  quality : Quality
  normalizer : Normalizer
  holder : Holder
  claims : Tab 5 Claim
  stack : ShedStack
  balance : Balance
  flare : Flare
  policy : Policy
  ports : Tab 7 Port
  alerts : Tab 58 AlertState
  totals : Totals
  restartPending : Bool
  moments : Nat
  pending : List Instr
deriving DecidableEq, Repr

/-- Reasons a step stops with a fault. The manual describes none: every step of the part completes, so no
meaning raises one and the type is empty (safe). -/
inductive Fault : Type
deriving DecidableEq, Repr

/-- Reasons a step is refused. -/
inductive Refusal where
  /-- Raised by `exec` alone, for a command that has no meaning yet (safe: the machine stops). No arm of
  this model raises it. -/
  | notModelled (mnemonic : String)
deriving DecidableEq, Repr

/-! ## The state after reset: a power-on start of a part whose stored copy and totals store both hold nothing
(R173, R177), with every loop open (0 µA, section 1.4) and every contact open (notes/assumptions/1.md). -/

/-- Default row record of rows 0 to 15 (R139). -/
def defaultRow : RowRecord :=
  { trim := 0, steps := 2, restore := true, admits := true, flare := false, cutAll := false,
    admissionMargin := 100, restoreMargin := 100, shedStep := 200 }

/-- Default row record of the fall-through row (R139). -/
def defaultFall : RowRecord :=
  { trim := 0, steps := 0, restore := false, admits := false, flare := true, cutAll := false,
    admissionMargin := 100, restoreMargin := 100, shedStep := 200 }

/-- Default bank (R139). -/
def defaultBank : Bank :=
  { count := 8, width := 100, hysteresis := 20, rows := Tab.fill 16 defaultRow, fall := defaultFall,
    ranks := ⟨[1, 2, 3, 4, 5], rfl⟩ }

/-- The full ranges of the five quantities (section 1.4). -/
def fullRanges : Tab 5 Range :=
  ⟨[⟨0, 1000⟩, ⟨0, 1000⟩, ⟨-200, 600⟩, ⟨0, 1000⟩, ⟨0, 5000⟩], rfl⟩

/-- The defaults of the working configuration (R174 and the settings' own chapters). -/
def defaultConfig : WorkingConfig :=
  { period := 2, lease := 10, startTimeout := 120, stallTime := 60, stallHold := 15, qualityHold := 300,
    defaultCh4 := 600, defaultH2s := 0, defaultTemp := 150, sourLimit := 300, sourHysteresis := 50,
    sourPersistence := 5, filterShift := 2, restoreSpacing := 5, balanceWindow := 150,
    balanceTolerance := 50, pressureHigh := 350, pressureLow := 30, flareMin := 300, flareMax := 3000,
    ignitionTimeout := 30, flareAttempts := 3, minBurn := 300, siteLimit := 20000, gasDayHour := 6,
    ambient := 10132, capacity := 1000, factors := Tab.fill 12 1000, inUse := Tab.fill 6 true,
    ranges := fullRanges, banks := Tab.fill 4 defaultBank, bindings := Tab.fill 6 none }

/-- The empty lock cause set. -/
def noLocks : Locks := ⟨false, false, false, false⟩

/-- A claim record after either start, but for its lock causes (R82). -/
def vacantClaim : Claim :=
  { state := .vacant, limits := none, request := none, standing := false, orphaned := 0, withheld := 0,
    allotment := 0, soft := false, locks := noLocks, lease := none, start := none, lastRate := 0, epoch := 0 }

/-- The flare sequencer after either start (R138). -/
def startFlare : Flare :=
  { state := .off, heldCall := false, heldDemand := 0, demand := 0, attempts := 0, ignition := none,
    minBurn := none, permit := false, report := ⟨false, false, false⟩, burnMs := 0, burnSeconds := 0,
    starts := 0 }

/-- A link port after either start (R153, R178). -/
def huntPort : Port :=
  { state := .hunt, body := [], escaped := false, gap := none, held := none, answer := none, sending := none }

/-- A meter after either start, its stall timer as given (R18). -/
def startMeter (stallTimer : Timer) : MeterRec :=
  { count := 0, stallTimer, stalled := false, recovery := 0, hold := 0, heldRate := 0 }

/-- The meters after either start: stall timers run on the production lines in use (R18). -/
def startMeters (inUse : Tab 6 Bool) : Tab 12 MeterRec :=
  Tab.gen fun m =>
    startMeter (if h : m.val < 6 then (if inUse.get ⟨m.val, h⟩ then some 0 else none) else none)

/-- The pass results record after either start (R108). -/
def startResults (period : Nat) (band : Band) (source : QualitySource) (level : Nat) (a1Fault : Bool) :
    Results :=
  { passNumber := 0, period, active := 0, band, pRaw := 0, pF := 0, distributable := 0, kind := .none,
    steps := 0, pushed := 0, restored := none, admitted := none, sumCeilings := 0, sumAllotments := 0,
    call := false, demand := 0, discarded := Tab.fill 5 false, source, level, a1Fault,
    slotRates := Tab.fill 6 0 }

/-- A cleared gas-day record (R169, R173). -/
def clearedDay (start : Option Date) : GasDay :=
  { start, lineLitres := Tab.fill 6 0, slotLitres := Tab.fill 6 0, slotKwh := Tab.fill 6 0,
    burnSeconds := 0, starts := 0, passes := 0 }

/-- The totals store as an invalid store is reset (R173). DESIGN CHOICE (notes/assumptions/21.md): the rule sets the
clock to the second, and the model begins the running second anew, `clockMs` at 0. -/
def resetTotals (hour : Nat) : Totals :=
  { clock := ⟨2000, 1, 1, 0, 0, 0⟩, clockMs := 0, current := clearedDay (some ⟨2000, 1, 1⟩),
    previous := clearedDay none, lineRemainders := Tab.fill 6 0, slotRemainders := Tab.fill 6 0,
    energyRemainders := Tab.fill 6 0, hourCopy := hour, clockUnset := true, checkAgrees := true }

/-- A channel whose start sample is in the fault class (R13, R18). -/
def faultyChannel (lastGood : Int) : ChannelRec :=
  { reading := lastGood, fault := true, recovery := 0, lastGood }

/-- Alert records active at reset, by number (section 9.5): CHANNEL_FAULT A1 to A5, QUALITY_SUBSTITUTED,
HOLDER_LOW, CONFIG_DEFAULTED and TOTALS_LOST. -/
def resetAlerts : Tab 58 AlertState :=
  Tab.gen fun n =>
    if (24 ≤ n.val ∧ n.val ≤ 28) ∨ n.val = 30 ∨ n.val = 35 ∨ n.val = 56 ∨ n.val = 57 then .active else .clear

/-- The machine right after reset. -/
def State.reset : State :=
  { supplied := true
    config := defaultConfig
    store := { stored := defaultConfig, checkAgrees := false, saving := none, defaulted := true }
    meters := startMeters (Tab.fill 6 true)
    channels := ⟨[faultyChannel 0, faultyChannel 0, faultyChannel 150, faultyChannel 600, faultyChannel 0], rfl⟩
    loops := Tab.fill 5 0
    contacts := Tab.fill 4 ⟨false, false, none⟩
    quality := { source := .substituted, ch4 := 600, h2s := 0, hold := none, sour := false, high := 0, low := 0 }
    normalizer := { carries := Tab.fill 12 0, filtered := 0 }
    holder :=
      { level := 0, prevLevel := 0, inventory := 0, deltaI := 0, band := .row 0, accumulator := 0, window := 0,
        mismatch := false, overfill := false, pressureHigh := false, pressureLow := false }
    claims := Tab.fill 5 vacantClaim
    stack := { records := [], changes := 0 }
    balance :=
      { timer := 0, period := 2, passNumber := 0, spacing := 0, pass := none,
        results := startResults 2 (.row 0) .substituted 0 true }
    flare := startFlare
    policy := { active := 0, switch := none, changes := Tab.fill 4 0 }
    ports := Tab.fill 7 huntPort
    alerts := resetAlerts
    totals := resetTotals 6
    restartPending := false
    moments := 0
    pending := [] }

end Sys2Proof.Machine
end

