-- ==== Sys2Proof/Machine/Operands.lean ====
section
/-! DEFINITION. Arithmetic terms of the manual (introduction, "Arithmetic terms"), operand forms of the
requests (masks, slot bytes, clamped fields) and the field encodings of answers (R166). -/

namespace Sys2Proof.Machine

open Sys2Proof

/-! ## Arithmetic terms -/

/-- Clamped to a range. -/
def clampInt (lo hi v : Int) : Int := if v < lo then lo else if hi < v then hi else v

/-- Clamped to a range, for whole numbers. -/
def clampNat (lo hi v : Nat) : Nat := if v < lo then lo else if hi < v then hi else v

/-- `num / den` rounded half up: an exact half goes to the greater number. -/
def roundHalfUp (num : Int) (den : Nat) : Int := (2 * num + den) / (2 * den)

/-- `num / den` truncated toward zero. -/
def truncDiv (num den : Int) : Int := num.tdiv den

/-- A saturating sum. -/
def saturate (max v : Nat) : Nat := if max < v then max else v

/-- A count that wraps from `max` to 0, one further. -/
def wrapSucc (max v : Nat) : Nat := (v + 1) % (max + 1)

/-! ## Slot operands -/

/-- The claim slot a slot byte names: 1 to 5 for C1 to C5 (R166). -/
def slotOfByte (n : Nat) : Option Slot :=
  if h : 1 ≤ n ∧ n ≤ 5 then some ⟨n - 1, by omega⟩ else none

/-- The slot byte of a claim slot. -/
def slotByte (c : Slot) : Nat := c.val + 1

/-- Does the mask name the slot? Bits 0 to 4 stand for C1 to C5 (R166). -/
def maskNames (mask : Nat) (c : Slot) : Bool := mask / 2 ^ c.val % 2 = 1

/-- A mask that names at least one slot and none but C1 to C5 (R72, R151). -/
def maskValid (mask : Nat) : Bool := 0 < mask && mask < 32

/-- The slots a mask names, in the order C1 to C5. -/
def maskSlots (mask : Nat) : List Slot := allSlots.filter (maskNames mask)

/-- The claim slot of a consumer link (introduction, "Stations and links"). -/
def linkSlot (l : Link) : Option Slot :=
  if h : 1 ≤ l.val ∧ l.val ≤ 5 then some ⟨l.val - 1, by omega⟩ else none

/-- The link of a claim slot. -/
def slotLink (c : Slot) : Link := ⟨c.val + 1, by omega⟩

/-- The bank a bank number names (R139). -/
def bankOf (n : Nat) : Option BankNo := if h : n < 4 then some ⟨n, h⟩ else none

/-- DONE, or CLAMPED where a value was clamped (R158). -/
def doneOr (clamped : Bool) : Status := if clamped then .clamped else .done

/-! ## Fields of answers (R166): a value that does not fit is sent at the nearest end of the field's range -/

def put8 (n : Nat) : List Byte := [byte (saturate 255 n)]
def put16 (n : Nat) : List Byte := bytes16 (saturate 65535 n)
def put32 (n : Nat) : List Byte := bytes32 (saturate 4294967295 n)
def putSigned16 (v : Int) : List Byte := signed16 (clampInt (-32768) 32767 v)
def putSigned32 (v : Int) : List Byte := signed32 (clampInt (-2147483648) 2147483647 v)
def putFlag (b : Bool) : List Byte := [flagByte b]

/-- An absent field is sent as all ones in its width. -/
def putOpt8 : Option Nat → List Byte
  | some n => put8 n
  | none => [255]

def putOpt16 : Option Nat → List Byte
  | some n => put16 n
  | none => [255, 255]

/-- Elapsed seconds of a timer, 0xFFFF where it is stopped (R166). DESIGN CHOICE (notes/assumptions/32.md): the manual
does not say how the part of a second is reported, and the model rounds down to whole seconds. -/
def putTimer (t : Timer) : List Byte := putOpt16 (t.map (· / 1000))

/-- The concatenated fields of a table, in order. -/
def putTab {n : Nat} {α : Type} (f : α → List Byte) (t : Tab n α) : List Byte := t.list.flatMap f

/-! ## Codes of enumerated values: from 0 in the order the manual lists them (R166) -/

def ClaimState.code : ClaimState → Nat
  | .vacant => 0
  | .idle => 1
  | .waiting => 2
  | .admitted => 3
  | .running => 4
  | .shed => 5
  | .locked => 6
  | .lapsed => 7

def FlareState.code : FlareState → Nat
  | .off => 0
  | .called => 1
  | .burning => 2
  | .holding => 3
  | .failed => 4

def QualitySource.code : QualitySource → Nat
  | .live => 0
  | .held => 1
  | .substituted => 2

def ShedKind.code : ShedKind → Nat
  | .trim => 0
  | .whole => 1

def ShedReport.code : ShedReport → Nat
  | .none => 0
  | .steps => 1
  | .cutAll => 2
  | .pressureLow => 3

/-- Source codes run from 1 to 7 in the order of the table in R149 (R175). -/
def Source.code : Source → Nat
  | .k2 => 1
  | .k3 => 2
  | .k4 => 3
  | .sour => 4
  | .substituted => 5
  | .flareFailed => 6
  | .mismatch => 7

/-- The source of a source code (R175). -/
def sourceOf : Nat → Option Source
  | 1 => some .k2
  | 2 => some .k3
  | 3 => some .k4
  | 4 => some .sour
  | 5 => some .substituted
  | 6 => some .flareFailed
  | 7 => some .mismatch
  | _ => none

def Status.code : Status → Nat
  | .done => 0x00
  | .clamped => 0x01
  | .refusedAuthority => 0x10
  | .refusedState => 0x11
  | .refusedUnknown => 0x12
  | .notRegistered => 0x13
  | .busy => 0x14
  | .bankActive => 0x15
  | .bankPending => 0x16

/-- The band index as it is reported: 16 for the fall-through row (R47). -/
def Band.code : Band → Nat
  | .row n => n
  | .fallThrough => 16

/-- The lock cause set byte (section 9.5, slot summary). -/
def Locks.code (k : Locks) : Nat :=
  k.sour.toNat + 2 * k.gasRoom.toNat + 4 * k.estop.toNat + 8 * k.held.toNat

/-! ## CRC and escapes (R153, R155) -/

/-- One bit shifted out of the CRC register, generator 0x1021 (R155). -/
def crcShift (r : BitVec 16) : BitVec 16 :=
  if r.toNat < 32768 then r <<< 1 else (r <<< 1) ^^^ 0x1021

/-- One body byte taken into the CRC register, most significant bit first (R155). -/
def crcByte (r : BitVec 16) (b : Byte) : BitVec 16 :=
  crcShift (crcShift (crcShift (crcShift (crcShift (crcShift (crcShift (crcShift
    (r ^^^ BitVec.ofNat 16 (b.toNat * 256)))))))))

/-- The CRC of a body: the register starts at 0xFFFF and the remainder is not inverted (R155). -/
def crc16 (body : List Byte) : BitVec 16 := body.foldl crcByte 0xFFFF

/-- A body byte as it travels: 0xA5, 0xA6 and 0x5A as 0xA6 followed by 1, 2 or 3 (R153). -/
def escapeByte (b : Byte) : List Byte :=
  if b = 0xA5 then [0xA6, 0x01] else if b = 0xA6 then [0xA6, 0x02] else if b = 0x5A then [0xA6, 0x03] else [b]

/-- The body byte that a byte after an escape byte stands for (R153). -/
def unescape (b : Byte) : Option Byte :=
  if b = 0x01 then some 0xA5 else if b = 0x02 then some 0xA6 else if b = 0x03 then some 0x5A else none

/-- A body closed by its CRC, high byte first (R155). -/
def withCrc (body : List Byte) : List Byte := body ++ bytes16 (crc16 body).toNat

/-- A request frame as it travels (section 9.5). -/
def requestFrame (l : Link) (code : Nat) (payload : List Byte) : List Byte :=
  0xA5 :: (withCrc ([byte l.val, byte code, byte payload.length] ++ payload)).flatMap escapeByte

/-- An answer frame as it travels (section 9.5). -/
def answerFrame (l : Link) (a : Answer) : List Byte :=
  0x5A :: (withCrc ([byte l.val, byte a.code, byte a.status.code] ++ bytes16 a.passNumber ++
    [byte a.attention, byte a.payload.length] ++ a.payload)).flatMap escapeByte

end Sys2Proof.Machine
end

