-- ==== Sys2Proof/Machine/Flags.lean ====
section
/-! DEFINITION. The alert register (R161 to R165): numbering, onsets and ends, acknowledgement, the attention
byte and the alarm relay. -/

namespace Sys2Proof.Machine

open Sys2Proof

/-- The alert causes and instances of section 9.5. -/
inductive Alert where
  | meterStall (m : Meter)
  | counterOverrun (m : Meter)
  | channelFault (a : Channel)
  | qualityHeld
  | qualitySubstituted
  | sourGas
  | gasRoom
  | estop
  | holderOverfill
  | holderLow
  | pressureHigh
  | balanceMismatch
  | stackOverflow
  | startFail (c : Slot)
  | trip (c : Slot)
  | lapse (c : Slot)
  | flareRetry
  | flareFailed
  | configDefaulted
  | totalsLost
deriving DecidableEq, Repr

/-- The alert record numbers of section 9.5. -/
def alertNumber : Alert → Fin 58
  | .meterStall m => ⟨m.val, by omega⟩
  | .counterOverrun m => ⟨12 + m.val, by omega⟩
  | .channelFault a => ⟨24 + a.val, by omega⟩
  | .qualityHeld => 29
  | .qualitySubstituted => 30
  | .sourGas => 31
  | .gasRoom => 32
  | .estop => 33
  | .holderOverfill => 34
  | .holderLow => 35
  | .pressureHigh => 36
  | .balanceMismatch => 37
  | .stackOverflow => 38
  | .startFail c => ⟨39 + c.val, by omega⟩
  | .trip c => ⟨44 + c.val, by omega⟩
  | .lapse c => ⟨49 + c.val, by omega⟩
  | .flareRetry => 54
  | .flareFailed => 55
  | .configDefaulted => 56
  | .totalsLost => 57

/-- An onset: active and latched (R161). -/
def onsetOf (_ : AlertState) : AlertState := .active

/-- An end: active is cleared, latched stays (R161). -/
def endOf : AlertState → AlertState
  | .clear => .clear
  | .active => .latched
  | .latched => .latched

/-- ACK_ALERTS on one record (R161). -/
def ackOf : AlertState → AlertState
  | .clear => .clear
  | .active => .active
  | .latched => .clear

/-- The register with an onset of `a` reported. -/
def alertOnset (a : Alert) (t : Tab 58 AlertState) : Tab 58 AlertState :=
  t.set (alertNumber a) (onsetOf (t.get (alertNumber a)))

/-- The register with the end of `a` reported. -/
def alertEnd (a : Alert) (t : Tab 58 AlertState) : Tab 58 AlertState :=
  t.set (alertNumber a) (endOf (t.get (alertNumber a)))

/-- The register with the condition of `a` reported as `now` where it was `before`: an onset, an end or
nothing. -/
def alertFollow (a : Alert) (before now : Bool) (t : Tab 58 AlertState) : Tab 58 AlertState :=
  if now && !before then alertOnset a t else if before && !now then alertEnd a t else t

/-- Is the record latched (ACTIVE or LATCHED)? -/
def isLatched (a : AlertState) : Bool := a ≠ .clear

/-- The state of the record of `a`. -/
def alertState (a : Alert) (s : State) : AlertState := s.alerts.get (alertNumber a)

def isActive (a : Alert) (s : State) : Bool := alertState a s = .active

/-- The state with an onset of `a` reported to the register. -/
def raise (a : Alert) (s : State) : State := { s with alerts := alertOnset a s.alerts }

/-- The state with the end of `a` reported to the register. -/
def lower (a : Alert) (s : State) : State := { s with alerts := alertEnd a s.alerts }

/-- The overflow flag is the active indication of STACK_OVERFLOW (R113). -/
def overflowFlag (s : State) : Bool := isActive .stackOverflow s

/-- Is any record of the numbers `lo` to `hi` latched? -/
def latchedIn (lo hi : Nat) (t : Tab 58 AlertState) : Bool :=
  ((t.list.take (hi + 1)).drop lo).any isLatched

/-- Is a record of the relay set latched (R164)? SOUR_GAS, GAS_ROOM, ESTOP and HOLDER_OVERFILL are 31 to 34,
PRESSURE_HIGH and BALANCE_MISMATCH 36 and 37, FLARE_FAILED 55. -/
def relaySetLatched (t : Tab 58 AlertState) : Bool :=
  latchedIn 31 34 t || latchedIn 36 37 t || latchedIn 55 55 t

/-- The alarm relay is energized while the part is supplied and no record of its set is latched (R164). -/
def relayEnergized (s : State) : Bool := s.supplied && !relaySetLatched s.alerts

/-- The attention byte (R163). -/
def attentionByte (s : State) : Nat :=
  (latchedIn 0 28 s.alerts).toNat + 2 * (latchedIn 29 31 s.alerts).toNat +
  4 * (latchedIn 32 33 s.alerts).toNat + 8 * (latchedIn 34 37 s.alerts).toNat +
  16 * (latchedIn 38 53 s.alerts).toNat + 32 * (latchedIn 54 55 s.alerts).toNat +
  64 * (latchedIn 56 57 s.alerts).toNat + 128 * (!relayEnergized s).toNat

/-- ACK_ALERTS on every record (R162). -/
def ackAll (t : Tab 58 AlertState) : Tab 58 AlertState := Tab.gen fun n => ackOf (t.get n)

/-- Eight records' indications as one byte, record n in bit n mod 8 (section 9.5). -/
def indicationByte (p : AlertState → Bool) (t : Tab 58 AlertState) (k : Nat) : Byte :=
  byte ((List.range 8).foldl
    (fun acc b => acc + (if (t.list[8 * k + b]?.map p).getD false then 2 ^ b else 0)) 0)

/-- The eight bytes of active or of latched indications of READ_STATUS group 5. -/
def indicationBytes (p : AlertState → Bool) (t : Tab 58 AlertState) : List Byte :=
  (List.range 8).map (indicationByte p t)

end Sys2Proof.Machine
end

