-- ==== Sys2Proof/Machine/Ops.lean ====
section
/-! DEFINITION. The named operations over State that the meanings share: events and requests, flow
expectation, claim changes, the shed stack, event bindings, the quality monitor, the flare sequencer and
lock causes. -/

namespace Sys2Proof.Machine

open Sys2Proof

/-! ## Events -/

/-- An event of the part: it happens while the part is supplied; on the backup cell the blocks are stopped
and the event does not arise (R19, notes/assumptions/4.md). -/
def event (f : State → State) (s : State) : Host.Outcome State Fault Refusal :=
  .next (if s.supplied then f s else s)

/-! ## Flow expectation (R5, R7) -/

/-- Flow is expected on a meter: the table of R5. -/
def flowExpected (s : State) (m : Meter) : Bool :=
  if h : m.val < 6 then s.config.inUse.get ⟨m.val, h⟩
  else if h : m.val < 11 then
    let c := s.claims.get ⟨m.val - 6, by omega⟩
    c.state = .running && 0 < c.allotment
  else s.flare.state = .burning

/-- A meter as its flow expectation goes from `before` to `now`: the stall timer starts from zero, or is
stopped and a stall ends by expectation (R5, R7). -/
def followMeter (before now : Bool) (r : MeterRec) : MeterRec :=
  if before = now then r
  else if now then { r with stallTimer := if r.stalled then none else some 0 }
  else { r with stallTimer := none, stalled := false, recovery := 0, hold := 0 }

/-- The METER_STALL records of meters whose flow stops being expected lose their active indication (R7). -/
def followAlerts (before now : Meter → Bool) (t : Tab 58 AlertState) : Tab 58 AlertState :=
  Tab.gen fun n =>
    if h : n.val < 12 then
      (if before ⟨n.val, h⟩ && !now ⟨n.val, h⟩ then endOf (t.get n) else t.get n)
    else t.get n

/-- The meter stage follows a change of the state from `before` to `after` when it is made (R5). -/
def followFlow (before after : State) : State :=
  { after with
    meters := Tab.gen fun m => followMeter (flowExpected before m) (flowExpected after m) (after.meters.get m)
    alerts := followAlerts (flowExpected before) (flowExpected after) after.alerts }

/-- An event whose changes the meter stage follows. -/
def flowEvent (f : State → State) (s : State) : Host.Outcome State Fault Refusal :=
  event (fun s => followFlow s (f s)) s

/-! ## Claim records (R58 to R60) -/

/-- m, 0 where it is absent. -/
def Claim.min (c : Claim) : Nat := (c.limits.map (·.m)).getD 0
/-- x, 0 where it is absent. -/
def Claim.max (c : Claim) : Nat := (c.limits.map (·.x)).getD 0
/-- u, 0 where it is absent. -/
def Claim.ramp (c : Claim) : Nat := (c.limits.map (·.u)).getD 0

/-- min(r, x) less w, or 0 where that is negative; 0 where r is absent (R58). -/
def ceilingOf (request : Option Nat) (x withheld : Nat) : Nat :=
  match request with
  | some r => Nat.min r x - withheld
  | none => 0

/-- The ceiling of a claim (R58). -/
def Claim.ceiling (c : Claim) : Nat := ceilingOf c.request c.max c.withheld

/-- The lock cause set is empty. -/
def Locks.empty (k : Locks) : Bool := !(k.sour || k.gasRoom || k.estop || k.held)

def Locks.has (k : Locks) : LockCause → Bool
  | .sour => k.sour
  | .gasRoom => k.gasRoom
  | .estop => k.estop
  | .heldBySupervisor => k.held

def Locks.put (k : Locks) (cause : LockCause) (present : Bool) : Locks :=
  match cause with
  | .sour => { k with sour := present }
  | .gasRoom => { k with gasRoom := present }
  | .estop => { k with estop := present }
  | .heldBySupervisor => { k with held := present }

/-- The fields whose change moves the epoch (R59). -/
def sameCounted (a b : Claim) : Bool :=
  a.state = b.state && a.limits = b.limits && a.request = b.request && a.standing = b.standing &&
    a.orphaned = b.orphaned && a.soft = b.soft && a.allotment = b.allotment && a.locks = b.locks

/-- One request or event outside the apply stage changes a record: the epoch goes up by one if a counted
field changed, and stays otherwise (R59). -/
def commit (old new : Claim) : Claim :=
  if sameCounted old new then new else { new with epoch := wrapSucc 65535 old.epoch }

/-- Entry to IDLE: allotment 0, standing and soft clear, r absent, both timers stopped (R61, R66, R68). -/
def toIdle (c : Claim) : Claim :=
  { c with state := .idle, allotment := 0, standing := false, soft := false, request := none, lease := none,
           start := none }

/-- Entry to LAPSED; standing and r are kept (R62). -/
def toLapsed (c : Claim) : Claim :=
  { c with state := .lapsed, allotment := 0, soft := false, lease := none, start := none }

/-- The lease timer of a claim that enters a running state of R61: it starts from zero out of VACANT, IDLE and
LAPSED, and keeps its count otherwise. -/
def leaseOnEntry (c : Claim) : Timer :=
  match c.state with
  | .vacant | .idle | .lapsed => some 0
  | .waiting | .admitted | .running | .shed | .locked => c.lease

/-- Entry to LOCKED; standing and r are kept (R70). -/
def toLocked (c : Claim) : Claim :=
  { c with state := .locked, allotment := 0, soft := false, lease := leaseOnEntry c, start := none }

/-- Entry to VACANT (R76): the lock cause set and the epoch are kept. -/
def toVacant (c : Claim) : Claim :=
  { c with state := .vacant, limits := none, request := none, standing := false, soft := false,
           allotment := 0, lastRate := 0, lease := none, start := none }

/-- A claim whose records, of the given total amount, have been purged: w falls by them and by the orphaned
amount, which is cleared (R75, R115). -/
def purged (removed : Nat) (c : Claim) : Claim :=
  { c with withheld := c.withheld - removed - c.orphaned, orphaned := 0 }

/-- The state with one claim record changed outside the apply stage (R59). -/
def changeClaim (c : Slot) (f : Claim → Claim) (s : State) : State :=
  { s with claims := s.claims.set c (commit (s.claims.get c) (f (s.claims.get c))) }

/-! ## Shed stack (chapter 6) -/

/-- The sum of a slot's record amounts. -/
def slotSum (c : Slot) (rs : List ShedRecord) : Nat :=
  ((rs.filter (fun r => r.slot = c)).map (·.amount)).sum

/-- The number of a slot's records. -/
def slotCount (c : Slot) (rs : List ShedRecord) : Nat := (rs.filter (fun r => r.slot = c)).length

/-- The stack without the records `p` picks; the change count goes up by one if any left (R115, R118). -/
def dropRecords (p : ShedRecord → Bool) (k : ShedStack) : ShedStack :=
  { records := k.records.filter (fun r => !p r)
    changes := if k.records.any p then wrapSucc 255 k.changes else k.changes }

/-- A claim change with a purge: every record of the slot leaves the stack, w and orphaned follow, and `f`
makes the transition; one event, one step of the epoch (R59, R75, R115). -/
def changePurging (c : Slot) (f : Claim → Claim) (s : State) : State :=
  changeClaim c (fun cl => f (purged (slotSum c s.stack.records) cl))
    { s with stack := dropRecords (fun r => r.slot = c) s.stack }

/-- The stack holds at most 16 records (R110). -/
def stackDepth : Nat := 16

/-- The eviction that a push onto a full stack makes: the bottom record's amount moves to its slot's orphaned
amount, and the overflow flag is set (R112, R113). -/
def evict (s : State) : State :=
  if s.stack.records.length < stackDepth then s
  else
    match s.stack.records.getLast? with
    | none => s
    | some r =>
      raise .stackOverflow
        { s with
          stack := { s.stack with records := s.stack.records.dropLast }
          claims := s.claims.modify r.slot fun c => { c with orphaned := c.orphaned + r.amount } }

/-- A push (R111): the record goes on top and the slot's live w rises by its amount; no epoch moves. -/
def pushRecord (r : ShedRecord) (s : State) : State :=
  let s := evict s
  { s with
    stack := { records := r :: s.stack.records, changes := wrapSucc 255 s.stack.changes }
    claims := s.claims.modify r.slot fun c => { c with withheld := c.withheld + r.amount } }

/-- A pop of the top record `r` over the rest (R114). -/
def popRecord (r : ShedRecord) (rest : List ShedRecord) (s : State) : State :=
  { s with
    stack := { records := rest, changes := wrapSucc 255 s.stack.changes }
    claims := s.claims.modify r.slot fun c => { c with withheld := c.withheld - r.amount } }

/-! ## Policy banks: the pending switch and the event bindings (R140, R150) -/

/-- Setting the pending switch to bank `b` (R140). -/
def setSwitch (active b : BankNo) : Option BankNo := if b = active then none else some b

/-- The pending switch after an onset of `source`: each binding that names it sets the switch, in
binding-number order (R150). -/
def fireBindings (bindings : Tab 6 (Option Binding)) (active : BankNo) (source : Source)
    (switch : Option BankNo) : Option BankNo :=
  bindings.list.foldl
    (fun sw b =>
      match b with
      | some b => if b.source = source then setSwitch active b.bank else sw
      | none => sw)
    switch

/-- An onset of a binding source is signalled to the policy banks (R150). -/
def signal (source : Source) (s : State) : State :=
  { s with policy :=
      { s.policy with switch := fireBindings s.config.bindings s.policy.active source s.policy.switch } }

/-- The bank in force. -/
def activeBank (s : State) : Bank := s.config.banks.get s.policy.active

/-! ## Quality monitor (R21 to R25) -/

/-- The plausible band of the methane fraction (section 2.1). -/
def plausible (ch4 : Int) : Bool := 300 ≤ ch4 && ch4 ≤ 900

/-- HELD to SUBSTITUTED (R24). -/
def enterSubstituted (s : State) : State :=
  signal .substituted <| raise .qualitySubstituted <| lower .qualityHeld
    { s with quality :=
        { s.quality with source := .substituted, ch4 := s.config.defaultCh4, h2s := s.config.defaultH2s,
                         hold := none } }

/-- LIVE to HELD (R21, R22); with a quality hold time of 0 the timer expires as it starts (R23). -/
def enterHeld (s : State) : State :=
  let s := raise .qualityHeld { s with quality := { s.quality with source := .held, hold := some 0 } }
  if s.config.qualityHold = 0 then enterSubstituted s else s

/-- Entry to LIVE by a taken QUALITY_RESUME (R25). -/
def enterLive (s : State) : State :=
  lower .qualitySubstituted <| lower .qualityHeld
    { s with quality :=
        { s.quality with source := .live, ch4 := (s.channels.get chA4).reading.toNat,
                         h2s := (s.channels.get chA5).reading.toNat, hold := none } }

/-- A4 and A5 not in fault and CH4 in the plausible band (R20, R25, R27). -/
def samplesQualify (s : State) : Bool :=
  !(s.channels.get chA4).fault && !(s.channels.get chA5).fault && plausible (s.channels.get chA4).reading

/-! ## Holder conditions kept outside the holder stage (R54) -/

/-- The overfill condition: K3 closed or the fall-through row (R54). -/
def overfillNow (s : State) : Bool :=
  (s.contacts.get conK3).debounced || s.holder.band = .fallThrough

/-- The overfill condition and its alert follow K3 and the band index (R54). -/
def followOverfill (s : State) : State :=
  { s with
    holder := { s.holder with overfill := overfillNow s }
    alerts := alertFollow .holderOverfill s.holder.overfill (overfillNow s) s.alerts }

/-! ## Lock causes (R69 to R71) -/

/-- Is the claim in a state that a lock cause takes to LOCKED (R70)? -/
def lockable : ClaimState → Bool
  | .idle | .waiting | .admitted | .running | .shed => true
  | .vacant | .locked | .lapsed => false

/-- A cause is added to a slot's lock cause set (R69, R70). -/
def addCause (cause : LockCause) (s : State) (c : Slot) : State :=
  let old := s.claims.get c
  if old.locks.has cause then s
  else if lockable old.state then
    changePurging c (fun cl => toLocked { cl with locks := cl.locks.put cause true }) s
  else changeClaim c (fun cl => { cl with locks := cl.locks.put cause true }) s

/-- A claim whose lock cause set has just lost a cause: a LOCKED claim with an empty set leaves LOCKED, to
WAITING with soft set or to IDLE (R71). -/
def unlocked (cl : Claim) : Claim :=
  if cl.state = .locked && cl.locks.empty then
    (if cl.standing then { cl with state := .waiting, soft := true } else toIdle cl)
  else cl

/-- A cause is removed from a slot's lock cause set (R69, R71). -/
def removeCause (cause : LockCause) (s : State) (c : Slot) : State :=
  if (s.claims.get c).locks.has cause then
    changeClaim c (fun cl => unlocked { cl with locks := cl.locks.put cause false }) s
  else s

/-- The slots a cause applies to (R69); HELD_BY_SUPERVISOR applies to the slots named. -/
def causeSlots : LockCause → List Slot
  | .sour | .estop => [0, 1, 2, 3]
  | .gasRoom | .heldBySupervisor => [0, 1, 2, 3, 4]

/-- The onset of a plant cause on every slot it applies to (R69). -/
def lockAll (cause : LockCause) (s : State) : State := (causeSlots cause).foldl (addCause cause) s

/-- The end of a plant cause (R69). -/
def unlockAll (cause : LockCause) (s : State) : State := (causeSlots cause).foldl (removeCause cause) s

/-! ## Flare sequencer (chapter 7) -/

/-- The state with the flare sequencer changed. -/
def withFlare (f : Flare → Flare) (s : State) : State := { s with flare := f s.flare }

/-- Burner ready: ready yes and no fault (R123). -/
def FlareReport.isReady (r : FlareReport) : Bool := r.ready && !r.fault

/-- Flame proven (R123). -/
def FlareReport.proven (r : FlareReport) : Bool := r.flame && !r.fault

/-- In OFF, CALLED at once if the call is held, the permit set and the burner ready (R125). -/
def tryStart (f : Flare) : Flare :=
  if f.state = .off && f.heldCall && f.permit && f.report.isReady then
    { f with state := .called, attempts := 1, ignition := some 0, demand := f.heldDemand }
  else f

/-- Entry to OFF: demand and attempts 0, both timers stopped (R126, R130, R134). -/
def toOff (f : Flare) : Flare :=
  { f with state := .off, demand := 0, attempts := 0, ignition := none, minBurn := none }

/-- Entry to OFF out of an ignition or by a withdrawn permit: FLARE_RETRY ends (R126, R134). -/
def abandonFlare (s : State) : State := lower .flareRetry (withFlare toOff s)

/-- The end of an attempt, or a loss of flame in BURNING: a retry below the attempts setting, FAILED at it
(R127, R129, R132). -/
def endAttempt (s : State) : State :=
  if s.flare.attempts < s.config.flareAttempts then
    raise .flareRetry
      (withFlare (fun f => { f with state := .called, attempts := f.attempts + 1, ignition := some 0 }) s)
  else
    signal .flareFailed <| raise .flareFailed <| lower .flareRetry <|
      withFlare (fun f => { f with state := .failed, ignition := none, demand := 0 }) s

/-- CALLED to BURNING: a start is counted and FLARE_RETRY ends (R126). -/
def proveFlame (s : State) : State :=
  lower .flareRetry
    (withFlare (fun f => { f with state := .burning, ignition := none, starts := f.starts + 1 }) s)

/-- BURNING to HOLDING; with a flare minimum burn of 0 the timer expires as it starts (R129, R131). -/
def enterHolding (s : State) : State :=
  if s.config.minBurn = 0 then withFlare toOff s
  else withFlare (fun f => { f with state := .holding, minBurn := some 0, demand := s.config.flareMin }) s

/-- The hand-over of a pass's call and demand (R121): the held figures are taken, the demand clamped to the
flare range as it stands, and the sequencer acts by its state. -/
def handOver (call : Bool) (demand : Nat) (s : State) : State :=
  let held := if call then clampNat s.config.flareMin s.config.flareMax demand else 0
  let s := withFlare (fun f => { f with heldCall := call, heldDemand := held }) s
  match s.flare.state with
  | .off => withFlare tryStart s
  | .called => if call then withFlare (fun f => { f with demand := held }) s else abandonFlare s
  | .burning => if call then withFlare (fun f => { f with demand := held }) s else enterHolding s
  | .holding =>
    if call then withFlare (fun f => { f with state := .burning, minBurn := none, demand := held }) s
    else withFlare (fun f => { f with demand := s.config.flareMin }) s
  | .failed => s

/-- A FLARE_STATUS taken (R123): the report is recorded and acted on by the state. -/
def takeReport (r : FlareReport) (s : State) : State :=
  let s := withFlare (fun f => { f with report := r }) s
  match s.flare.state with
  | .off => withFlare tryStart s
  | .called => if r.proven then proveFlame s else endAttempt s
  | .burning => if r.proven then s else endAttempt s
  | .holding => if r.proven then s else withFlare toOff s
  | .failed => s

/-! ## Timers -/

/-- A running timer has run for `ms` milliseconds or longer. -/
def timerAtLeast (t : Timer) (ms : Nat) : Bool :=
  match t with
  | some k => ms ≤ k
  | none => false

/-- A running timer has run for `seconds` or longer. -/
def timerReached (t : Timer) (seconds : Nat) : Bool := timerAtLeast t (seconds * 1000)

/-! ## Timer expiries that a CONFIGURE can also bring about (R6, R23, R24, R61, R62, R67, R68, R128, R131): a
timer expires when it has run for its setting, and is left alone before (notes/assumptions/4.md) -/

/-- The stall timer of a meter has run for the stall time (R6). -/
def stallOver (m : Meter) (s : State) : Bool := timerReached (s.meters.get m).stallTimer s.config.stallTime

/-- The stall timer of a meter expires (R6). -/
def stallExpires (m : Meter) (s : State) : State :=
  if stallOver m s then
    raise (.meterStall m)
      { s with meters := s.meters.modify m fun r =>
          { r with stallTimer := none, stalled := true, recovery := 0, hold := 0 } }
  else s

/-- The quality hold timer has run for the quality hold time in HELD (R23). -/
def holdOver (s : State) : Bool :=
  s.quality.source = .held && timerReached s.quality.hold s.config.qualityHold

/-- The quality hold timer expires in HELD (R24). -/
def holdExpires (s : State) : State := if holdOver s then enterSubstituted s else s

/-- The states in which a claim's lease timer runs (R61). -/
def leased : ClaimState → Bool
  | .waiting | .admitted | .running | .shed | .locked => true
  | .vacant | .idle | .lapsed => false

/-- The lease of a claim has run for the lease time (R61, R62). -/
def leaseOver (c : Slot) (s : State) : Bool :=
  leased (s.claims.get c).state && timerReached (s.claims.get c).lease s.config.lease

/-- The lease of a claim expires (R62). -/
def leaseExpires (c : Slot) (s : State) : State :=
  if leaseOver c s then raise (.lapse c) (changePurging c toLapsed s) else s

/-- The start timer of an ADMITTED claim has run for the start timeout (R67, R68). -/
def startOver (c : Slot) (s : State) : Bool :=
  (s.claims.get c).state = .admitted && timerReached (s.claims.get c).start s.config.startTimeout

/-- The start timer of an ADMITTED claim expires (R68). -/
def startExpires (c : Slot) (s : State) : State :=
  if startOver c s then raise (.startFail c) (changePurging c toIdle s) else s

/-- The ignition timer has run for the ignition timeout in CALLED (R127, R128). -/
def ignitionOver (s : State) : Bool :=
  s.flare.state = .called && timerReached s.flare.ignition s.config.ignitionTimeout

/-- The ignition timer expires in CALLED (R127). -/
def ignitionExpires (s : State) : State := if ignitionOver s then endAttempt s else s

/-- The minimum-burn timer has run for the flare minimum burn in HOLDING (R130, R131). -/
def minBurnOver (s : State) : Bool :=
  s.flare.state = .holding && timerReached s.flare.minBurn s.config.minBurn

/-- The minimum-burn timer expires in HOLDING (R130). -/
def minBurnExpires (s : State) : State := if minBurnOver s then withFlare toOff s else s

end Sys2Proof.Machine
end

