-- ==== Sys2Proof/Machine/Links.lean ====
section
/-! DEFINITION. Link ports, frames, answers and the service of a request (chapter 9): R153 to R159, R166. -/

namespace Sys2Proof.Machine

open Sys2Proof

/-! ## Summaries (R79, R124, R159) -/

/-- The slot summary of a claim slot (R79; section 9.5, 11 bytes). -/
def slotSummary (s : State) (c : Slot) : List Byte :=
  let cl := s.claims.get c
  put8 cl.state.code ++ put16 cl.allotment ++ put16 cl.ceiling ++ put32 cl.withheld ++ put8 cl.locks.code ++
    putFlag cl.soft

/-- The flare summary (R124; section 9.5, 6 bytes). -/
def flareSummary (s : State) : List Byte :=
  putFlag s.flare.heldCall ++ put16 s.flare.demand ++ put8 s.flare.state.code ++ put8 s.flare.attempts ++
    putFlag s.flare.permit

/-- The summary that opens every answer on a link: none on link 0 (R159). -/
def summaryOf (l : Link) (s : State) : List Byte :=
  if l = 0 then []
  else if l = 6 then flareSummary s
  else
    match linkSlot l with
    | some c => slotSummary s c
    | none => []

/-! ## Answers (R156, R158) -/

/-- The answer built after the request has been served (R158). -/
def buildAnswer (l : Link) (code : Nat) (status : Status) (figures : List Byte) (s : State) : Answer :=
  { code, status, passNumber := s.balance.passNumber, attention := attentionByte s,
    payload := summaryOf l s ++ figures }

/-- A port with an answer built: out of HOLD it begins to send (R153, R156); a request brought to the block
without its frame (notes/assumptions/3.md) leaves the port's reception as it is. -/
def answered (a : Answer) (p : Port) : Port :=
  if p.state = .hold then
    { p with state := .send, held := none, answer := some a, sending := some 0 }
  else { p with answer := some a }

/-- The state with a request on link `l` answered. -/
def respond (l : Link) (code : Nat) (status : Status) (figures : List Byte) (s : State) : State :=
  { s with ports := s.ports.modify l (answered (buildAnswer l code status figures s)) }

/-- What an owning block makes of a request: the state after it, the status and the figures of the answer. -/
structure Served where
  state : State
  status : Status
  figures : List Byte := []

/-- A request of the given code served on link `l`: refused for authority, or served by its owning block with
the meter stage following the change (R5, R157, R158). -/
def request (l : Link) (code : Nat) (serve : State → Served) (s : State) : Host.Outcome State Fault Refusal :=
  event
    (fun s =>
      if codeAllowed l code then
        let v := serve s
        respond l code v.status v.figures (followFlow s v.state)
      else respond l code .refusedAuthority [] s)
    s

/-- A consumer request: the link fixes the slot (R157, chapter 4.4). -/
def consumerRequest (l : Link) (code : Nat) (serve : Slot → State → Served) (s : State) :
    Host.Outcome State Fault Refusal :=
  request l code
    (fun s =>
      match linkSlot l with
      | some c => serve c s
      | none => { state := s, status := .refusedAuthority })
    s

/-! ## Reception (R153) -/

/-- A port back in HUNT, its reception dropped; the answer last built stays. -/
def toHunt (p : Port) : Port :=
  { p with state := .hunt, body := [], escaped := false, gap := none, held := none, sending := none }

/-- A port that starts reception with a start byte. -/
def toReceive (p : Port) : Port :=
  { p with state := .receive, body := [], escaped := false, gap := some 0 }

/-- The length a body has when its frame is complete: link, code, length, payload and two CRC bytes;
unknown before the payload length byte. -/
def bodyLength (body : List Byte) : Option Nat := (body[2]?).map fun n => n.toNat + 5

/-- The last CRC byte has been received. -/
def frameComplete (body : List Byte) : Bool := bodyLength body = some body.length

/-- A body byte is added: a payload length above 48 discards the frame (R153). -/
def addBody (b : Byte) (p : Port) : Port :=
  if p.body.length = 2 && 48 < b.toNat then toHunt p
  else { p with body := p.body ++ [b], escaped := false, gap := some 0 }

/-- A byte received in RECEIVE (R153). -/
def receiveByte (b : Byte) (p : Port) : Port :=
  if b = 0xA5 then toReceive p
  else if p.escaped then
    match unescape b with
    | some c => addBody c p
    | none => toHunt p
  else if b = 0x5A then toHunt p
  else if b = 0xA6 then { p with escaped := true, gap := some 0 }
  else addBody b p

/-- A byte arrives at a port (R153). In RECEIVE with a complete frame the check comes first, so a byte before
it is ignored as in HOLD (notes/assumptions/9.md). -/
def portByte (b : Byte) (p : Port) : Port :=
  match p.state with
  | .hunt => if b = 0xA5 then toReceive p else p
  | .receive => if frameComplete p.body then p else receiveByte b p
  | .hold | .send => p

/-- BYTE_RECEIVED (R153). -/
def execByteReceived (l : Link) (b : Byte) (s : State) : Host.Outcome State Fault Refusal :=
  event (fun s => { s with ports := s.ports.modify l (portByte b) }) s

/-- The gap timer of a port that receives an incomplete frame has passed 5 ms (R153). -/
def gapOver (p : Port) : Bool := p.state = .receive && !frameComplete p.body && timerAtLeast p.gap 6

/-- GAP_TIMER_EXPIRY (R153): in RECEIVE a gap of more than 5 ms discards the frame. -/
def execGapTimerExpiry (l : Link) (s : State) : Host.Outcome State Fault Refusal :=
  event (fun s => { s with ports := s.ports.modify l fun p => if gapOver p then toHunt p else p }) s

/-- ANSWER_SENT (R153, R156): the port returns from SEND to HUNT. -/
def execAnswerSent (l : Link) (s : State) : Host.Outcome State Fault Refusal :=
  event
    (fun s => { s with ports := s.ports.modify l fun p => if p.state = .send then toHunt p else p }) s

/-! ## A complete frame (R154, R157) -/

/-- The frame check: the CRC over the body from the link number to the last payload byte, and the link number
(R154, R155). -/
def frameValid (l : Link) (body : List Byte) : Bool :=
  let n := body.length - 2
  body.drop n = bytes16 (crc16 (body.take n)).toNat && body.head? = some (byte l.val)

/-- The request a valid body carries. -/
def heldOf (body : List Byte) : HeldRequest :=
  { code := ((body[1]?).map BitVec.toNat).getD 0, payload := (body.drop 3).take (body.length - 5) }

/-- A valid frame restarts the lease of its link's slot while it runs (R61, R154). -/
def restartLease (l : Link) (s : State) : State :=
  match linkSlot l with
  | some c =>
    { s with claims := s.claims.modify c fun cl =>
        if leased cl.state then { cl with lease := cl.lease.map fun _ => 0 } else cl }
  | none => s

/-- A valid frame: the port moves to HOLD with the request, and the checks of R157 answer it at once where it
is not allowed or ill formed; a request that passes them waits for its owning block, an unknown code for
UNKNOWN_REQUEST. -/
def admitFrame (l : Link) (h : HeldRequest) (s : State) : State :=
  let s := restartLease l
    { s with ports := s.ports.modify l fun p =>
        { p with state := .hold, body := [], escaped := false, gap := none, held := some h } }
  match checkRequest l h.code h.payload with
  | .notAllowed => respond l h.code .refusedAuthority [] s
  | .badForm => respond l h.code .refusedUnknown [] s
  | .unknownCode | .request _ => s

/-- FRAME_RECEIVED (R154): a complete frame in the link's port is discarded or handed on. -/
def execFrameReceived (l : Link) (s : State) : Host.Outcome State Fault Refusal :=
  event
    (fun s =>
      let p := s.ports.get l
      if p.state = .receive && frameComplete p.body then
        (if frameValid l p.body then admitFrame l (heldOf p.body) s
         else { s with ports := s.ports.modify l toHunt })
      else s)
    s

/-- UNKNOWN_REQUEST (R157, R158): a code outside the code table is answered REFUSED_UNKNOWN. -/
def execUnknownRequest (l : Link) (code : Nat) (s : State) : Host.Outcome State Fault Refusal :=
  event (fun s => respond l code .refusedUnknown [] s) s

end Sys2Proof.Machine
end

