-- ==== Sys2Proof/Machine/FlareSteps.lean ====
section
/-! DEFINITION. The flare sequencer's steps (chapter 7): FLARE_STATUS, IGNITION_TIMER_EXPIRY,
MINIMUM_BURN_TIMER_EXPIRY, BURN_TIME_SECOND, FLARE_RESET, FLARE_PERMIT. -/

namespace Sys2Proof.Machine

open Sys2Proof

/-- FLARE_STATUS (R123): taken in every state and answered DONE. -/
def execFlareStatus (l : Link) (flame ready fault : Bool) (s : State) : Host.Outcome State Fault Refusal :=
  request l 0x20 (fun s => { state := takeReport ⟨flame, ready, fault⟩ s, status := .done }) s

/-- IGNITION_TIMER_EXPIRY (R127). -/
def execIgnitionTimerExpiry (s : State) : Host.Outcome State Fault Refusal := flowEvent ignitionExpires s

/-- MINIMUM_BURN_TIMER_EXPIRY (R130). -/
def execMinimumBurnTimerExpiry (s : State) : Host.Outcome State Fault Refusal := flowEvent minBurnExpires s

/-- The burn time advances: the sequencer is BURNING or HOLDING (R136). -/
def burns (f : Flare) : Bool := f.state = .burning || f.state = .holding

/-- BURN_TIME_SECOND (R136): a whole second of burn time is added and its count begins again at 0. -/
def execBurnTimeSecond (s : State) : Host.Outcome State Fault Refusal :=
  event
    (fun s =>
      if 1000 ≤ s.flare.burnMs then
        withFlare (fun f => { f with burnMs := 0, burnSeconds := f.burnSeconds + 1 }) s
      else s)
    s

/-- FLARE_RESET served (R133): FAILED to OFF, and to CALLED at once if the start conditions hold. -/
def serveFlareReset (s : State) : Served :=
  if s.flare.state = .failed then
    { state := lower .flareFailed
        (withFlare (fun f => tryStart { f with state := .off, attempts := 0, demand := 0 }) s)
      status := .done }
  else { state := s, status := .refusedState }

/-- FLARE_RESET (R133). -/
def execFlareReset (l : Link) (s : State) : Host.Outcome State Fault Refusal := request l 0x37 serveFlareReset s

/-- The permit set or cleared (R134). -/
def setPermit (on : Bool) (s : State) : State :=
  if on = s.flare.permit then s
  else
    let t := withFlare (fun f => { f with permit := on }) s
    if on then withFlare tryStart t
    else
      match s.flare.state with
      | .called | .burning | .holding => abandonFlare t
      | .off | .failed => t

/-- FLARE_PERMIT (R134): taken always and answered DONE. -/
def execFlarePermit (l : Link) (on : Bool) (s : State) : Host.Outcome State Fault Refusal :=
  request l 0x36 (fun s => { state := setPermit on s, status := .done }) s

end Sys2Proof.Machine
end

