-- ==== Sys2Proof/Machine/Field.lean ====
section
/-! DEFINITION. Field events (chapter 1): PULSE, STALL_TIMER_EXPIRY, CONTACT_CHANGE, DEBOUNCE_EXPIRY; and the
sampling of the analog channels that the sample stage and the starts share (R12 to R14). -/

namespace Sys2Proof.Machine

open Sys2Proof

/-! ## Pulses and stalls -/

/-- A line is counted unless it is a production line out of use (R1). -/
def lineCounted (s : State) (m : Meter) : Bool :=
  if h : m.val < 6 then s.config.inUse.get ⟨m.val, h⟩ else true

/-- A pulse on one meter's record: the counter saturates at 65,535 and the running stall timer restarts
(R1, R5). -/
def countPulse (r : MeterRec) : MeterRec :=
  { r with count := saturate 65535 (r.count + 1), stallTimer := r.stallTimer.map fun _ => 0 }

/-- PULSE (R1, R2). -/
def execPulse (m : Meter) (s : State) : Host.Outcome State Fault Refusal :=
  event
    (fun s =>
      if lineCounted s m then
        let t := { s with meters := s.meters.modify m countPulse }
        if (s.meters.get m).count < 65535 then t else raise (.counterOverrun m) t
      else s)
    s

/-- STALL_TIMER_EXPIRY (R6). -/
def execStallTimerExpiry (m : Meter) (s : State) : Host.Outcome State Fault Refusal := event (stallExpires m) s

/-! ## Contacts -/

/-- A raw change of a contact while the part is supplied: away from the debounced state the debounce timer
starts from zero, back to it the timer stops (R15). -/
def rawChange (closed : Bool) (k : ContactRec) : ContactRec :=
  if closed = k.raw then k
  else { k with raw := closed, timer := if closed = k.debounced then none else some 0 }

/-- CONTACT_CHANGE (R15). On the backup cell the input changes unseen; a start reads it (R18, R19). -/
def execContactChange (k : Contact) (closed : Bool) (s : State) : Host.Outcome State Fault Refusal :=
  .next
    { s with contacts := s.contacts.modify k fun c =>
        if s.supplied then rawChange closed c else { c with raw := closed } }

/-- The onset of a contact, signalled to its receivers (R16). -/
def contactOnset (k : Contact) (s : State) : State :=
  if k = conK2 then signal .k2 (raise .gasRoom (lockAll .gasRoom s))
  else if k = conK3 then signal .k3 (followOverfill s)
  else if k = conK4 then signal .k4 (raise .estop (lockAll .estop s))
  else s

/-- The end of a contact, signalled to its receivers (R16, R22). -/
def contactEnd (k : Contact) (s : State) : State :=
  if k = conK2 then lower .gasRoom (unlockAll .gasRoom s)
  else if k = conK3 then followOverfill s
  else if k = conK4 then lower .estop (unlockAll .estop s)
  else if s.quality.source = .live then enterHeld s
  else s

/-- The time a contact must stay changed, in ms (R15). -/
def debounceMs : Nat := 200

/-- The debounce timer of a contact has reached 200 ms (R15). -/
def debounceOver (k : Contact) (s : State) : Bool := timerAtLeast (s.contacts.get k).timer debounceMs

/-- DEBOUNCE_EXPIRY (R15, R16): with the timer at 200 ms the debounced state takes the raw state, an onset or an
end. -/
def execDebounceExpiry (k : Contact) (s : State) : Host.Outcome State Fault Refusal :=
  flowEvent
    (fun s =>
      let c := s.contacts.get k
      if debounceOver k s then
        let t := { s with contacts := s.contacts.set k { c with debounced := c.raw, timer := none } }
        if c.raw && !c.debounced then contactOnset k t
        else if c.debounced && !c.raw then contactEnd k t
        else t
      else s)
    s

/-! ## Analog channels (R12 to R14) -/

/-- The class of a sample, with its value (R12). -/
inductive Sample where
  | good (v : Int)
  | clampLow (v : Int)
  | clampHigh (v : Int)
  | fault
deriving DecidableEq, Repr

/-- Classification and scaling of a loop current (R12). -/
def classify (r : Range) (amps : Nat) : Sample :=
  if 4000 ≤ amps ∧ amps ≤ 20000 then
    .good (r.lo + roundHalfUp (((amps : Int) - 4000) * (r.hi - r.lo)) 16000)
  else if 3600 ≤ amps ∧ amps < 4000 then .clampLow r.lo
  else if 20000 < amps ∧ amps ≤ 21000 then .clampHigh r.hi
  else .fault

/-- A value becomes the reading and the last good value (R12). -/
def takeReading (v : Int) (c : ChannelRec) : ChannelRec := { c with reading := v, lastGood := v }

/-- A sample on one channel (R12 to R14). -/
def sampleChannel (sample : Sample) (c : ChannelRec) : ChannelRec :=
  if c.fault then
    match sample with
    | .good v =>
      if 3 ≤ c.recovery + 1 then takeReading v { c with fault := false, recovery := 0 }
      else { c with recovery := c.recovery + 1 }
    | .clampLow _ | .clampHigh _ | .fault => { c with recovery := 0 }
  else
    match sample with
    | .good v => takeReading v c
    | .clampLow v => takeReading v c
    | .clampHigh v => takeReading v c
    | .fault => { c with fault := true, recovery := 0, reading := c.lastGood }

/-- The channels after a sample of all five (R12). -/
def sampleAll (ranges : Tab 5 Range) (amps : Currents) (channels : Tab 5 ChannelRec) : Tab 5 ChannelRec :=
  Tab.gen fun a => sampleChannel (classify (ranges.get a) (amps.get a)) (channels.get a)

/-- The CHANNEL_FAULT records follow the fault flags (R13, R14). -/
def followChannelAlerts (before after : Tab 5 ChannelRec) (t : Tab 58 AlertState) : Tab 58 AlertState :=
  ([chA1, chA2, chA3, chA4, chA5] : List Channel).foldl
    (fun t a => alertFollow (.channelFault a) (before.get a).fault (after.get a).fault t) t

/-- The analog stage samples all channels at once (R12). -/
def sampleAnalog (amps : Currents) (s : State) : State :=
  { s with
    loops := amps
    channels := sampleAll s.config.ranges amps s.channels
    alerts := followChannelAlerts s.channels (sampleAll s.config.ranges amps s.channels) s.alerts }

end Sys2Proof.Machine
end

