-- ==== Sys2Proof/Machine/PassInput.lean ====
section
/-! DEFINITION. The balance pass from the bank stage to the snapshot stage (chapter 5.1 to 5.3, with chapters
1 to 3): PASS_TIMER_EXPIRY, SAMPLE_STAGE, MEASURE_STAGE, HOLDER_STAGE, SNAPSHOT_STAGE. -/

namespace Sys2Proof.Machine

open Sys2Proof

/-! ## Stages -/

/-- A stage step acts on the pass in flight when that pass has completed the stage before it; otherwise the
step does not arise and nothing changes (notes/assumptions/4.md). -/
def inStage (stage : PassStage) (f : Pass → State → State) (s : State) : State :=
  match s.balance.pass with
  | some p => if p.stage = stage then f p s else s
  | none => s

/-- The state with the pass in flight replaced. -/
def withPass (p : Pass) (s : State) : State := { s with balance := { s.balance with pass := some p } }

/-! ## Bank stage: PASS_TIMER_EXPIRY (R83, R86, R142) -/

/-- The working copy before the snapshot stage. -/
def emptyWork : WorkClaim :=
  { state := .vacant, m := 0, x := 0, u := 0, request := none, withheld := 0, allotment := 0, soft := false,
    epoch := 0 }

/-- The settings a pass keeps from its beginning (R31, R41, R175). -/
def passSettings (k : WorkingConfig) : PassSettings :=
  { factors := k.factors, inUse := k.inUse, ambient := k.ambient, defaultTemp := k.defaultTemp,
    filterShift := k.filterShift, stallHold := k.stallHold }

/-- The decisions before the shortfall stage. -/
def emptyDecisions : Decisions :=
  { work := Tab.fill 5 emptyWork, toPush := [], pushed := [], shedMade := false, kind := .none, steps := 0,
    restored := none, admitted := none, sumCeilings := 0, sumAllotments := 0, allotments := Tab.fill 5 0,
    call := false, demand := 0 }

/-- A pass that begins with period `T`, its bank stage having taken a switch or not. -/
def beginPass (k : WorkingConfig) (period : Nat) (switched : Bool) : Pass :=
  { stage := .banked, period, switched, settings := passSettings k,
    sampled :=
      { counts := Tab.fill 12 0, substitutes := Tab.fill 12 none, a1Ended := false, k3 := false, ch4 := 0,
        h2s := 0, source := .live, lineChanged := Tab.fill 6 false },
    measured := { figures := Tab.fill 12 ⟨0, 0, 0⟩, pRaw := 0, pF := 0 },
    handed := { band := .row 0, overfill := false, pressureHigh := false, pressureLow := false },
    snapshot :=
      { claims := Tab.fill 5 emptyWork, siteLimit := 0, restoreSpacing := 0, flareMin := 0, flareMax := 0,
        row := defaultFall, ranks := Tab.fill 5 0, distributable := 0 },
    decisions := emptyDecisions }

/-- The bank stage takes a pending switch (R142). -/
def takeSwitch (p : Policy) : Policy :=
  match p.switch with
  | some b => { p with active := b, switch := none }
  | none => p

/-- The pass timer has run for the T its run began with, and no pass is in flight (R83). -/
def passOver (s : State) : Bool := s.balance.pass.isNone && s.balance.period * 1000 ≤ s.balance.timer

/-- PASS_TIMER_EXPIRY (R83, R86): the timer restarts with the T of the working configuration, and a pass begins
with the T of the run that ended. At most one pass is in flight. -/
def execPassTimerExpiry (s : State) : Host.Outcome State Fault Refusal :=
  event
    (fun s =>
      if passOver s then
        { s with
          policy := takeSwitch s.policy
          balance :=
            { s.balance with
              timer := 0
              period := s.config.period
              pass := some (beginPass s.config s.balance.period s.policy.switch.isSome) } }
      else s)
    s

/-! ## Sample stage (R87) -/

/-- One meter's snapshot (R3, R7, R10): the counter goes to 0; a stalled meter's recovery count moves and at 3
ends the stall; a production meter still stalled moves its hold count. -/
def snapMeter (production : Bool) (r : MeterRec) : MeterRec :=
  if r.stalled then
    (if 0 < r.count && 3 ≤ r.recovery + 1 then
      { r with count := 0, stalled := false, recovery := 0, hold := 0, stallTimer := some 0 }
    else
      { r with count := 0, recovery := if 0 < r.count then r.recovery + 1 else 0,
               hold := if production then r.hold + 1 else r.hold })
  else { r with count := 0 }

/-- Every meter's snapshot (R3). -/
def snapAll (meters : Tab 12 MeterRec) : Tab 12 MeterRec :=
  Tab.gen fun m => snapMeter (decide (m.val < 6)) (meters.get m)

/-- The alert register after the snapshot: every overrun ends (R2), and the stalls that ended by recovery end
their METER_STALL (R7). -/
def snapAlerts (before after : Tab 12 MeterRec) (t : Tab 58 AlertState) : Tab 58 AlertState :=
  Tab.gen fun n =>
    if h : n.val < 12 then
      (if (before.get ⟨n.val, h⟩).stalled && !(after.get ⟨n.val, h⟩).stalled then endOf (t.get n) else t.get n)
    else if n.val < 24 then endOf (t.get n)
    else t.get n

/-- The substitute rate of a meter, decided after its snapshot (R8, R9, R10); `none` while it is not
stalled. -/
def substituteOf (stallHold : Nat) (claims : Tab 5 Claim) (demand : Nat) (m : Meter) (r : MeterRec) :
    Option Nat :=
  if r.stalled then
    (if m.val < 6 then some (if r.hold ≤ stallHold then r.heldRate else 0)
    else if h : m.val < 11 then some (claims.get ⟨m.val - 6, by omega⟩).lastRate
    else some demand)
  else none

/-- The meter stage at the sample stage (R3, R7). -/
def snapMeters (s : State) : State :=
  { s with
    meters := snapAll s.meters
    alerts := snapAlerts s.meters (snapAll s.meters) s.alerts }

/-- The quality monitor examines the new samples (R20, R21). -/
def examineQuality (s : State) : State :=
  if s.quality.source = .live then
    (if samplesQualify s then
      { s with quality :=
          { s.quality with ch4 := (s.channels.get chA4).reading.toNat, h2s := (s.channels.get chA5).reading.toNat } }
    else enterHeld s)
  else s

/-- The level below which the sour condition counts towards its end (R29). -/
def sourEndLevel (k : WorkingConfig) : Nat :=
  if k.sourLimit ≤ k.sourHysteresis then 1 else k.sourLimit - k.sourHysteresis

/-- The sour evaluation with the pass's H2S (R28, R29). -/
def evaluateSour (h2s : Nat) (s : State) : State :=
  let q := s.quality
  if q.sour then
    (if h2s < sourEndLevel s.config then
      (if s.config.sourPersistence ≤ q.low + 1 then
        lower .sourGas (unlockAll .sour { s with quality := { q with sour := false, high := 0, low := 0 } })
      else { s with quality := { q with high := 0, low := q.low + 1 } })
    else { s with quality := { q with high := 0, low := 0 } })
  else
    (if s.config.sourLimit < h2s then
      (if s.config.sourPersistence ≤ q.high + 1 then
        signal .sour <| raise .sourGas <| lockAll .sour
          { s with quality := { q with sour := true, high := 0, low := 0 } }
      else { s with quality := { q with high := q.high + 1, low := 0 } })
    else { s with quality := { q with high := 0, low := 0 } })

/-- The sample stage (R87), in the order the chapters give: counters, channels, K3, quality, sour. -/
def sampleStep (amps : Currents) (p : Pass) (s : State) : State :=
  let counts := Tab.gen fun m => (s.meters.get m).count
  let s1 := snapMeters s
  let substitutes := Tab.gen fun m =>
    substituteOf p.settings.stallHold s1.claims s1.flare.demand m (s1.meters.get m)
  let s2 := sampleAnalog amps s1
  let a1Ended := (s1.channels.get chA1).fault && !(s2.channels.get chA1).fault
  let s3 := examineQuality s2
  let sampled : Sampled :=
    { counts, substitutes, a1Ended, k3 := (s3.contacts.get conK3).debounced, ch4 := s3.quality.ch4,
      h2s := s3.quality.h2s, source := s3.quality.source, lineChanged := Tab.fill 6 false }
  withPass { p with stage := .sampled, sampled } (evaluateSour s3.quality.h2s s3)

/-- SAMPLE_STAGE (R87). -/
def execSampleStage (amps : Currents) (s : State) : Host.Outcome State Fault Refusal :=
  flowEvent (inStage .banked (sampleStep amps)) s

/-! ## Measure stage (R31 to R39) -/

/-- P_abs in 0.1 mbar (R31). -/
def absolutePressure (k : PassSettings) (channels : Tab 5 ChannelRec) : Nat :=
  k.ambient + (channels.get chA2).reading.toNat

/-- T_abs in 0.1 K (R31): the default temperature while A3 is in fault. -/
def absoluteTemperature (k : PassSettings) (channels : Tab 5 ChannelRec) : Nat :=
  (2732 + (if (channels.get chA3).fault then k.defaultTemp else (channels.get chA3).reading)).toNat

/-- The normal volume in µL before the carry (R32). -/
def microlitres (count factor pAbs tAbs : Nat) : Nat := count * factor * 1000 * pAbs * 2732 / (10132 * tAbs)

/-- The total in µL with the carry added; a meter without pulses keeps its carry (R32, R33). -/
def carriedTotal (count factor pAbs tAbs carry : Nat) : Nat :=
  if count = 0 then carry else microlitres count factor pAbs tAbs + carry

/-- The pass's normal volume V_n in mL (R32, R33). -/
def normalVolume (count factor pAbs tAbs carry : Nat) : Nat :=
  if count = 0 then 0 else carriedTotal count factor pAbs tAbs carry / 1000

/-- The carry after the pass (R32, R33). -/
def newCarry (count factor pAbs tAbs carry : Nat) : Nat :=
  if count = 0 then carry else carriedTotal count factor pAbs tAbs carry % 1000

/-- The energy in J of a volume in mL (R34). -/
def energyOf (volume ch4 : Nat) : Nat := volume * ch4 * 3588 / 100000

/-- The rate in kW of an energy over the period `T` (R35). -/
def rateOf (energy period : Nat) : Nat := (roundHalfUp energy (period * 1000)).toNat

/-- The figures of a substitute rate (R36). -/
def substituteFigures (rate period ch4 : Nat) : Figures :=
  { volume := rate * (period * 1000) * 100000 / (ch4 * 3588), energy := rate * (period * 1000), rate }

/-- The figures measured from a meter's own count (R32 to R35). -/
def measuredFigures (count factor pAbs tAbs carry ch4 period : Nat) : Figures :=
  let volume := normalVolume count factor pAbs tAbs carry
  { volume, energy := energyOf volume ch4, rate := rateOf (energyOf volume ch4) period }

/-- Is the meter's line in use for the pass (R33, R41)? Consumer lines always are. -/
def passInUse (inUse : Tab 6 Bool) (m : Meter) : Bool := if h : m.val < 6 then inUse.get ⟨m.val, h⟩ else true

/-- The measured figures of meter `m` in the pass (R32 to R35). -/
def meterMeasured (p : Pass) (s : State) (m : Meter) : Figures :=
  if passInUse p.settings.inUse m then
    measuredFigures (p.sampled.counts.get m) (p.settings.factors.get m) (absolutePressure p.settings s.channels)
      (absoluteTemperature p.settings s.channels) (s.normalizer.carries.get m) p.sampled.ch4 p.period
  else ⟨0, 0, 0⟩

/-- The pass figures of meter `m`: measured, or substituted while it is stalled (R36, R38). -/
def meterFigures (p : Pass) (s : State) (m : Meter) : Figures :=
  if passInUse p.settings.inUse m then
    (match p.sampled.substitutes.get m with
    | some rate => substituteFigures rate p.period p.sampled.ch4
    | none => meterMeasured p s m)
  else ⟨0, 0, 0⟩

/-- The pass's count is still the meter's own: its line is in use for the pass, and no CONFIGURE has written the
line's flag since the sample stage. The carry and the held line rate of any other line stay as its CONFIGURE left
them, at 0 until a later pass has a count of the line's (R10, R33, R41; notes/assumptions/17.md). -/
def countStands (p : Pass) (m : Meter) : Bool :=
  passInUse p.settings.inUse m && (if h : m.val < 6 then !p.sampled.lineChanged.get ⟨m.val, h⟩ else true)

/-- The carry of meter `m` after the pass (R32, R33). -/
def meterCarry (p : Pass) (s : State) (m : Meter) : Nat :=
  if countStands p m then
    newCarry (p.sampled.counts.get m) (p.settings.factors.get m) (absolutePressure p.settings s.channels)
      (absoluteTemperature p.settings s.channels) (s.normalizer.carries.get m)
  else s.normalizer.carries.get m

/-- The held line rate after the pass: the measured rate of a production line whose count was above 0 (R10, R41). -/
def meterHeld (p : Pass) (s : State) (m : Meter) : MeterRec :=
  let r := s.meters.get m
  if m.val < 6 && countStands p m && 0 < p.sampled.counts.get m then
    { r with heldRate := (meterMeasured p s m).rate }
  else r

/-- The production lines' meters. -/
def productionMeters : List Meter := [0, 1, 2, 3, 4, 5]
/-- The consumer meters Q1 to Q5. -/
def consumerMeters : List Meter := [6, 7, 8, 9, 10]

/-- The sum of a figure over some meters. -/
def sumOver (ms : List Meter) (f : Meter → Nat) : Nat := (ms.map f).sum

/-- P_raw: the six contributions, clamped to 0–20,000 (R38). -/
def productionRate (figures : Tab 12 Figures) : Nat :=
  clampNat 0 20000 (sumOver productionMeters fun m => (figures.get m).rate)

/-- The step of the production filter (R39). -/
def filterStep (shift : Nat) (d : Int) : Int :=
  let step := truncDiv d (2 ^ shift)
  if step = 0 then (if 0 < d then 1 else if d < 0 then -1 else 0) else step

/-- The new P_f (R39). -/
def filtered (shift pF pRaw : Nat) : Nat := ((pF : Int) + filterStep shift ((pRaw : Int) - pF)).toNat

/-- The measure stage (R88). -/
def measureStep (p : Pass) (s : State) : State :=
  let figures := Tab.gen (meterFigures p s)
  let pRaw := productionRate figures
  let pF := filtered p.settings.filterShift s.normalizer.filtered pRaw
  withPass { p with stage := .measured, measured := { figures, pRaw, pF } }
    { s with
      meters := Tab.gen (meterHeld p s)
      normalizer := { carries := Tab.gen (meterCarry p s), filtered := pF } }

/-- MEASURE_STAGE (R88). -/
def execMeasureStage (s : State) : Host.Outcome State Fault Refusal := event (inStage .sampled measureStep) s

/-! ## Holder stage (R42 to R56) -/

/-- The inventory in kJ (R43). -/
def inventoryOf (capacity level ch4 : Nat) : Nat := capacity * level * ch4 * 35880 / 1000000

/-- ΔI in kJ (R44). -/
def inventoryChange (capacity level prevLevel ch4 : Nat) : Int :=
  truncDiv (((level : Int) - prevLevel) * capacity * ch4 * 35880) 1000000

/-- The band of a numeric index in a bank of N bands (R47). -/
def bandOf (n index : Nat) : Band := if index < n then .row index else .fallThrough

/-- The numeric index of a band in a bank of N bands (R47). -/
def bandIndex (n : Nat) : Band → Nat
  | .row i => i
  | .fallThrough => n

/-- Band selection with hysteresis (R46). -/
def selectBand (b : Bank) (level : Nat) (c : Band) : Band :=
  let up := Nat.min ((level - b.hysteresis) / b.width) b.count
  let down := Nat.min ((level + b.hysteresis) / b.width) b.count
  let i := bandIndex b.count c
  if i < up then bandOf b.count up else if down < i then bandOf b.count down else c

/-- Band recompute without hysteresis (R48, R57). -/
def recomputeBand (b : Bank) (level : Nat) : Band := bandOf b.count (Nat.min (level / b.width) b.count)

/-- The pass's net metered energy in kJ (R50). -/
def netMetered (figures : Tab 12 Figures) : Int :=
  let e := fun m => (figures.get m).energy
  roundHalfUp ((sumOver productionMeters e : Int) - sumOver consumerMeters e - e flareMeter) 1000

/-- The balance check of a pass that is not suspended (R50, R51): the difference is added, and a window that
ends is judged. -/
def balanceCheck (difference : Int) (s : State) : State :=
  let h := s.holder
  let acc := h.accumulator + difference
  if h.window + 1 < s.config.balanceWindow then
    { s with holder := { h with accumulator := acc, window := h.window + 1 } }
  else
    let out : Bool := s.config.balanceTolerance * 3600 < acc.natAbs
    let t := { s with holder := { h with accumulator := 0, window := 0, mismatch := out } }
    if out && !h.mismatch then signal .mismatch (raise .balanceMismatch t)
    else if h.mismatch && !out then lower .balanceMismatch t
    else t

/-- The pressure conditions of an A2 reading (R55). -/
def pressureHighNow (s : State) : Bool :=
  !(s.channels.get chA2).fault && (s.config.pressureHigh : Int) ≤ (s.channels.get chA2).reading
def pressureLowNow (s : State) : Bool :=
  !(s.channels.get chA2).fault && (s.channels.get chA2).reading < (s.config.pressureLow : Int)

/-- The pressure conditions and PRESSURE_HIGH follow A2 (R55). -/
def followPressure (s : State) : State :=
  { s with
    holder := { s.holder with pressureHigh := pressureHighNow s, pressureLow := pressureLowNow s }
    alerts := alertFollow .pressureHigh s.holder.pressureHigh (pressureHighNow s) s.alerts }

/-- HOLDER_LOW follows the band index (R53). -/
def followHolderLow (s : State) : State :=
  if s.holder.band = .row 0 then raise .holderLow s else lower .holderLow s

/-- The band index of the holder stage (R46, R48, R49). -/
def stageBand (p : Pass) (level : Nat) (s : State) : Band :=
  if p.switched then recomputeBand (activeBank s) level
  else if (s.channels.get chA1).fault then s.holder.band
  else selectBand (activeBank s) level s.holder.band

/-- HOLDER_LOW at the holder stage: a frozen index keeps it (R49, R53). -/
def stageHolderLow (old : Band) (s : State) : State := if s.holder.band = old then s else followHolderLow s

/-- The holder stage (R56). -/
def holderStep (p : Pass) (s : State) : State :=
  let level := (s.channels.get chA1).reading.toNat
  let fault := (s.channels.get chA1).fault
  let old := s.holder
  let deltaI := inventoryChange s.config.capacity level old.prevLevel p.sampled.ch4
  let s1 :=
    { s with holder :=
        { old with level, deltaI, inventory := inventoryOf s.config.capacity level p.sampled.ch4,
                   band := stageBand p level s, prevLevel := if fault then old.prevLevel else level } }
  let s2 := followOverfill (stageHolderLow old.band s1)
  let s3 := if fault || p.sampled.a1Ended then s2
            else balanceCheck (deltaI - netMetered p.measured.figures) s2
  let s4 := followPressure s3
  withPass
    { p with
      stage := .held
      handed :=
        { band := s4.holder.band
          overfill := p.sampled.k3 || s4.holder.band = .fallThrough
          pressureHigh := s4.holder.pressureHigh
          pressureLow := s4.holder.pressureLow } }
    s4

/-- HOLDER_STAGE (R56). -/
def execHolderStage (s : State) : Host.Outcome State Fault Refusal := event (inStage .measured holderStep) s

/-! ## Snapshot stage (R89, R90) -/

/-- The copy of a claim record (R89). -/
def copyClaim (c : Claim) : WorkClaim :=
  { state := c.state, m := c.min, x := c.max, u := c.ramp, request := c.request, withheld := c.withheld,
    allotment := c.allotment, soft := c.soft, epoch := c.epoch }

/-- The row a band index selects (R88). -/
def selectRow (b : Bank) : Band → RowRecord
  | .row n => if h : n < 16 then b.rows.get ⟨n, h⟩ else b.fall
  | .fallThrough => b.fall

/-- The distributable rate D (R90). -/
def distributable (pF : Nat) (trim : Int) (siteLimit : Nat) : Nat :=
  (clampInt 0 siteLimit ((pF : Int) + trim)).toNat

/-- The pass snapshot (R89). -/
def takeSnapshot (p : Pass) (s : State) : Snapshot :=
  let row := selectRow (activeBank s) p.handed.band
  { claims := Tab.gen fun c => copyClaim (s.claims.get c), siteLimit := s.config.siteLimit,
    restoreSpacing := s.config.restoreSpacing, flareMin := s.config.flareMin, flareMax := s.config.flareMax,
    row, ranks := (activeBank s).ranks, distributable := distributable p.measured.pF row.trim s.config.siteLimit }

/-- The snapshot stage (R89, R90): the working copy is made from the snapshot. -/
def snapshotStep (p : Pass) (s : State) : State :=
  let snapshot := takeSnapshot p s
  withPass
    { p with stage := .snapped, snapshot, decisions := { emptyDecisions with work := snapshot.claims } } s

/-- SNAPSHOT_STAGE (R89). -/
def execSnapshotStage (s : State) : Host.Outcome State Fault Refusal := event (inStage .held snapshotStep) s

end Sys2Proof.Machine
end

