-- ==== Sys2Proof/Machine/TotalsSteps.lean ====
section
/-! DEFINITION. The totals store and the clock (chapter 10): CLOCK_SECOND, SET_CLOCK, READ_TOTALS, and the
accumulation of the apply stage. -/

namespace Sys2Proof.Machine

open Sys2Proof

/-! ## The calendar (R168) -/

/-- Leap years within 2000–2099 (R168). -/
def leapYear (y : Nat) : Bool := y % 4 = 0

/-- Days of a month (R168); 0 for a month that does not exist. -/
def monthDays (y : Nat) : Nat → Nat
  | 2 => if leapYear y then 29 else 28
  | 4 | 6 | 9 | 11 => 30
  | 1 | 3 | 5 | 7 | 8 | 10 | 12 => 31
  | _ => 0

/-- A date and time that exists (R168). -/
def dateValid (d : DateTime) : Bool :=
  (2000 ≤ d.year && d.year ≤ 2099) && (1 ≤ d.month && d.month ≤ 12) &&
    (1 ≤ d.day && d.day ≤ monthDays d.year d.month) && d.hour < 24 && d.minute < 60 && d.second < 60

/-- The day after a date; from 2099-12-31 to 2000-01-01 (R168). -/
def nextDay (d : DateTime) : DateTime :=
  if d.day < monthDays d.year d.month then { d with day := d.day + 1 }
  else if d.month < 12 then { d with month := d.month + 1, day := 1 }
  else if d.year < 2099 then { d with year := d.year + 1, month := 1, day := 1 }
  else { d with year := 2000, month := 1, day := 1 }

/-- The clock one second further (R168). -/
def nextSecond (d : DateTime) : DateTime :=
  if d.second < 59 then { d with second := d.second + 1 }
  else if d.minute < 59 then { d with minute := d.minute + 1, second := 0 }
  else if d.hour < 23 then { d with hour := d.hour + 1, minute := 0, second := 0 }
  else nextDay { d with hour := 0, minute := 0, second := 0 }

/-- The date of a clock value. -/
def dateOf (d : DateTime) : Date := ⟨d.year, d.month, d.day⟩

/-- The rollover of the gas day (R169): the remainders are not changed. -/
def rollover (t : Totals) : Totals :=
  { t with previous := t.current, current := clearedDay (some (dateOf t.clock)) }

/-- The clock counts one second; at the passage of the hour copy the gas day rolls over (R168, R169). -/
def countSecond (t : Totals) : Totals :=
  let t := { t with clock := nextSecond t.clock, clockMs := 0, checkAgrees := true }
  if t.clock.hour = t.hourCopy && t.clock.minute = 0 && t.clock.second = 0 then rollover t else t

/-- CLOCK_SECOND (R168): counted while the part is supplied and on the backup cell. -/
def execClockSecond (s : State) : Host.Outcome State Fault Refusal := .next { s with totals := countSecond s.totals }

/-- SET_CLOCK served (R168). DESIGN CHOICE (notes/assumptions/21.md): the running second begins anew. -/
def serveSetClock (d : DateTime) (s : State) : Served :=
  if dateValid d then
    let t := { s with totals :=
      { s.totals with clock := d, clockMs := 0, clockUnset := false, checkAgrees := true } }
    { state := if s.totals.clockUnset then lower .totalsLost t else t, status := .done }
  else { state := s, status := .refusedUnknown }

/-- SET_CLOCK (R168). -/
def execSetClock (l : Link) (d : DateTime) (s : State) : Host.Outcome State Fault Refusal :=
  request l 0x44 (serveSetClock d) s

/-! ## Accumulation (R171) -/

/-- The whole units of `remainder + amount` per `unit`. -/
def wholeUnits (unit remainder amount : Nat) : Nat := (remainder + amount) / unit

/-- The remainder that is kept. -/
def restUnits (unit remainder amount : Nat) : Nat := (remainder + amount) % unit

/-- Totals raised by whole units, saturating at 4 bytes (R167, R171). -/
def addTotals (unit : Nat) (total remainder amount : Tab 6 Nat) : Tab 6 Nat :=
  Tab.gen fun i => saturate 4294967295 (total.get i + wholeUnits unit (remainder.get i) (amount.get i))

/-- The remainders after the addition (R171). -/
def addRemainders (unit : Nat) (remainder amount : Tab 6 Nat) : Tab 6 Nat :=
  Tab.gen fun i => restUnits unit (remainder.get i) (amount.get i)

/-- The pass figures added to the current record (R171): mL of the lines and slots, J of the slots, burn
seconds and starts. -/
def accumulate (lineMl slotMl slotJ : Tab 6 Nat) (seconds starts : Nat) (t : Totals) : Totals :=
  { t with
    current :=
      { t.current with
        lineLitres := addTotals 1000 t.current.lineLitres t.lineRemainders lineMl
        slotLitres := addTotals 1000 t.current.slotLitres t.slotRemainders slotMl
        slotKwh := addTotals 3600000 t.current.slotKwh t.energyRemainders slotJ
        burnSeconds := saturate 4294967295 (t.current.burnSeconds + seconds)
        starts := saturate 65535 (t.current.starts + starts)
        passes := saturate 4294967295 (t.current.passes + 1) }
    lineRemainders := addRemainders 1000 t.lineRemainders lineMl
    slotRemainders := addRemainders 1000 t.slotRemainders slotMl
    energyRemainders := addRemainders 3600000 t.energyRemainders slotJ
    checkAgrees := true }

/-! ## Reading (R172) -/

/-- A start date, all ones where it is absent (R166). -/
def putDate : Option Date → List Byte
  | some d => put16 d.year ++ put8 d.month ++ put8 d.day
  | none => [255, 255, 255, 255]

/-- The clock as it travels (R166). -/
def putClock (d : DateTime) : List Byte :=
  put16 d.year ++ put8 d.month ++ put8 d.day ++ put8 d.hour ++ put8 d.minute ++ put8 d.second

/-- The figures of a READ_TOTALS answer (R172). -/
def totalsFigures (t : Totals) (g : GasDay) : Nat → List Byte
  | 0 => putDate g.start ++ put32 g.burnSeconds ++ put16 g.starts ++ put32 g.passes ++ putClock t.clock ++
      putFlag t.clockUnset ++ put8 t.hourCopy
  | 1 => putTab put32 g.lineLitres
  | 2 => putTab put32 g.slotLitres
  | _ => putTab put32 g.slotKwh

/-- READ_TOTALS served (R172). -/
def serveReadTotals (record group : Nat) (s : State) : Served :=
  if record ≤ 1 && group ≤ 3 then
    let g := if record = 0 then s.totals.current else s.totals.previous
    { state := s, status := .done, figures := totalsFigures s.totals g group }
  else { state := s, status := .refusedUnknown }

/-- READ_TOTALS (R172). -/
def execReadTotals (l : Link) (record group : Nat) (s : State) : Host.Outcome State Fault Refusal :=
  request l 0x43 (serveReadTotals record group) s

end Sys2Proof.Machine
end

