-- ==== Sys2Proof/Machine/PassDecide.lean ====
section
/-! DEFINITION. The balance pass from the shortfall stage to the apply stage (chapter 5.4 to 5.10, chapter 6):
SHORTFALL_STAGE, SHED_PUSH, RESTORE_STAGE, POP, ADMISSION_STAGE, ALLOTMENT_STAGE, FLARE_STAGE, APPLY_STAGE;
and READ_STACK. -/

namespace Sys2Proof.Machine

open Sys2Proof

/-! ## The working copy (R91) -/

/-- The working ceiling (R91). -/
def WorkClaim.ceiling (w : WorkClaim) : Nat := ceilingOf w.request w.x w.withheld

/-- Held in ADMITTED or RUNNING. -/
def holdsGas (w : WorkClaim) : Bool := w.state = .admitted || w.state = .running

/-- The sum of a figure over the working copy. -/
def sumWork (f : WorkClaim → Nat) (work : Tab 5 WorkClaim) : Nat := (work.list.map f).sum

/-- S_c: the sum of the working ceilings of the claims held in ADMITTED or RUNNING (R91). -/
def sumCeilings (work : Tab 5 WorkClaim) : Nat := sumWork (fun w => if holdsGas w then w.ceiling else 0) work

/-- A slot goes before another in cutting order: the greater rank number, or at equal ranks the higher slot
(R92, R95). -/
def cutBefore (ranks : Tab 5 Nat) (a b : Slot) : Bool :=
  ranks.get b < ranks.get a || (ranks.get a = ranks.get b && b < a)

/-- A slot put into a list kept in cutting order. -/
def insertCut (ranks : Tab 5 Nat) (c : Slot) : List Slot → List Slot
  | [] => [c]
  | d :: ds => if cutBefore ranks c d then c :: d :: ds else d :: insertCut ranks c ds

/-- The slots in cutting order: lowest rank first (R92). -/
def cutOrder (ranks : Tab 5 Nat) : List Slot := allSlots.foldr (insertCut ranks) []

/-- The slots in serving order: rank 1 first, between equal ranks the lower slot (R100). -/
def serveOrder (ranks : Tab 5 Nat) : List Slot := (cutOrder ranks).reverse

/-! ## Shortfall (R92 to R95) -/

/-- The working claim after a cut of `amount`, of the given kind (R91). -/
def cutWork (kind : ShedKind) (amount : Nat) (w : WorkClaim) : WorkClaim :=
  { w with
    withheld := w.withheld + amount
    state := match kind with
      | .trim => w.state
      | .whole => .shed }

/-- The decisions with a cut made: a record to push where it carries an amount, and a shed in any case (R92,
R97). -/
def cut (c : Slot) (kind : ShedKind) (amount : Nat) (d : Decisions) : Decisions :=
  { d with
    work := d.work.modify c (cutWork kind amount)
    toPush := if amount = 0 then d.toPush else d.toPush ++ [⟨c, kind, amount⟩]
    shedMade := true }

/-- A claim that cannot be given its minimum is shed WHOLE (R92). -/
def shedBelowMin (d : Decisions) (c : Slot) : Decisions :=
  let w := d.work.get c
  if holdsGas w && w.ceiling < w.m then cut c .whole w.ceiling { d with kind := .steps } else d

/-- Cut-all on one claim (R93). -/
def cutAllOne (kind : ShedReport) (d : Decisions) (c : Slot) : Decisions :=
  let w := d.work.get c
  if holdsGas w && 0 < w.ceiling then cut c .whole w.ceiling { d with kind } else d

/-- The victim of a shortfall step (R95). -/
def victim (ranks : Tab 5 Nat) (work : Tab 5 WorkClaim) : Option Slot :=
  (cutOrder ranks).find? fun c => holdsGas (work.get c) && 0 < (work.get c).ceiling

/-- One shortfall step on the victim (R95). -/
def stepOn (shedStep : Nat) (c : Slot) (d : Decisions) : Decisions :=
  let w := d.work.get c
  let d := { d with kind := .steps, steps := d.steps + 1 }
  if w.m < w.ceiling then cut c .trim (Nat.min shedStep (w.ceiling - w.m)) d else cut c .whole w.ceiling d

/-- Shortfall steps, at most `n` (R94): while D is less than S_c and a victim remains. -/
def shortfallSteps (snap : Snapshot) : Nat → Decisions → Decisions
  | 0, d => d
  | n + 1, d =>
    if snap.distributable < sumCeilings d.work then
      match victim snap.ranks d.work with
      | some c => shortfallSteps snap n (stepOn snap.row.shedStep c d)
      | none => d
    else d

/-- The decisions of the shortfall stage (R92 to R95). A pass whose row has cut all set while the pressure-low
override is true reports cut-all (R108). -/
def shortfall (snap : Snapshot) (pressureLow : Bool) (d : Decisions) : Decisions :=
  let d := (cutOrder snap.ranks).foldl shedBelowMin d
  if snap.row.cutAll then
    (cutOrder snap.ranks).foldl (cutAllOne .cutAll) (if pressureLow then { d with kind := .cutAll } else d)
  else if pressureLow then (cutOrder snap.ranks).foldl (cutAllOne .pressureLow) d
  else shortfallSteps snap snap.row.steps d

/-- The shortfall stage: the sheds are decided on the working copy, and their pushes follow one by one as
SHED_PUSH steps (R96). -/
def shortfallStep (p : Pass) (s : State) : State :=
  withPass { p with stage := .pushing, decisions := shortfall p.snapshot p.handed.pressureLow p.decisions } s

/-- SHORTFALL_STAGE (R94). -/
def execShortfallStage (s : State) : Host.Outcome State Fault Refusal := event (inStage .snapped shortfallStep) s

/-- The record of a shed (R96, R109): it carries the number the pass sets at its apply stage. -/
def recordOf (p : Pass) (passNumber : Nat) (x : Shed) : ShedRecord :=
  { slot := x.slot, kind := x.kind, amount := x.amount, band := p.handed.band,
    passNumber := wrapSucc 65535 passNumber, pending := true }

/-- The next shed is pushed on the live stack and entered in the push list (R96, R111). -/
def shedPushStep (p : Pass) (s : State) : State :=
  match p.decisions.toPush with
  | [] => s
  | x :: rest =>
    let r := recordOf p s.balance.passNumber x
    withPass { p with decisions := { p.decisions with toPush := rest, pushed := p.decisions.pushed ++ [r] } }
      (pushRecord r s)

/-- SHED_PUSH (R111). -/
def execShedPush (s : State) : Host.Outcome State Fault Refusal := event (inStage .pushing shedPushStep) s

/-! ## Restore (R97, R98, R114) -/

/-- The four conditions under which the restore stage runs (R97). -/
def restoreRuns (p : Pass) (s : State) : Bool :=
  !p.decisions.shedMade && p.snapshot.row.restore && !s.stack.records.isEmpty &&
    p.snapshot.restoreSpacing ≤ s.balance.spacing

/-- The restore stage begins: with a pop to come, or with nothing to do (R97). It follows the last push. -/
def restoreStep (p : Pass) (s : State) : State :=
  if p.decisions.toPush.isEmpty then
    withPass { p with stage := if restoreRuns p s then .popping else .restored } s
  else s

/-- RESTORE_STAGE (R97). -/
def execRestoreStage (s : State) : Host.Outcome State Fault Refusal := event (inStage .pushing restoreStep) s

/-- The working claim after its record is popped (R98): w falls, and a SHED claim whose ceiling reaches its m
becomes ADMITTED. -/
def popWork (amount : Nat) (w : WorkClaim) : WorkClaim :=
  let w' := { w with withheld := w.withheld - amount }
  if w'.state = .shed && w'.m ≤ w'.ceiling then { w' with state := .admitted } else w'

/-- The restore test (R98). -/
def restoreFits (p : Pass) (amount : Nat) : Bool :=
  sumCeilings p.decisions.work + amount + p.snapshot.row.restoreMargin ≤ p.snapshot.distributable

/-- The pop (R98, R114): the top record is read and removed in one event; an empty stack gives no pop. -/
def popStep (p : Pass) (s : State) : State :=
  match s.stack.records with
  | [] => withPass { p with stage := .restored } s
  | r :: rest =>
    if restoreFits p r.amount then
      withPass
        { p with
          stage := .restored
          decisions :=
            { p.decisions with work := p.decisions.work.modify r.slot (popWork r.amount), restored := some r.slot } }
        (popRecord r rest s)
    else withPass { p with stage := .restored } s

/-- POP (R114). -/
def execPop (s : State) : Host.Outcome State Fault Refusal := event (inStage .popping popStep) s

/-! ## Admission (R99, R100) -/

/-- The conditions under which the admission stage runs (R99). -/
def admissionRuns (p : Pass) (s : State) : Bool :=
  !p.decisions.shedMade && p.snapshot.row.admits && s.stack.records.isEmpty

/-- The claim admitted (R100): the first WAITING claim in serving order whose m fits. -/
def admits (snap : Snapshot) (work : Tab 5 WorkClaim) : Option Slot :=
  (serveOrder snap.ranks).find? fun c =>
    (work.get c).state = .waiting &&
      sumCeilings work + snap.row.admissionMargin + (work.get c).m ≤ snap.distributable

/-- The working copy with a claim admitted (R100). -/
def admitWork (c : Option Slot) (work : Tab 5 WorkClaim) : Tab 5 WorkClaim :=
  match c with
  | some c => work.modify c fun w => { w with state := .admitted }
  | none => work

/-- The admission stage (R99, R100), with S_c as it stands after it (R108). -/
def admissionStep (p : Pass) (s : State) : State :=
  let c := if admissionRuns p s then admits p.snapshot p.decisions.work else none
  let work := admitWork c p.decisions.work
  withPass
    { p with
      stage := .admitted
      decisions := { p.decisions with work, admitted := c, sumCeilings := sumCeilings work } } s

/-- ADMISSION_STAGE (R100). -/
def execAdmissionStage (s : State) : Host.Outcome State Fault Refusal :=
  event (inStage .restored admissionStep) s

/-! ## Allotments (R101, R102) -/

/-- The ramp of a claim: u, or the soft ramp u / 8, at least 1 (R74). -/
def rampOf (w : WorkClaim) : Nat := if w.soft then Nat.max 1 (w.u / 8) else w.u

/-- The new allotment of a claim of the working copy (R101). -/
def newAllotment (w : WorkClaim) : Nat :=
  match w.state with
  | .admitted => w.m
  | .running => if w.ceiling ≤ w.allotment then w.ceiling else Nat.min (w.allotment + rampOf w) w.ceiling
  | .vacant | .idle | .waiting | .shed | .locked | .lapsed => 0

/-- The allotment stage (R101, R102). -/
def allotmentStep (p : Pass) (s : State) : State :=
  withPass
    { p with
      stage := .allotted
      decisions :=
        { p.decisions with
          allotments := Tab.gen fun c => newAllotment (p.decisions.work.get c)
          sumAllotments := sumWork newAllotment p.decisions.work } } s

/-- ALLOTMENT_STAGE (R101). -/
def execAllotmentStage (s : State) : Host.Outcome State Fault Refusal :=
  event (inStage .admitted allotmentStep) s

/-! ## Flare call and demand (R103, R104) -/

/-- The flare call (R103). -/
def flareCall (p : Pass) : Bool := p.snapshot.row.flare || p.handed.pressureHigh || p.handed.overfill

/-- The flare demand of the pass (R104): D less S_a clamped to the copied flare range, 0 without a call. -/
def passDemand (p : Pass) : Nat :=
  if flareCall p then
    clampNat p.snapshot.flareMin p.snapshot.flareMax
      (p.snapshot.distributable - p.decisions.sumAllotments)
  else 0

/-- The flare stage (R103, R104, R121): the call and the demand are formed and handed over. -/
def flareStep (p : Pass) (s : State) : State :=
  withPass
    { p with stage := .flared, decisions := { p.decisions with call := flareCall p, demand := passDemand p } }
    (handOver (flareCall p) (passDemand p) s)

/-- FLARE_STAGE (R103). -/
def execFlareStage (s : State) : Host.Outcome State Fault Refusal :=
  flowEvent (inStage .allotted flareStep) s

/-! ## Apply (R105 to R108, R116) -/

/-- The pass's result for a slot is discarded: the live epoch has moved since the snapshot (R105). -/
def discards (p : Pass) (claims : Tab 5 Claim) (c : Slot) : Bool :=
  (claims.get c).epoch ≠ (p.snapshot.claims.get c).epoch

/-- The start timer as the apply stage leaves it (R78, R105): an admission or a restore starts it, a claim that
leaves ADMITTED stops it. -/
def appliedStart (old new : ClaimState) (t : Timer) : Timer :=
  if new = .admitted then (if old = .admitted then t else some 0)
  else if old = .admitted then none
  else t

/-- Soft as the apply stage leaves it where it writes a result (R73, R105): cleared where an ADMITTED or RUNNING
claim is given an allotment equal to its ceiling. -/
def appliedSoft (w : WorkClaim) (allotment : Nat) (soft : Bool) : Bool :=
  soft && !(holdsGas w && allotment = w.ceiling)

/-- A claim with the pass's result written (R78, R105); a claim whose result equals what it holds is left as it is,
soft included (R105). -/
def writeResult (w : WorkClaim) (allotment : Nat) (c : Claim) : Claim :=
  if c.state = w.state && c.allotment = allotment then c
  else
    { c with state := w.state, allotment, soft := appliedSoft w allotment c.soft,
             start := appliedStart c.state w.state c.start }

/-- The pending-marked records of a discarded slot (R116). -/
def toRemove (p : Pass) (claims : Tab 5 Claim) (r : ShedRecord) : Bool := r.pending && discards p claims r.slot

/-- A claim whose result is discarded: w falls by the amounts of its removed records (R106). -/
def dropPending (c : Slot) (rs : List ShedRecord) (cl : Claim) : Claim :=
  { cl with withheld := cl.withheld - slotSum c (rs.filter (·.pending)) }

/-- The claim table after the apply stage (R105, R106). -/
def applyClaims (p : Pass) (s : State) : Tab 5 Claim :=
  Tab.gen fun c =>
    if discards p s.claims c then dropPending c s.stack.records (s.claims.get c)
    else writeResult (p.decisions.work.get c) (p.decisions.allotments.get c) (s.claims.get c)

/-- The shed stack after the apply stage (R116, R118): the marked records of discarded slots leave, then every
mark is cleared; one change where any record left or lost its mark. -/
def applyStack (p : Pass) (s : State) : ShedStack :=
  { records := (s.stack.records.filter fun r => !toRemove p s.claims r).map fun r => { r with pending := false }
    changes := if s.stack.records.any (·.pending) then wrapSucc 255 s.stack.changes else s.stack.changes }

/-- The restore spacing count after the apply stage (R97). -/
def nextSpacing (p : Pass) (count : Nat) : Nat :=
  if p.decisions.shedMade || p.decisions.restored.isSome then 0 else saturate 60 (count + 1)

/-- The rates of the slots C1 to C6 in a pass (R37). -/
def slotFigure (f : Figures → Nat) (p : Pass) : Tab 6 Nat :=
  Tab.gen fun i => f (p.measured.figures.get ⟨i.val + 6, by omega⟩)

/-- The volumes of the production lines in a pass (R37). -/
def lineVolumes (p : Pass) : Tab 6 Nat := Tab.gen fun l => (p.measured.figures.get (lineMeter l)).volume

/-- The pass results record (R108). -/
def resultsOf (p : Pass) (s : State) : Results :=
  { passNumber := wrapSucc 65535 s.balance.passNumber, period := p.period, active := s.policy.active,
    band := p.handed.band, pRaw := p.measured.pRaw, pF := p.measured.pF,
    distributable := p.snapshot.distributable, kind := p.decisions.kind, steps := p.decisions.steps,
    pushed := p.decisions.pushed.length, restored := p.decisions.restored, admitted := p.decisions.admitted,
    sumCeilings := p.decisions.sumCeilings, sumAllotments := p.decisions.sumAllotments,
    call := p.decisions.call, demand := p.decisions.demand,
    discarded := Tab.gen (discards p s.claims), source := p.sampled.source, level := s.holder.level,
    a1Fault := (s.channels.get chA1).fault, slotRates := slotFigure (·.rate) p }

/-- The apply stage (R105 to R107, R116, R136, R171). -/
def applyStep (p : Pass) (s : State) : State :=
  { s with
    claims := applyClaims p s
    stack := applyStack p s
    balance :=
      { s.balance with
        passNumber := wrapSucc 65535 s.balance.passNumber
        spacing := nextSpacing p s.balance.spacing
        pass := none
        results := resultsOf p s }
    flare := { s.flare with burnSeconds := 0, starts := 0 }
    totals :=
      accumulate (lineVolumes p) (slotFigure (·.volume) p) (slotFigure (·.energy) p) s.flare.burnSeconds
        s.flare.starts s.totals }

/-- APPLY_STAGE (R105). -/
def execApplyStage (s : State) : Host.Outcome State Fault Refusal := flowEvent (inStage .flared applyStep) s

/-! ## READ_STACK (R119) -/

/-- A shed record as READ_STACK gives it: position, slot, kind, amount, band index, pass number, pending. -/
def recordFigures (position : Nat) (r : ShedRecord) : List Byte :=
  put8 position ++ put8 (slotByte r.slot) ++ put8 r.kind.code ++ put16 r.amount ++ put8 r.band.code ++
    put16 r.passNumber ++ putFlag r.pending

/-- Records from a position downwards (R119). -/
def recordsFrom (position : Nat) : List ShedRecord → List Byte
  | [] => []
  | r :: rs => recordFigures position r ++ recordsFrom (position + 1) rs

/-- The figures of a READ_STACK answer (R119). -/
def stackFigures (s : State) (position : Nat) : List Byte :=
  put8 s.stack.records.length ++ putFlag (overflowFlag s) ++ put8 s.stack.changes ++
    putTab (fun c => put32 c.orphaned) s.claims ++
    recordsFrom position ((s.stack.records.drop position).take 5)

/-- READ_STACK served (R119). -/
def serveReadStack (position : Nat) (s : State) : Served :=
  if position ≤ 15 then { state := s, status := .done, figures := stackFigures s position }
  else { state := s, status := .refusedUnknown }

/-- READ_STACK (R119). -/
def execReadStack (l : Link) (position : Nat) (s : State) : Host.Outcome State Fault Refusal :=
  request l 0x41 (serveReadStack position) s

end Sys2Proof.Machine
end

