-- ==== Sys2Proof/Machine/Quality.lean ====
section
/-! DEFINITION. The quality monitor's own steps (chapter 2): HOLD_TIMER_EXPIRY and QUALITY_RESUME. -/

namespace Sys2Proof.Machine

open Sys2Proof

/-- HOLD_TIMER_EXPIRY (R24): in HELD the monitor enters SUBSTITUTED. -/
def execHoldTimerExpiry (s : State) : Host.Outcome State Fault Refusal := event holdExpires s

/-- QUALITY_RESUME served by the quality monitor (R25). -/
def serveQualityResume (s : State) : Served :=
  if s.quality.source = .live then { state := s, status := .done }
  else if (s.contacts.get conK1).debounced && samplesQualify s then { state := enterLive s, status := .done }
  else { state := s, status := .refusedState }

/-- QUALITY_RESUME (R25). -/
def execQualityResume (l : Link) (s : State) : Host.Outcome State Fault Refusal :=
  request l 0x35 serveQualityResume s

end Sys2Proof.Machine
end

