-- ==== Sys2Proof/Machine/Claims.lean ====
section
/-! DEFINITION. The claim table's steps (chapter 4): REGISTER, CLAIM, AMEND, REPORT, RELEASE,
LEASE_TIMER_EXPIRY, START_TIMER_EXPIRY, HOLD_SLOTS, FORCE_VACANT, READ_CLAIM; and the limits of SET_LIMITS. -/

namespace Sys2Proof.Machine

open Sys2Proof

/-- A claim that leaves VACANT or LAPSED without a claim to run: IDLE, or LOCKED with standing clear and its
lease started where its lock cause set is not empty (R63, R66). -/
def reopen (c : Claim) : Claim :=
  if c.locks.empty then toIdle c else { toIdle c with state := .locked, lease := some 0 }

/-- The limits a REGISTER writes: x and u clamped, then m to 0–x (R63). -/
def registerLimits (m x u : Nat) : Limits :=
  let x := clampNat 1 5000 x
  { m := clampNat 0 x m, x, u := clampNat 1 1000 u }

/-- REGISTER served (R63). -/
def serveRegister (m x u : Nat) (c : Slot) (s : State) : Served :=
  let lim := registerLimits m x u
  let status := doneOr (lim ≠ ⟨m, x, u⟩)
  match (s.claims.get c).state with
  | .idle => { state := changeClaim c (fun cl => { cl with limits := some lim }) s, status }
  | .vacant => { state := changeClaim c (fun cl => reopen { cl with limits := some lim }) s, status }
  | .lapsed =>
    { state := lower (.lapse c) (changeClaim c (fun cl => reopen { cl with limits := some lim }) s), status }
  | .waiting | .admitted | .running | .shed | .locked => { state := s, status := .refusedState }

/-- REGISTER (R63). -/
def execRegister (l : Link) (m x u : Nat) (s : State) : Host.Outcome State Fault Refusal :=
  consumerRequest l 0x10 (serveRegister m x u) s

/-- The requested rate clamped to m–x (R64). -/
def clampRequest (c : Claim) (r : Nat) : Nat := clampNat c.min c.max r

/-- A claim made to stand at rate `r`: WAITING, or LOCKED where the lock cause set is not empty; the lease
starts (R64). -/
def standAt (r : Nat) (c : Claim) : Claim :=
  { c with state := if c.locks.empty then .waiting else .locked, request := some r, standing := true,
           lease := some 0 }

/-- CLAIM served (R64). -/
def serveClaim (r : Nat) (c : Slot) (s : State) : Served :=
  let old := s.claims.get c
  let r' := clampRequest old r
  let status := doneOr (r' ≠ r)
  match old.state with
  | .vacant => { state := s, status := .notRegistered }
  | .idle => { state := changeClaim c (standAt r') s, status }
  | .lapsed => { state := lower (.lapse c) (changeClaim c (standAt r') s), status }
  | .locked =>
    if old.standing then { state := s, status := .refusedState }
    else { state := changeClaim c (fun cl => { cl with request := some r', standing := true }) s, status }
  | .waiting | .admitted | .running | .shed => { state := s, status := .refusedState }

/-- CLAIM (R64). -/
def execClaim (l : Link) (r : Nat) (s : State) : Host.Outcome State Fault Refusal :=
  consumerRequest l 0x11 (serveClaim r) s

/-- An AMEND's new rate with the orphaned amount cleared and w lowered by it (R64). -/
def amendTo (r : Nat) (c : Claim) : Claim :=
  { c with request := some r, withheld := c.withheld - c.orphaned, orphaned := 0 }

/-- AMEND served (R64). -/
def serveAmend (r : Nat) (c : Slot) (s : State) : Served :=
  let old := s.claims.get c
  let r' := clampRequest old r
  let status := doneOr (r' ≠ r)
  match old.state with
  | .vacant => { state := s, status := .notRegistered }
  | .waiting => { state := changeClaim c (fun cl => { cl with request := some r' }) s, status }
  | .admitted | .running =>
    { state := changeClaim c (fun cl => { amendTo r' cl with allotment := Nat.min cl.allotment r' }) s, status }
  | .shed =>
    { state := changeClaim c
        (fun cl => { amendTo r' cl with
          state := if slotCount c s.stack.records = 0 then .waiting else .shed }) s
      status }
  | .locked =>
    if old.standing then { state := changeClaim c (fun cl => { cl with request := some r' }) s, status }
    else { state := s, status := .refusedState }
  | .idle | .lapsed => { state := s, status := .refusedState }

/-- AMEND (R64). -/
def execAmend (l : Link) (r : Nat) (s : State) : Host.Outcome State Fault Refusal :=
  consumerRequest l 0x12 (serveAmend r) s

/-- ADMITTED to RUNNING on a report (R65): the start timer stops and the allotment stays. -/
def toRunning (c : Claim) : Claim := { c with state := .running, start := none }

/-- REPORT served (R65). -/
def serveReport (running : Bool) (rate : Nat) (c : Slot) (s : State) : Served :=
  let rate' := clampNat 0 5000 rate
  let status := doneOr (rate' ≠ rate)
  let t := changeClaim c (fun cl => { cl with lastRate := rate' }) s
  match (s.claims.get c).state, running with
  | .vacant, _ => { state := s, status := .notRegistered }
  | .admitted, true =>
    { state := lower (.trip c) (lower (.startFail c) (changeClaim c toRunning t)), status }
  | .running, false => { state := raise (.trip c) (changePurging c toIdle t), status }
  | .admitted, false | .running, true | .idle, _ | .waiting, _ | .shed, _ | .locked, _ | .lapsed, _ =>
    { state := t, status }

/-- REPORT (R65). -/
def execReport (l : Link) (running : Bool) (rate : Nat) (s : State) : Host.Outcome State Fault Refusal :=
  consumerRequest l 0x13 (serveReport running rate) s

/-- RELEASE served (R66). -/
def serveRelease (c : Slot) (s : State) : Served :=
  match (s.claims.get c).state with
  | .vacant => { state := s, status := .notRegistered }
  | .idle => { state := s, status := .done }
  | .waiting => { state := changeClaim c toIdle s, status := .done }
  | .admitted | .running | .shed => { state := changePurging c toIdle s, status := .done }
  | .locked =>
    { state := changeClaim c (fun cl => { cl with standing := false, request := none }) s, status := .done }
  | .lapsed => { state := lower (.lapse c) (changeClaim c reopen s), status := .done }

/-- RELEASE (R66). -/
def execRelease (l : Link) (s : State) : Host.Outcome State Fault Refusal :=
  consumerRequest l 0x14 serveRelease s

/-- LEASE_TIMER_EXPIRY (R62). -/
def execLeaseTimerExpiry (c : Slot) (s : State) : Host.Outcome State Fault Refusal :=
  flowEvent (leaseExpires c) s

/-- START_TIMER_EXPIRY (R68). -/
def execStartTimerExpiry (c : Slot) (s : State) : Host.Outcome State Fault Refusal :=
  flowEvent (startExpires c) s

/-- HOLD_SLOTS served (R72): the slots named act in the order C1 to C5. -/
def serveHoldSlots (mask : Nat) (on : Bool) (s : State) : Served :=
  if maskValid mask then
    { state := (maskSlots mask).foldl
        (if on then addCause .heldBySupervisor else removeCause .heldBySupervisor) s
      status := .done }
  else { state := s, status := .refusedUnknown }

/-- HOLD_SLOTS (R72). -/
def execHoldSlots (l : Link) (mask : Nat) (on : Bool) (s : State) : Host.Outcome State Fault Refusal :=
  request l 0x38 (serveHoldSlots mask on) s

/-- FORCE_VACANT served (R76). -/
def serveForceVacant (slot : Nat) (s : State) : Served :=
  match slotOfByte slot with
  | none => { state := s, status := .refusedUnknown }
  | some c =>
    if (s.claims.get c).state = .vacant then { state := s, status := .done }
    else
      { state := lower (.lapse c) <| lower (.trip c) <| lower (.startFail c) <| changePurging c toVacant s
        status := .done }

/-- FORCE_VACANT (R76). -/
def execForceVacant (l : Link) (slot : Nat) (s : State) : Host.Outcome State Fault Refusal :=
  request l 0x39 (serveForceVacant slot) s

/-- The figures of a READ_CLAIM answer, in the order of R81; kind is 0 engine, 1 boiler. -/
def claimFigures (s : State) (c : Slot) : List Byte :=
  let cl := s.claims.get c
  put8 cl.state.code ++ put8 (if c.val < 4 then 0 else 1) ++
    putOpt16 (cl.limits.map (·.m)) ++ putOpt16 (cl.limits.map (·.x)) ++ putOpt16 (cl.limits.map (·.u)) ++
    putOpt16 cl.request ++ putFlag cl.standing ++ put32 cl.withheld ++ put32 cl.orphaned ++
    put16 cl.ceiling ++ put16 cl.allotment ++ putFlag cl.soft ++ put8 cl.locks.code ++
    putTimer cl.lease ++ putTimer cl.start ++ put16 cl.lastRate ++ put16 cl.epoch ++
    put8 (slotCount c s.stack.records)

/-- READ_CLAIM served (R81). -/
def serveReadClaim (slot : Nat) (s : State) : Served :=
  match slotOfByte slot with
  | none => { state := s, status := .refusedUnknown }
  | some c => { state := s, status := .done, figures := claimFigures s c }

/-- READ_CLAIM (R81). -/
def execReadClaim (l : Link) (slot : Nat) (s : State) : Host.Outcome State Fault Refusal :=
  request l 0x40 (serveReadClaim slot) s

/-- The new limits of a claim under SET_LIMITS: x is written and m clamped to 0–x (R77). -/
def limitTo (x : Nat) (k : Limits) : Limits := { k with x, m := clampNat 0 x k.m }

/-- The rate above which a claim's allotment is lowered by new limits (R77). -/
def allotmentCap (k : Limits) (request : Option Nat) : ClaimState → Nat → Nat
  | .admitted, a => Nat.min a k.m
  | .running, a => Nat.min a (Nat.min (request.getD 0) k.x)
  | _, a => a

/-- A claim under SET_LIMITS (R77): x, m and r, and the allotment of an ADMITTED or RUNNING claim. -/
def limitClaim (x : Nat) (c : Claim) : Claim :=
  match c.limits with
  | none => c
  | some k =>
    let k' := limitTo x k
    let r' := c.request.map (clampNat k'.m k'.x)
    { c with limits := some k', request := r', allotment := allotmentCap k' r' c.state c.allotment }

/-- SET_LIMITS applied to one named slot (R77): a VACANT slot is not changed. -/
def limitSlot (x : Nat) (s : State) (c : Slot) : State :=
  if (s.claims.get c).state = .vacant then s else changeClaim c (limitClaim x) s

end Sys2Proof.Machine
end

