-- ==== Sys2Proof/Machine/Banks.lean ====
section
/-! DEFINITION. The policy banks' steps (chapter 8): SWITCH_BANK, WRITE_ROW, SET_RANK, SET_LIMITS, READ_BANK,
and the writes of bank geometry and event bindings. -/

namespace Sys2Proof.Machine

open Sys2Proof

/-- A configuration save is in flight (R176). -/
def isSaving (s : State) : Bool := s.store.saving.isSome

/-- SWITCH_BANK served (R141). -/
def serveSwitchBank (bank : Nat) (s : State) : Served :=
  match bankOf bank with
  | none => { state := s, status := .refusedUnknown }
  | some b =>
    { state := { s with policy := { s.policy with switch := setSwitch s.policy.active b } }, status := .done }

/-- SWITCH_BANK (R141). -/
def execSwitchBank (l : Link) (bank : Nat) (s : State) : Host.Outcome State Fault Refusal :=
  request l 0x33 (serveSwitchBank bank) s

/-- A row number in use in a bank: 0 to N−1, and 16 for the fall-through row (R143). -/
def rowInUse (b : Bank) (row : Nat) : Bool := (row < 16 && row < b.count) || row = 16

/-- The row record a row number names (R139). -/
def bankRow (b : Bank) (row : Nat) : RowRecord := if h : row < 16 then b.rows.get ⟨row, h⟩ else b.fall

/-- The bank with a row record replaced (R145). -/
def setRow (b : Bank) (row : Nat) (r : RowRecord) : Bank :=
  if h : row < 16 then { b with rows := b.rows.set ⟨row, h⟩ r } else { b with fall := r }

/-- A bank write (R143): the checks in their order, `known` being the existence check of the request's own
items; a taken write replaces the bank and moves its change count (R148). -/
def writeBank (bank : Nat) (known : Bank → Bool) (write : Bank → Bank × Bool) (s : State) : Served :=
  if isSaving s then { state := s, status := .busy }
  else
    match bankOf bank with
    | none => { state := s, status := .refusedUnknown }
    | some b =>
      if !known (s.config.banks.get b) then { state := s, status := .refusedUnknown }
      else if s.policy.active = b then { state := s, status := .bankActive }
      else if s.policy.switch = some b then { state := s, status := .bankPending }
      else
        let w := write (s.config.banks.get b)
        { state :=
            { s with
              config := { s.config with banks := s.config.banks.set b w.1 }
              policy := { s.policy with changes := s.policy.changes.modify b (wrapSucc 255) } }
          status := doneOr w.2 }

/-- A row record clamped to the ranges of R139. -/
def clampRow (r : RowRecord) : RowRecord :=
  { r with
    trim := clampInt (-5000) 5000 r.trim, steps := clampNat 0 8 r.steps,
    admissionMargin := clampNat 0 5000 r.admissionMargin, restoreMargin := clampNat 0 5000 r.restoreMargin,
    shedStep := clampNat 1 5000 r.shedStep }

/-- WRITE_ROW served (R145). -/
def serveWriteRow (bank row : Nat) (r : RowRecord) : State → Served :=
  writeBank bank (fun b => rowInUse b row) fun b => (setRow b row (clampRow r), clampRow r ≠ r)

/-- WRITE_ROW (R145). -/
def execWriteRow (l : Link) (bank row : Nat) (r : RowRecord) (s : State) : Host.Outcome State Fault Refusal :=
  request l 0x31 (serveWriteRow bank row r) s

/-- SET_RANK served (R146). -/
def serveSetRank (bank slot rank : Nat) : State → Served :=
  writeBank bank (fun _ => (slotOfByte slot).isSome) fun b =>
    match slotOfByte slot with
    | some c => ({ b with ranks := b.ranks.set c (clampNat 1 8 rank) }, clampNat 1 8 rank ≠ rank)
    | none => (b, false)

/-- SET_RANK (R146). -/
def execSetRank (l : Link) (bank slot rank : Nat) (s : State) : Host.Outcome State Fault Refusal :=
  request l 0x32 (serveSetRank bank slot rank) s

/-- The geometry write on a bank and whether a value was clamped (R147): a narrower W lowers H to floor(W/2),
which counts as clamped. -/
def writeGeometry (which : Geometry) (value : Int) (b : Bank) : Bank × Bool :=
  match which with
  | .count =>
    let n := (clampInt 1 16 value).toNat
    ({ b with count := n }, (n : Int) ≠ value)
  | .width =>
    let w := (clampInt 10 250 value).toNat
    ({ b with width := w, hysteresis := Nat.min b.hysteresis (w / 2) },
      (w : Int) ≠ value || w / 2 < b.hysteresis)
  | .hysteresis =>
    let h := (clampInt 0 ((b.width / 2 : Nat) : Int) value).toNat
    ({ b with hysteresis := h }, (h : Int) ≠ value)

/-- A geometry CONFIGURE served (R147). -/
def serveGeometry (bank : Nat) (which : Geometry) (value : Int) : State → Served :=
  writeBank bank (fun _ => true) (writeGeometry which value)

/-- CONFIGURE_BAND_GEOMETRY (R147). -/
def execConfigureBandGeometry (l : Link) (bank : Nat) (which : Geometry) (value : Int) (s : State) :
    Host.Outcome State Fault Refusal :=
  request l 0x30 (serveGeometry bank which value) s

/-- The binding a coded value gives: −1 is empty, otherwise source code times 256 plus bank (R175); `none`
where the source or the bank does not exist. -/
def bindingOf (value : Int) : Option (Option Binding) :=
  if value = -1 then some none
  else if value < 0 then none
  else
    match sourceOf (value.toNat / 256), bankOf (value.toNat % 256) with
    | some source, some bank => some (some { source, bank })
    | _, _ => none

/-- The index of a binding number 1 to 6 (R149). -/
def bindingIndex (n : Nat) : Option (Fin 6) := if h : 1 ≤ n ∧ n ≤ 6 then some ⟨n - 1, by omega⟩ else none

/-- An event-binding CONFIGURE served (R149). -/
def serveBinding (number : Nat) (value : Int) (s : State) : Served :=
  if isSaving s then { state := s, status := .busy }
  else
    match bindingIndex number, bindingOf value with
    | some i, some b =>
      { state := { s with config := { s.config with bindings := s.config.bindings.set i b } }, status := .done }
    | _, _ => { state := s, status := .refusedUnknown }

/-- CONFIGURE_EVENT_BINDING (R149). -/
def execConfigureEventBinding (l : Link) (number : Nat) (value : Int) (s : State) :
    Host.Outcome State Fault Refusal :=
  request l 0x30 (serveBinding number value) s

/-- SET_LIMITS served (R151): the clamped max is applied to each named slot (R77). -/
def serveSetLimits (mask max : Nat) (s : State) : Served :=
  if isSaving s then { state := s, status := .busy }
  else if !maskValid mask then { state := s, status := .refusedUnknown }
  else
    { state := (maskSlots mask).foldl (limitSlot (clampNat 1 5000 max)) s
      status := doneOr (clampNat 1 5000 max ≠ max) }

/-- SET_LIMITS (R151). -/
def execSetLimits (l : Link) (mask max : Nat) (s : State) : Host.Outcome State Fault Refusal :=
  request l 0x34 (serveSetLimits mask max) s

/-- The fields of a row record in the order of R139. -/
def rowFigures (r : RowRecord) : List Byte :=
  putSigned16 r.trim ++ put8 r.steps ++ putFlag r.restore ++ putFlag r.admits ++ putFlag r.flare ++
    putFlag r.cutAll ++ put16 r.admissionMargin ++ put16 r.restoreMargin ++ put16 r.shedStep

/-- A binding as a source code byte and a bank byte; an empty one is all ones. -/
def bindingFigures : Option Binding → List Byte
  | some b => put8 b.source.code ++ put8 b.bank.val
  | none => [255, 255]

/-- The figures of a READ_BANK answer, in the order of R148. -/
def bankFigures (s : State) (b : BankNo) (row : Nat) : List Byte :=
  let k := s.config.banks.get b
  put8 k.count ++ put16 k.width ++ put16 k.hysteresis ++ putTab put8 k.ranks ++ rowFigures (bankRow k row) ++
    put8 (s.policy.changes.get b) ++ put8 s.policy.active.val ++ putOpt8 (s.policy.switch.map (·.val)) ++
    put8 s.holder.band.code ++ putTab bindingFigures s.config.bindings

/-- READ_BANK served (R148). -/
def serveReadBank (bank row : Nat) (s : State) : Served :=
  match bankOf bank with
  | none => { state := s, status := .refusedUnknown }
  | some b =>
    if rowInUse (s.config.banks.get b) row then { state := s, status := .done, figures := bankFigures s b row }
    else { state := s, status := .refusedUnknown }

/-- READ_BANK (R148). -/
def execReadBank (l : Link) (bank row : Nat) (s : State) : Host.Outcome State Fault Refusal :=
  request l 0x42 (serveReadBank bank row) s

end Sys2Proof.Machine
end

