-- ==== Sys2Proof/Machine/ConfigSteps.lean ====
section
/-! DEFINITION. The configuration store's steps (chapter 11): CONFIGURE over the item table, SAVE_CONFIG,
SAVE_END and RESTART. -/

namespace Sys2Proof.Machine

open Sys2Proof

/-- The settings of items 0x0001 to 0x001B, in item order (R175). -/
inductive Setting where
  | period
  | lease
  | startTimeout
  | stallTime
  | stallHold
  | qualityHold
  | defaultCh4
  | defaultH2s
  | defaultTemp
  | sourLimit
  | sourHysteresis
  | sourPersistence
  | filterShift
  | restoreSpacing
  | balanceWindow
  | balanceTolerance
  | pressureHigh
  | pressureLow
  | flareMin
  | flareMax
  | ignitionTimeout
  | flareAttempts
  | minBurn
  | siteLimit
  | gasDayHour
  | ambient
  | capacity
deriving DecidableEq, Repr

/-- The setting of an item number (R175). -/
def settingOf : Nat → Option Setting
  | 0x01 => some .period
  | 0x02 => some .lease
  | 0x03 => some .startTimeout
  | 0x04 => some .stallTime
  | 0x05 => some .stallHold
  | 0x06 => some .qualityHold
  | 0x07 => some .defaultCh4
  | 0x08 => some .defaultH2s
  | 0x09 => some .defaultTemp
  | 0x0A => some .sourLimit
  | 0x0B => some .sourHysteresis
  | 0x0C => some .sourPersistence
  | 0x0D => some .filterShift
  | 0x0E => some .restoreSpacing
  | 0x0F => some .balanceWindow
  | 0x10 => some .balanceTolerance
  | 0x11 => some .pressureHigh
  | 0x12 => some .pressureLow
  | 0x13 => some .flareMin
  | 0x14 => some .flareMax
  | 0x15 => some .ignitionTimeout
  | 0x16 => some .flareAttempts
  | 0x17 => some .minBurn
  | 0x18 => some .siteLimit
  | 0x19 => some .gasDayHour
  | 0x1A => some .ambient
  | 0x1B => some .capacity
  | _ => none

/-- The range of a setting, as its chapter gives it. -/
def settingRange : Setting → Int × Int
  | .period => (1, 10)
  | .lease => (2, 60)
  | .startTimeout => (10, 600)
  | .stallTime => (5, 600)
  | .stallHold => (0, 60)
  | .qualityHold => (0, 1800)
  | .defaultCh4 => (300, 900)
  | .defaultH2s => (0, 5000)
  | .defaultTemp => (-200, 600)
  | .sourLimit => (10, 5000)
  | .sourHysteresis => (0, 500)
  | .sourPersistence => (1, 30)
  | .filterShift => (0, 4)
  | .restoreSpacing => (1, 60)
  | .balanceWindow => (10, 600)
  | .balanceTolerance => (1, 10000)
  | .pressureHigh => (0, 1000)
  | .pressureLow => (0, 1000)
  | .flareMin => (50, 2000)
  | .flareMax => (100, 10000)
  | .ignitionTimeout => (5, 120)
  | .flareAttempts => (1, 5)
  | .minBurn => (0, 3600)
  | .siteLimit => (1, 20000)
  | .gasDayHour => (0, 23)
  | .ambient => (9000, 10500)
  | .capacity => (100, 50000)

/-- The value of a setting held in a working configuration. -/
def readSetting (k : WorkingConfig) : Setting → Int
  | .period => k.period
  | .lease => k.lease
  | .startTimeout => k.startTimeout
  | .stallTime => k.stallTime
  | .stallHold => k.stallHold
  | .qualityHold => k.qualityHold
  | .defaultCh4 => k.defaultCh4
  | .defaultH2s => k.defaultH2s
  | .defaultTemp => k.defaultTemp
  | .sourLimit => k.sourLimit
  | .sourHysteresis => k.sourHysteresis
  | .sourPersistence => k.sourPersistence
  | .filterShift => k.filterShift
  | .restoreSpacing => k.restoreSpacing
  | .balanceWindow => k.balanceWindow
  | .balanceTolerance => k.balanceTolerance
  | .pressureHigh => k.pressureHigh
  | .pressureLow => k.pressureLow
  | .flareMin => k.flareMin
  | .flareMax => k.flareMax
  | .ignitionTimeout => k.ignitionTimeout
  | .flareAttempts => k.flareAttempts
  | .minBurn => k.minBurn
  | .siteLimit => k.siteLimit
  | .gasDayHour => k.gasDayHour
  | .ambient => k.ambient
  | .capacity => k.capacity

/-- A working configuration with one setting written. -/
def putSetting (k : WorkingConfig) (v : Int) : Setting → WorkingConfig
  | .period => { k with period := v.toNat }
  | .lease => { k with lease := v.toNat }
  | .startTimeout => { k with startTimeout := v.toNat }
  | .stallTime => { k with stallTime := v.toNat }
  | .stallHold => { k with stallHold := v.toNat }
  | .qualityHold => { k with qualityHold := v.toNat }
  | .defaultCh4 => { k with defaultCh4 := v.toNat }
  | .defaultH2s => { k with defaultH2s := v.toNat }
  | .defaultTemp => { k with defaultTemp := v }
  | .sourLimit => { k with sourLimit := v.toNat }
  | .sourHysteresis => { k with sourHysteresis := v.toNat }
  | .sourPersistence => { k with sourPersistence := v.toNat }
  | .filterShift => { k with filterShift := v.toNat }
  | .restoreSpacing => { k with restoreSpacing := v.toNat }
  | .balanceWindow => { k with balanceWindow := v.toNat }
  | .balanceTolerance => { k with balanceTolerance := v.toNat }
  | .pressureHigh => { k with pressureHigh := v.toNat }
  | .pressureLow => { k with pressureLow := v.toNat }
  | .flareMin => { k with flareMin := v.toNat }
  | .flareMax => { k with flareMax := v.toNat }
  | .ignitionTimeout => { k with ignitionTimeout := v.toNat }
  | .flareAttempts => { k with flareAttempts := v.toNat }
  | .minBurn => { k with minBurn := v.toNat }
  | .siteLimit => { k with siteLimit := v.toNat }
  | .gasDayHour => { k with gasDayHour := v.toNat }
  | .ambient => { k with ambient := v.toNat }
  | .capacity => { k with capacity := v.toNat }

/-- The pairs of settings a write must not break (R175 check 4): the pressure low limit below the high limit
(R55) and the flare minimum at most the flare maximum (R122). -/
def pairHolds (k : WorkingConfig) : Setting → Bool
  | .pressureHigh | .pressureLow => k.pressureLow < k.pressureHigh
  | .flareMin | .flareMax => k.flareMin ≤ k.flareMax
  | _ => true

/-- A taken change of the flare range acts on the sequencer (R122). -/
def refitFlare (lo hi : Nat) (f : Flare) : Flare :=
  let held := if f.heldDemand = 0 then 0 else clampNat lo hi f.heldDemand
  match f.state with
  | .called | .burning => { f with heldDemand := held, demand := clampNat lo hi f.demand }
  | .holding => { f with heldDemand := held, demand := lo }
  | .off | .failed => { f with heldDemand := held }

/-- The working values follow the defaults in SUBSTITUTED (R24). -/
def followDefaults (s : State) : State :=
  if s.quality.source = .substituted then
    { s with quality := { s.quality with ch4 := s.config.defaultCh4, h2s := s.config.defaultH2s } }
  else s

/-- The meters in the order M1 to M6, Q1 to Q6. -/
def allMeters : List Meter := [0, 1, 2, 3, 4, 5, 6, 7, 8, 9, 10, 11]

/-- What a written setting does at once: timers that have already run as long as the new time expire (R6, R23,
R61, R67, R128, R131), the defaults, the flare range and the hour copy are followed (R24, R122, R170). -/
def settingEffect (k : Setting) (s : State) : State :=
  match k with
  | .lease => allSlots.foldl (fun s c => leaseExpires c s) s
  | .startTimeout => allSlots.foldl (fun s c => startExpires c s) s
  | .stallTime => allMeters.foldl (fun s m => stallExpires m s) s
  | .qualityHold => holdExpires s
  | .defaultCh4 | .defaultH2s => followDefaults s
  | .flareMin | .flareMax => withFlare (refitFlare s.config.flareMin s.config.flareMax) s
  | .ignitionTimeout => ignitionExpires s
  | .minBurn => minBurnExpires s
  | .gasDayHour =>
    { s with totals := { s.totals with hourCopy := s.config.gasDayHour, checkAgrees := true } }
  | .period | .stallHold | .defaultTemp | .sourLimit | .sourHysteresis | .sourPersistence | .filterShift
  | .restoreSpacing | .balanceWindow | .balanceTolerance | .pressureHigh | .pressureLow | .flareAttempts
  | .siteLimit | .ambient | .capacity => s

/-- CONFIGURE of a setting (R175): clamped to its range, refused where it would break its pair, written at
once; a value equal to the one held changes nothing further. -/
def serveSetting (k : Setting) (value : Int) (s : State) : Served :=
  let v := clampInt (settingRange k).1 (settingRange k).2 value
  let config := putSetting s.config v k
  if !pairHolds config k then { state := s, status := .refusedState }
  else
    { state := if v = readSetting s.config k then s else settingEffect k { s with config }
      status := doneOr (v ≠ value) }

/-- CONFIGURE of a meter factor (R31, R175). -/
def serveFactor (m : Meter) (value : Int) (s : State) : Served :=
  let v := clampInt 1 100000 value
  { state := { s with config := { s.config with factors := s.config.factors.set m v.toNat } }
    status := doneOr (v ≠ value) }

/-- The balance unit once a CONFIGURE has written the flag of a line: a pass in flight no longer writes that line's
carry and held line rate (R10, R33, R41). -/
def noteLineChange (l : Line) (b : Balance) : Balance :=
  { b with pass := b.pass.map fun p =>
      { p with sampled := { p.sampled with lineChanged := p.sampled.lineChanged.set l true } } }

/-- The state with a production line taken out of use or put into use (R4, R10, R33): counter, recovery, hold
count, held line rate and carry 0, stall flag and stall timer clear, the METER_STALL and COUNTER_OVERRUN
records ended. Put into use, the stall timer starts from zero. -/
def changeLine (l : Line) (inUse : Bool) (s : State) : State :=
  let m := lineMeter l
  lower (.counterOverrun m) <| lower (.meterStall m)
    { s with
      config := { s.config with inUse := s.config.inUse.set l inUse }
      meters := s.meters.set m (startMeter (if inUse then some 0 else none))
      normalizer := { s.normalizer with carries := s.normalizer.carries.set m 0 }
      balance := noteLineChange l s.balance }

/-- CONFIGURE of a line-in-use flag (R4, R175). -/
def serveInUse (l : Line) (value : Int) (s : State) : Served :=
  if value = 0 ∨ value = 1 then
    { state := if s.config.inUse.get l = (value = 1 : Bool) then s else changeLine l (value = 1) s
      status := .done }
  else { state := s, status := .refusedUnknown }

/-- CONFIGURE of a channel's lo or hi (R11): clamped to the quantity's range, refused where lo would not be
below hi. -/
def serveRange (a : Channel) (high : Bool) (value : Int) (s : State) : Served :=
  let full := fullRanges.get a
  let v := clampInt full.lo full.hi value
  let old := s.config.ranges.get a
  let new : Range := if high then { old with hi := v } else { old with lo := v }
  if new.lo < new.hi then
    { state := { s with config := { s.config with ranges := s.config.ranges.set a new } }
      status := doneOr (v ≠ value) }
  else { state := s, status := .refusedState }

/-- The item table (R175), the policy banks' items apart. -/
inductive Item where
  | setting (k : Setting)
  | factor (m : Meter)
  | inUse (l : Line)
  | range (a : Channel) (high : Bool)
deriving DecidableEq, Repr

/-- The item of an item number (R175). -/
def itemOf (n : Nat) : Option Item :=
  match settingOf n with
  | some k => some (.setting k)
  | none =>
    if h : 0x101 ≤ n ∧ n ≤ 0x10C then some (.factor ⟨n - 0x101, by omega⟩)
    else if h : 0x111 ≤ n ∧ n ≤ 0x116 then some (.inUse ⟨n - 0x111, by omega⟩)
    else if h : 0x121 ≤ n ∧ n ≤ 0x125 then some (.range ⟨n - 0x121, by omega⟩ false)
    else if h : 0x131 ≤ n ∧ n ≤ 0x135 then some (.range ⟨n - 0x131, by omega⟩ true)
    else none

/-- CONFIGURE of an item that the configuration store serves itself. -/
def serveItem (i : Item) (value : Int) (s : State) : Served :=
  match i with
  | .setting k => serveSetting k value s
  | .factor m => serveFactor m value s
  | .inUse l => serveInUse l value s
  | .range a high => serveRange a high value s

/-- CONFIGURE served (R175): BUSY during a save, then the item table; items of the policy banks are served as
R147 and R149 give. -/
def serveConfigure (item : Nat) (value : Int) (s : State) : Served :=
  if isSaving s then { state := s, status := .busy }
  else
    match geometryItem item, bindingItem item, itemOf item with
    | some (bank, which), _, _ => serveGeometry bank which value s
    | none, some n, _ => serveBinding n value s
    | none, none, some i => serveItem i value s
    | none, none, none => { state := s, status := .refusedUnknown }

/-- CONFIGURE (R175). -/
def execConfigure (l : Link) (item : Nat) (value : Int) (s : State) : Host.Outcome State Fault Refusal :=
  request l 0x30 (serveConfigure item value) s

/-- SAVE_CONFIG served (R176): the save begins; until it ends the stored copy is part written and its check
value does not agree. -/
def serveSaveConfig (s : State) : Served :=
  if isSaving s then { state := s, status := .busy }
  else
    { state := { s with store := { s.store with stored := s.config, checkAgrees := false, saving := some 0 } }
      status := .done }

/-- SAVE_CONFIG (R176). -/
def execSaveConfig (l : Link) (s : State) : Host.Outcome State Fault Refusal := request l 0x45 serveSaveConfig s

/-- SAVE_END (R176). -/
def execSaveEnd (s : State) : Host.Outcome State Fault Refusal :=
  event
    (fun s =>
      if isSaving s then
        lower .configDefaulted
          { s with store := { s.store with checkAgrees := true, saving := none, defaulted := false } }
      else s)
    s

/-- RESTART (R156, R176): answered DONE; the restart takes place later, and a second one adds nothing. -/
def execRestart (l : Link) (s : State) : Host.Outcome State Fault Refusal :=
  request l 0x46 (fun s => { state := { s with restartPending := true }, status := .done }) s

end Sys2Proof.Machine
end

