-- ==== Sys2Proof/Machine/Start.lean ====
section
/-! DEFINITION. The supply failure and the two starts (chapter 11.4): POWER_FAIL, POWER_ON_START and
RESTART_TAKES_PLACE, with the start states of R18, R27, R57, R82, R108, R120, R138, R152, R165, R173, R178. -/

namespace Sys2Proof.Machine

open Sys2Proof

/-- POWER_FAIL (R19, R85, R156, R164, R176): the pass in flight is abandoned, the ports stop, and a save in
flight leaves its stored copy with a check value that does not agree (R176: `checkAgrees` is false throughout a
save). The volatile state is not kept; nothing reads it until the power-on start forms it anew
(notes/assumptions/10.md). -/
def execPowerFail (s : State) : Host.Outcome State Fault Refusal :=
  .next
    { s with
      supplied := false
      store := { s.store with saving := none }
      meters := Tab.gen fun m => { s.meters.get m with stallTimer := none }
      contacts := Tab.gen fun k => { s.contacts.get k with timer := none }
      balance := { s.balance with pass := none }
      ports := Tab.gen fun l => toHunt (s.ports.get l)
      restartPending := false }

/-! ## What both starts do alike (R178) -/

/-- A channel before its start sample (R18): fault flag and recovery count clear, last good value as set. -/
def startChannel (c : ChannelRec) : ChannelRec :=
  { c with reading := c.lastGood, fault := false, recovery := 0 }

/-- A contact read at a start (R18): the debounced state is the raw state, the timer is stopped. -/
def startContact (c : ContactRec) : ContactRec := { c with debounced := c.raw, timer := none }

/-- A claim record after either start, with the lock causes of a K2 or a K4 found closed (R82). -/
def startClaim (k2 k4 : Bool) (c : Slot) : Claim :=
  { vacantClaim with locks := { noLocks with gasRoom := k2, estop := k4 && c.val < 4 } }

/-- The block start states that need no sample, every alert record CLEAR and the contacts read (R178 steps 1 to
3). The configuration, the last good values, the totals and the bank change counts are those the start has
formed. -/
def startBlocks (s : State) : State :=
  let contacts := Tab.gen fun k => startContact (s.contacts.get k)
  { s with
    meters := startMeters s.config.inUse
    channels := Tab.gen fun a => startChannel (s.channels.get a)
    contacts
    normalizer := { carries := Tab.fill 12 0, filtered := 0 }
    claims := Tab.gen (startClaim (contacts.get conK2).debounced (contacts.get conK4).debounced)
    stack := { records := [], changes := 0 }
    flare := startFlare
    policy := { s.policy with active := 0, switch := none }
    ports := Tab.fill 7 huntPort
    alerts := Tab.fill 58 .clear
    totals := { s.totals with hourCopy := s.config.gasDayHour, checkAgrees := true }
    restartPending := false }

/-- The start sample qualifies (R27). -/
def startQualifies (s : State) : Bool := (s.contacts.get conK1).debounced && samplesQualify s

/-- The quality monitor's start decision (R27). -/
def startQuality (s : State) : State :=
  if startQualifies s then
    { s with quality :=
        { source := .live, ch4 := (s.channels.get chA4).reading.toNat,
          h2s := (s.channels.get chA5).reading.toNat, hold := none, sour := false, high := 0, low := 0 } }
  else
    raise .qualitySubstituted
      { s with quality :=
          { source := .substituted, ch4 := s.config.defaultCh4, h2s := s.config.defaultH2s, hold := none,
            sour := false, high := 0, low := 0 } }

/-- The holder monitor's start state and its start alerts (R57). -/
def startHolder (s : State) : State :=
  let level := (s.channels.get chA1).reading.toNat
  followPressure <| followOverfill <| followHolderLow
    { s with holder :=
        { level, prevLevel := level, inventory := inventoryOf s.config.capacity level s.quality.ch4, deltaI := 0,
          band := recomputeBand (activeBank s) level, accumulator := 0, window := 0, mismatch := false,
          overfill := false, pressureHigh := false, pressureLow := false } }

/-- The alert of a condition found true at a start (R165). -/
def startAlert (a : Alert) (found : Bool) (s : State) : State := if found then raise a s else s

/-- The sources of event bindings found at a start (R152). -/
def startSources (s : State) : List Source :=
  (if (s.contacts.get conK2).debounced then [Source.k2] else []) ++
  (if (s.contacts.get conK3).debounced then [Source.k3] else []) ++
  (if (s.contacts.get conK4).debounced then [Source.k4] else []) ++
  (if s.quality.source = .substituted then [Source.substituted] else [])

/-- The pending switch after the start onsets (R152), in the order the moment's tie-break gives
(notes/assumptions/5.md). -/
def startSwitch (s : State) : Option BankNo :=
  (arrange (Config.tieBreak s.moments) (startSources s)).foldl
    (fun sw x => fireBindings s.config.bindings s.policy.active x sw) s.policy.switch

/-- The start onsets on the event bindings (R152). -/
def startBindings (s : State) : State :=
  { s with policy := { s.policy with switch := startSwitch s }, moments := s.moments + 1 }

/-- The start onsets and start alerts (R165, R178 step 6); the lock causes stand in the claim records already
(R82). -/
def startOnsets (s : State) : State :=
  startBindings <|
    startAlert .totalsLost s.totals.clockUnset <| startAlert .configDefaulted s.store.defaulted <|
    startAlert .estop (s.contacts.get conK4).debounced <| startAlert .gasRoom (s.contacts.get conK2).debounced s

/-- The balance unit after either start (R108, R178). -/
def startBalance (s : State) : State :=
  { s with balance :=
      { timer := 0, period := s.config.period, passNumber := 0, spacing := 0, pass := none,
        results := startResults s.config.period s.holder.band s.quality.source s.holder.level
          (s.channels.get chA1).fault } }

/-- A start, once the working configuration is formed (R178). -/
def start (amps : Currents) (s : State) : State :=
  startBalance <| startOnsets <| startHolder <| startQuality <| sampleAnalog amps <| startBlocks s

/-! ## The power-on start (R173, R177) -/

/-- The configuration the store loads when its stored copy is bad (R174). -/
def loadDefaults : WorkingConfig := defaultConfig

/-- The stored copy is good: its check value agrees, and the examination at this start finds it so (R177). -/
def copyGood (configAgrees : Bool) (s : State) : Bool := s.store.checkAgrees && configAgrees

/-- The configuration store at a power-on start (R177), with the bank change counts at 0 (R148). -/
def loadConfig (configAgrees : Bool) (s : State) : State :=
  let good := copyGood configAgrees s
  { s with
    config := if good then s.store.stored else loadDefaults
    store := { s.store with checkAgrees := good, saving := none, defaulted := !good }
    policy := { s.policy with changes := Tab.fill 4 0 } }

/-- The last good values a power-on start sets (R18). -/
def powerOnLastGood (k : WorkingConfig) : Tab 5 Int :=
  ⟨[(k.ranges.get chA1).lo, (k.ranges.get chA2).lo, k.defaultTemp, k.defaultCh4, k.defaultH2s], rfl⟩

/-- The channels with the last good values of a power-on start (R18). -/
def setLastGood (s : State) : State :=
  { s with channels := Tab.gen fun a =>
      { s.channels.get a with lastGood := (powerOnLastGood s.config).get a } }

/-- The totals store was kept (R173). -/
def totalsKept (cellLow totalsAgree : Bool) (s : State) : Bool :=
  !cellLow && s.totals.checkAgrees && totalsAgree

/-- The totals store as a power-on start leaves it: kept, or reset (R173). -/
def judgeTotals (cellLow totalsAgree : Bool) (s : State) : State :=
  if totalsKept cellLow totalsAgree s then s else { s with totals := resetTotals s.config.gasDayHour }

/-- POWER_ON_START (R177, R178). -/
def execPowerOnStart (amps : Currents) (cellLow totalsAgree configAgrees : Bool) (s : State) :
    Host.Outcome State Fault Refusal :=
  .next
    (start amps
      (judgeTotals cellLow totalsAgree (setLastGood { loadConfig configAgrees s with supplied := true })))

/-! ## The RESTART (R156, R176, R178) -/

/-- A port is sending the answer to a taken RESTART, DONE (R156). The answer to a RESTART that is refused, for its
link or its form, holds no restart back (R157, R176). -/
def sendsRestart (p : Port) : Bool :=
  p.state = .send && p.answer.any fun a => a.code = 0x46 && a.status = .done

/-- The restart of a taken RESTART can take place: no save is in flight, and link 0 is not sending the answer to a
taken RESTART (R156, R176). The answer to any other request does not hold it back. That the answer of a second RESTART
is waited for too is the model's choice (notes/assumptions/25.md). -/
def restartReady (s : State) : Bool :=
  s.restartPending && !isSaving s && !sendsRestart (s.ports.get 0)

/-- RESTART_TAKES_PLACE (R178): the working configuration, the bank change counts, the last good values and the
totals are kept (R18, R148, R173, R177). -/
def execRestartTakesPlace (amps : Currents) (s : State) : Host.Outcome State Fault Refusal :=
  event (fun s => if restartReady s then start amps s else s) s

end Sys2Proof.Machine
end

