-- ==== Sys2Proof/Machine/Status.lean ====
section
/-! DEFINITION. READ_STATUS (R159, R160) and ACK_ALERTS (R113, R162). -/

namespace Sys2Proof.Machine

open Sys2Proof

/-- A set of claim slots as a mask byte, bits 0 to 4 for C1 to C5 (R166). -/
def slotMask (t : Tab 5 Bool) : Nat :=
  (List.range 5).foldl (fun acc k => acc + (if (t.list[k]?).getD false then 2 ^ k else 0)) 0

/-- A slot field, absent as all ones. -/
def putSlot (c : Option Slot) : List Byte := putOpt8 (c.map slotByte)

/-- Group 0: the pass results record in the order of R108, and the quality source of the pass (R160). -/
def groupResults (s : State) : List Byte :=
  let r := s.balance.results
  put16 r.passNumber ++ put16 r.period ++ put8 r.active.val ++ put8 r.band.code ++ put16 r.pRaw ++ put16 r.pF ++
    put16 r.distributable ++ put8 r.kind.code ++ put8 r.steps ++ put8 r.pushed ++ putSlot r.restored ++
    putSlot r.admitted ++ put16 r.sumCeilings ++ put16 r.sumAllotments ++ putFlag r.call ++ put16 r.demand ++
    put8 (slotMask r.discarded) ++ put8 r.source.code

/-- Group 1: the holder, the channels and the contacts (R160). DEDUCED (notes/assumptions/23.md): each reading, A3's
temperature and A5's ppm among them, takes a signed field of 2 bytes. -/
def groupHolder (s : State) : List Byte :=
  let h := s.holder
  put16 s.balance.results.level ++ putFlag s.balance.results.a1Fault ++ put32 h.inventory ++
    putSigned32 h.deltaI ++ put8 h.band.code ++ putSigned32 h.accumulator ++ put16 h.window ++
    putFlag h.mismatch ++ putFlag h.overfill ++ putFlag h.pressureHigh ++ putFlag h.pressureLow ++
    putTab (fun c => putSigned16 c.reading) s.channels ++ putTab (fun c => putFlag c.fault) s.channels ++
    putTab (fun k => putFlag k.debounced) s.contacts

/-- Group 2: quality and metering (R160). DEDUCED (notes/assumptions/23.md): an H2S value in ppm, a kind that R166's
width classes do not name, takes 2 bytes. -/
def groupQuality (s : State) : List Byte :=
  let q := s.quality
  put8 q.source.code ++ put16 q.ch4 ++ put16 q.h2s ++ putTimer q.hold ++ putFlag q.sour ++ put8 q.high ++
    put8 q.low ++ putTab (fun m => putFlag m.stalled) s.meters ++ put16 s.balance.results.pRaw ++
    putTab put16 s.balance.results.slotRates

/-- Group 3: the flare sequencer, in the order of R137. -/
def groupFlare (s : State) : List Byte :=
  let f := s.flare
  put8 f.state.code ++ putFlag f.permit ++ put8 f.attempts ++ putFlag f.heldCall ++ put16 f.heldDemand ++
    put16 f.demand ++ putTimer f.ignition ++ putTimer f.minBurn ++ putFlag f.report.flame ++
    putFlag f.report.ready ++ putFlag f.report.fault

/-- Group 4: claims and policy (R160). -/
def groupClaims (s : State) : List Byte :=
  allSlots.flatMap (slotSummary s) ++ put8 s.policy.active.val ++ putOpt8 (s.policy.switch.map (·.val)) ++
    put8 s.stack.records.length ++ putFlag (overflowFlag s)

/-- Group 5: the alert register and the alarm relay (R160; section 9.5). -/
def groupAlerts (s : State) : List Byte :=
  indicationBytes (fun a => a = .active) s.alerts ++ indicationBytes isLatched s.alerts ++
    putFlag (relayEnergized s)

/-- The figures of a READ_STATUS group (R160). -/
def groupFigures (s : State) : Nat → List Byte
  | 0 => groupResults s
  | 1 => groupHolder s
  | 2 => groupQuality s
  | 3 => groupFlare s
  | 4 => groupClaims s
  | _ => groupAlerts s

/-- READ_STATUS served: on links 1 to 6 the summary alone, on link 0 the figures of a group (R159, R160). -/
def serveReadStatus (l : Link) (group : Nat) (s : State) : Served :=
  if l ≠ 0 then { state := s, status := .done }
  else if group ≤ 5 then { state := s, status := .done, figures := groupFigures s group }
  else { state := s, status := .refusedUnknown }

/-- READ_STATUS (R160). -/
def execReadStatus (l : Link) (group : Nat) (s : State) : Host.Outcome State Fault Refusal :=
  request l 0x01 (serveReadStatus l group) s

/-- The shed stack examines its depth: below 16 the overflow flag is cleared (R113). -/
def examineDepth (s : State) : State :=
  if s.stack.records.length < stackDepth then lower .stackOverflow s else s

/-- ACK_ALERTS served (R162): the stack's own examination first, then every latched record is cleared. -/
def serveAckAlerts (s : State) : Served :=
  { state := { examineDepth s with alerts := ackAll (examineDepth s).alerts }, status := .done }

/-- ACK_ALERTS (R162). -/
def execAckAlerts (l : Link) (s : State) : Host.Outcome State Fault Refusal := request l 0x3A serveAckAlerts s

end Sys2Proof.Machine
end

