-- ==== Sys2Proof/Machine/Dispatch.lean ====
section
/-! DEFINITION. The meaning of each command, one arm per row of spec/opcode_table.json. -/

namespace Sys2Proof.Machine

open Sys2Proof

def exec (i : Instr) (s : State) : Host.Outcome State Fault Refusal :=
  match i with
  | .pulse m => Sys2Proof.Machine.execPulse m s
  | .stallTimerExpiry m => Sys2Proof.Machine.execStallTimerExpiry m s
  | .contactChange k closed => Sys2Proof.Machine.execContactChange k closed s
  | .debounceExpiry k => Sys2Proof.Machine.execDebounceExpiry k s
  | .powerFail => Sys2Proof.Machine.execPowerFail s
  | .powerOnStart amps cellLow totalsAgree configAgrees => Sys2Proof.Machine.execPowerOnStart amps cellLow totalsAgree configAgrees s
  | .clockSecond => Sys2Proof.Machine.execClockSecond s
  | .passTimerExpiry => Sys2Proof.Machine.execPassTimerExpiry s
  | .sampleStage amps => Sys2Proof.Machine.execSampleStage amps s
  | .measureStage => Sys2Proof.Machine.execMeasureStage s
  | .holderStage => Sys2Proof.Machine.execHolderStage s
  | .snapshotStage => Sys2Proof.Machine.execSnapshotStage s
  | .shortfallStage => Sys2Proof.Machine.execShortfallStage s
  | .shedPush => Sys2Proof.Machine.execShedPush s
  | .restoreStage => Sys2Proof.Machine.execRestoreStage s
  | .pop => Sys2Proof.Machine.execPop s
  | .admissionStage => Sys2Proof.Machine.execAdmissionStage s
  | .allotmentStage => Sys2Proof.Machine.execAllotmentStage s
  | .flareStage => Sys2Proof.Machine.execFlareStage s
  | .applyStage => Sys2Proof.Machine.execApplyStage s
  | .holdTimerExpiry => Sys2Proof.Machine.execHoldTimerExpiry s
  | .qualityResume l => Sys2Proof.Machine.execQualityResume l s
  | .register l m x u => Sys2Proof.Machine.execRegister l m x u s
  | .claim l r => Sys2Proof.Machine.execClaim l r s
  | .amend l r => Sys2Proof.Machine.execAmend l r s
  | .report l running rate => Sys2Proof.Machine.execReport l running rate s
  | .release l => Sys2Proof.Machine.execRelease l s
  | .leaseTimerExpiry c => Sys2Proof.Machine.execLeaseTimerExpiry c s
  | .startTimerExpiry c => Sys2Proof.Machine.execStartTimerExpiry c s
  | .holdSlots l mask on => Sys2Proof.Machine.execHoldSlots l mask on s
  | .forceVacant l slot => Sys2Proof.Machine.execForceVacant l slot s
  | .readClaim l slot => Sys2Proof.Machine.execReadClaim l slot s
  | .readStack l position => Sys2Proof.Machine.execReadStack l position s
  | .flareStatus l flame ready fault => Sys2Proof.Machine.execFlareStatus l flame ready fault s
  | .ignitionTimerExpiry => Sys2Proof.Machine.execIgnitionTimerExpiry s
  | .minimumBurnTimerExpiry => Sys2Proof.Machine.execMinimumBurnTimerExpiry s
  | .burnTimeSecond => Sys2Proof.Machine.execBurnTimeSecond s
  | .flareReset l => Sys2Proof.Machine.execFlareReset l s
  | .flarePermit l on => Sys2Proof.Machine.execFlarePermit l on s
  | .switchBank l bank => Sys2Proof.Machine.execSwitchBank l bank s
  | .writeRow l bank row rec => Sys2Proof.Machine.execWriteRow l bank row rec s
  | .setRank l bank slot rank => Sys2Proof.Machine.execSetRank l bank slot rank s
  | .setLimits l mask max => Sys2Proof.Machine.execSetLimits l mask max s
  | .readBank l bank row => Sys2Proof.Machine.execReadBank l bank row s
  | .configure l item value => Sys2Proof.Machine.execConfigure l item value s
  | .configureBandGeometry l bank which value => Sys2Proof.Machine.execConfigureBandGeometry l bank which value s
  | .configureEventBinding l number value => Sys2Proof.Machine.execConfigureEventBinding l number value s
  | .frameReceived l => Sys2Proof.Machine.execFrameReceived l s
  | .gapTimerExpiry l => Sys2Proof.Machine.execGapTimerExpiry l s
  | .answerSent l => Sys2Proof.Machine.execAnswerSent l s
  | .unknownRequest l code => Sys2Proof.Machine.execUnknownRequest l code s
  | .readStatus l group => Sys2Proof.Machine.execReadStatus l group s
  | .ackAlerts l => Sys2Proof.Machine.execAckAlerts l s
  | .setClock l d => Sys2Proof.Machine.execSetClock l d s
  | .readTotals l record group => Sys2Proof.Machine.execReadTotals l record group s
  | .saveConfig l => Sys2Proof.Machine.execSaveConfig l s
  | .saveEnd => Sys2Proof.Machine.execSaveEnd s
  | .restart l => Sys2Proof.Machine.execRestart l s
  | .restartTakesPlace amps => Sys2Proof.Machine.execRestartTakesPlace amps s
  | .byteReceived l b => Sys2Proof.Machine.execByteReceived l b s

end Sys2Proof.Machine
end

