-- ==== Sys2Proof/Machine/Time.lean ====
section
/-! DEFINITION. The passage of time (notes/assumptions/2.md): on an empty queue one of the part's own events that are
due is put into the queue, and where none is due one millisecond passes and the running timers advance. -/

namespace Sys2Proof.Machine

open Sys2Proof

/-! ## One millisecond -/

/-- A running timer one millisecond further; a stopped timer stays stopped. -/
def Timer.advance (t : Timer) : Timer := t.map (· + 1)

/-- The timers of the blocks after one millisecond while the part is supplied (R5, R15, R23, R61, R67, R83,
R128, R131, R136, R153, R176). -/
def advanceBlocks (s : State) : State :=
  { s with
    meters := Tab.gen fun m => { s.meters.get m with stallTimer := Timer.advance (s.meters.get m).stallTimer }
    contacts := Tab.gen fun k => { s.contacts.get k with timer := Timer.advance (s.contacts.get k).timer }
    quality := { s.quality with hold := Timer.advance s.quality.hold }
    claims := Tab.gen fun c =>
      { s.claims.get c with lease := Timer.advance (s.claims.get c).lease,
                            start := Timer.advance (s.claims.get c).start }
    flare :=
      { s.flare with ignition := Timer.advance s.flare.ignition, minBurn := Timer.advance s.flare.minBurn,
                     burnMs := if burns s.flare then s.flare.burnMs + 1 else s.flare.burnMs }
    balance := { s.balance with timer := s.balance.timer + 1 }
    ports := Tab.gen fun l =>
      { s.ports.get l with gap := Timer.advance (s.ports.get l).gap,
                           sending := Timer.advance (s.ports.get l).sending }
    store := { s.store with saving := Timer.advance s.store.saving } }

/-- One millisecond: on the backup cell the clock alone runs (R19, R168). -/
def tick (s : State) : State :=
  let t := if s.supplied then advanceBlocks s else s
  { t with totals := { t.totals with clockMs := t.totals.clockMs + 1 } }

/-! ## Events that are due -/

/-- `i`, if the condition holds. -/
def dueIf (p : Bool) (i : Instr) : List Instr := if p then [i] else []

/-- The next step of the pass in flight (the stage table of chapter 5); a sample finds the loop currents as the
last sample found them (notes/assumptions/8.md). -/
def nextStage (loops : Currents) (p : Pass) : Instr :=
  match p.stage with
  | .banked => .sampleStage loops
  | .sampled => .measureStage
  | .measured => .holderStage
  | .held => .snapshotStage
  | .snapped => .shortfallStage
  | .pushing => if p.decisions.toPush.isEmpty then .restoreStage else .shedPush
  | .popping => .pop
  | .restored => .admissionStage
  | .admitted => .allotmentStage
  | .allotted => .flareStage
  | .flared => .applyStage

/-- The millisecond of its pass in which the next step of a pass in flight is due: one step a millisecond, so that
requests and field events may come between the stages (notes/assumptions/2.md). -/
def stageMoment (p : Pass) : Nat :=
  match p.stage with
  | .banked => 1
  | .sampled => 2
  | .measured => 3
  | .held => 4
  | .snapped => 5
  | .pushing => 6 + p.decisions.pushed.length
  | .popping => 7 + p.decisions.pushed.length
  | .restored => 8 + p.decisions.pushed.length
  | .admitted => 9 + p.decisions.pushed.length
  | .allotted => 10 + p.decisions.pushed.length
  | .flared => 11 + p.decisions.pushed.length

/-- The step of the balance unit that is due: the next stage of the pass in flight, or the pass timer's expiry
(R83). -/
def duePass (s : State) : List Instr :=
  match s.balance.pass with
  | some p => dueIf (stageMoment p ≤ s.balance.timer) (nextStage s.loops p)
  | none => dueIf (passOver s) .passTimerExpiry

/-- The longest time from the last CRC byte of a request to the first byte of its answer, in ms (R156). -/
def longestDelay : Nat := 20

/-- The longest gap between two bytes of an answer, in whole ms (R156). -/
def longestGap : Nat := 4

/-- How long an answer takes from its building to its last byte, in ms: the port's own delay, 10 bit times a byte
at 19,200 baud, and the port's own gaps between the bytes (R156, section 9.1). -/
def sendMs (l : Link) (a : Answer) : Nat :=
  let n := (answerFrame l a).length
  Nat.min Config.answerDelayMs longestDelay + (n * 25 + 47) / 48 + (n - 1) * Nat.min Config.answerGapMs longestGap

/-- The request a port in HOLD holds, for its owning block or for UNKNOWN_REQUEST (R157). -/
def dueRequest (l : Link) (h : HeldRequest) : List Instr :=
  match checkRequest l h.code h.payload with
  | .request i => [i]
  | .unknownCode => [.unknownRequest l h.code]
  | .notAllowed | .badForm => []

/-- The step of a link port that is due (R153, R154, R156). -/
def duePort (s : State) (l : Link) : List Instr :=
  let p := s.ports.get l
  match p.state with
  | .hunt => []
  | .receive =>
    if frameComplete p.body then [.frameReceived l] else dueIf (gapOver p) (.gapTimerExpiry l)
  | .hold =>
    match p.held with
    | some h => dueRequest l h
    | none => []
  | .send =>
    match p.answer with
    | some a => dueIf (timerAtLeast p.sending (sendMs l a)) (.answerSent l)
    | none => [.answerSent l]

/-- The timer expiries of one claim that are due (R61, R67). -/
def dueClaim (s : State) (c : Slot) : List Instr :=
  dueIf (leaseOver c s) (.leaseTimerExpiry c) ++ dueIf (startOver c s) (.startTimerExpiry c)

/-- The steps of the flare sequencer that are due (R128, R131, R136). -/
def dueFlare (s : State) : List Instr :=
  dueIf (ignitionOver s) .ignitionTimerExpiry ++ dueIf (minBurnOver s) .minimumBurnTimerExpiry ++
    dueIf (1000 ≤ s.flare.burnMs) .burnTimeSecond

/-- The longest time a save takes, in ms (section 11.3). -/
def longestSave : Nat := 2000

/-- The steps of the configuration store that are due (R156, R176). -/
def dueStore (s : State) : List Instr :=
  dueIf (timerAtLeast s.store.saving (Nat.min Config.saveMs longestSave)) .saveEnd ++
    dueIf (restartReady s) (.restartTakesPlace s.loops)

/-- The events of the field stages that are due (R6, R15). -/
def dueField (s : State) : List Instr :=
  allMeters.flatMap (fun m => dueIf (stallOver m s) (.stallTimerExpiry m)) ++
    ([conK1, conK2, conK3, conK4] : List Contact).flatMap fun k => dueIf (debounceOver k s) (.debounceExpiry k)

/-- The links in order. -/
def allLinks : List Link := [0, 1, 2, 3, 4, 5, 6]

/-- Every event due while the part is supplied. -/
def dueBlocks (s : State) : List Instr :=
  dueField s ++
    dueIf (holdOver s) .holdTimerExpiry ++
    allSlots.flatMap (dueClaim s) ++ dueFlare s ++ duePass s ++ allLinks.flatMap (duePort s) ++ dueStore s

/-- Every event due; on the backup cell only the clock's second (R168). -/
def due (s : State) : List Instr :=
  dueIf (1000 ≤ s.totals.clockMs) .clockSecond ++ if s.supplied then dueBlocks s else []

/-- The event of a list that a tie-break picks. -/
def pickOne (k : Nat) (events : List Instr) : List Instr := (events[k % events.length]?).toList

/-- What the part does on an empty queue: of the events that are due the one that the moment's tie-break picks is
queued, and what is due is judged anew after it, so that no event acts that another one has undone; where none is due
a millisecond passes (notes/assumptions/2.md, notes/assumptions/5.md). -/
def idle (s : State) : State :=
  if (due s).isEmpty then tick s
  else { s with pending := pickOne (Config.tieBreak s.moments 0) (due s), moments := s.moments + 1 }

end Sys2Proof.Machine
end

