-- ==== Sys2Proof/Safety.lean ====
section
/-! DEFINITION. What a safe state is, in the terms the statements use: the conditions that every step keeps, and
the vocabulary of frames (what a command may not change). -/

namespace Sys2Proof.Machine

open Sys2Proof

/-! ## Settings within their ranges -/

/-- A value lies in a closed range. -/
abbrev within (lo hi v : Int) : Prop := lo ≤ v ∧ v ≤ hi

/-- A row record lies in the ranges of R139. -/
abbrev RowInRange (r : RowRecord) : Prop :=
  within (-5000) 5000 r.trim ∧ r.steps ≤ 8 ∧ r.admissionMargin ≤ 5000 ∧ r.restoreMargin ≤ 5000 ∧
    1 ≤ r.shedStep ∧ r.shedStep ≤ 5000

/-- A bank lies in the ranges of R139; H is at most half of W. -/
abbrev BankInRange (b : Bank) : Prop :=
  1 ≤ b.count ∧ b.count ≤ 16 ∧ 10 ≤ b.width ∧ b.width ≤ 250 ∧ b.hysteresis ≤ b.width / 2 ∧
    (∀ n : Fin 16, RowInRange (b.rows.get n)) ∧ RowInRange b.fall ∧
    ∀ c : Slot, 1 ≤ b.ranks.get c ∧ b.ranks.get c ≤ 8

/-- The settings of items 0x0001 to 0x001B, in item order (R175). -/
def allSettings : List Setting :=
  [.period, .lease, .startTimeout, .stallTime, .stallHold, .qualityHold, .defaultCh4, .defaultH2s, .defaultTemp,
    .sourLimit, .sourHysteresis, .sourPersistence, .filterShift, .restoreSpacing, .balanceWindow,
    .balanceTolerance, .pressureHigh, .pressureLow, .flareMin, .flareMax, .ignitionTimeout, .flareAttempts,
    .minBurn, .siteLimit, .gasDayHour, .ambient, .capacity]

/-- A working configuration lies in the ranges of its items and breaks none of the pairs of R175. -/
abbrev ConfigInRange (k : WorkingConfig) : Prop :=
  (∀ x ∈ allSettings, within (settingRange x).1 (settingRange x).2 (readSetting k x)) ∧
  k.pressureLow < k.pressureHigh ∧ k.flareMin ≤ k.flareMax ∧
  (∀ m : Meter, 1 ≤ k.factors.get m ∧ k.factors.get m ≤ 100000) ∧
  (∀ a : Channel, (fullRanges.get a).lo ≤ (k.ranges.get a).lo ∧ (k.ranges.get a).lo < (k.ranges.get a).hi ∧
    (k.ranges.get a).hi ≤ (fullRanges.get a).hi) ∧
  ∀ b : BankNo, BankInRange (k.banks.get b)

/-- The working configuration and the stored copy are in range (R174, R175). -/
abbrev SettingsInRange (s : State) : Prop := ConfigInRange s.config ∧ ConfigInRange s.store.stored

/-! ## Conditions that every step keeps -/

/-- The shed stack holds at most 16 records (R110), each of at least 1 kW, and so are the sheds a pass has yet to
push (R109). -/
abbrev StackBounded (s : State) : Prop :=
  s.stack.records.length ≤ 16 ∧ (∀ r ∈ s.stack.records, 1 ≤ r.amount) ∧
    ∀ p ∈ s.balance.pass, ∀ x ∈ p.decisions.toPush, 1 ≤ x.amount

/-- Every slot's withheld amount is the sum of its records and its orphaned amount (R58). -/
abbrev WithheldAccounted (s : State) : Prop :=
  ∀ c : Slot,
    (s.claims.get c).withheld = slotSum c s.stack.records + (s.claims.get c).orphaned

/-- While the part is supplied, a meter's stall timer runs exactly while flow is expected and the meter is not
stalled (R5), and only a meter on which flow is expected is stalled (R7). -/
abbrev StallTimersFollow (s : State) : Prop :=
  s.supplied = true → ∀ m : Meter,
    (s.meters.get m).stallTimer.isSome = (flowExpected s m && !(s.meters.get m).stalled) ∧
      ((s.meters.get m).stalled = true → flowExpected s m = true)

/-- The pass in flight gives 0 to every claim that its working copy does not hold in ADMITTED or RUNNING, once the
allotment stage is done (R101). -/
abbrev PassAllotsOnlyHolders (p : Pass) : Prop :=
  (p.stage = .allotted ∨ p.stage = .flared) →
    ∀ c : Slot, holdsGas (p.decisions.work.get c) = false → p.decisions.allotments.get c = 0

/-- A claim that is neither ADMITTED nor RUNNING has allotment 0 (R60). -/
abbrev AllotmentOnlyHolders (s : State) : Prop :=
  (∀ c : Slot, (s.claims.get c).state ≠ .admitted → (s.claims.get c).state ≠ .running →
    (s.claims.get c).allotment = 0) ∧
  ∀ p ∈ s.balance.pass, PassAllotsOnlyHolders p

/-- A claim's parameters, request, timers and allotment as R58 to R70 allow them together: m is at most x, r lies
within m to x, the lease timer runs exactly in the leased states (R61), the start timer exactly in ADMITTED (R67), and
an ADMITTED or RUNNING claim is allotted m to min(r, x) (R60). -/
abbrev ClaimInOrder (c : Claim) : Prop :=
  (c.limits = none ↔ c.state = .vacant) ∧
  (∀ k ∈ c.limits, k.m ≤ k.x ∧ 1 ≤ k.x ∧ k.x ≤ 5000 ∧ 1 ≤ k.u ∧ k.u ≤ 1000) ∧
  (∀ k ∈ c.limits, ∀ r ∈ c.request, k.m ≤ r ∧ r ≤ k.x) ∧
  (c.standing = true ↔ c.request ≠ none) ∧
  (c.state = .vacant ∨ c.state = .idle → c.request = none) ∧
  (c.state = .waiting ∨ c.state = .admitted ∨ c.state = .running ∨ c.state = .shed → c.request ≠ none) ∧
  (c.lease ≠ none ↔ c.state = .waiting ∨ c.state = .admitted ∨ c.state = .running ∨ c.state = .shed ∨
    c.state = .locked) ∧
  (c.start ≠ none ↔ c.state = .admitted) ∧
  (c.state = .admitted ∨ c.state = .running →
    c.min ≤ c.allotment ∧ c.allotment ≤ Nat.min (c.request.getD 0) c.max)

/-- The stages of a pass from its snapshot on. -/
def PassStage.hasSnapshot : PassStage → Bool
  | .snapped | .pushing | .popping | .restored | .admitted | .allotted | .flared => true
  | .banked | .sampled | .measured | .held => false

/-- The stages of a pass whose sheds have been decided (R92 to R95). -/
def PassStage.hasSheds : PassStage → Bool
  | .pushing | .popping | .restored | .admitted | .allotted | .flared => true
  | .banked | .sampled | .measured | .held | .snapped => false

/-- The stages of a pass whose allotments have been formed (R101). -/
def PassStage.hasAllotments : PassStage → Bool
  | .allotted | .flared => true
  | .banked | .sampled | .measured | .held | .snapped | .pushing | .popping | .restored | .admitted => false

/-- The claim is WAITING, ADMITTED, RUNNING or SHED. -/
def inPlay : ClaimState → Bool
  | .waiting | .admitted | .running | .shed => true
  | .vacant | .idle | .locked | .lapsed => false

/-- One slot of a pass in flight: its snapshot copy `n`, its working copy `w` and its new allotment `a`. The working
copy keeps the parameters, changes state by the pass transitions of R78 only, keeps a RUNNING claim's ceiling at m or
above once the sheds are decided (R92), and its new allotment lies where R60 wants it (R101). -/
abbrev WorkInOrder (stage : PassStage) (n w : WorkClaim) (a : Nat) : Prop :=
  (stage.hasSnapshot = true →
    w.m = n.m ∧ w.x = n.x ∧ w.request = n.request ∧ w.allotment = n.allotment ∧
    (w.state = n.state ∨ inPlay n.state = true ∧ (w.state = .admitted ∨ w.state = .shed)) ∧
    (inPlay n.state = true → n.m ≤ n.x ∧ n.request ≠ none ∧ n.m ≤ n.request.getD 0) ∧
    (n.state = .running → n.m ≤ n.allotment)) ∧
  (stage.hasSheds = true → w.state = .running → w.m ≤ w.ceiling) ∧
  (stage.hasAllotments = true →
    (w.state = .admitted → a = w.m) ∧ (w.state = .running → w.m ≤ a ∧ a ≤ w.ceiling))

/-- Every claim record is in order, and so is every slot of the pass in flight. -/
abbrev ClaimsInOrder (s : State) : Prop :=
  (∀ c : Slot, ClaimInOrder (s.claims.get c)) ∧
  ∀ p ∈ s.balance.pass, ∀ c : Slot,
    WorkInOrder p.stage (p.snapshot.claims.get c) (p.decisions.work.get c) (p.decisions.allotments.get c)

/-- An epoch that agrees with the snapshot's tells that the claim has not been changed since (R59, R105). An epoch that
has wrapped all the way round would not tell it (notes/assumptions/31.md). -/
abbrev EpochsTell (s : State) : Prop :=
  ∀ p ∈ s.balance.pass, ∀ c : Slot, (s.claims.get c).epoch = (p.snapshot.claims.get c).epoch →
    (p.snapshot.claims.get c).state = (s.claims.get c).state ∧
    (p.snapshot.claims.get c).m = (s.claims.get c).min ∧ (p.snapshot.claims.get c).x = (s.claims.get c).max ∧
    (p.snapshot.claims.get c).request = (s.claims.get c).request

/-- The states whose claims shed records may name (R110). -/
def shedNamed : ClaimState → Bool
  | .admitted | .running | .shed => true
  | .vacant | .idle | .waiting | .locked | .lapsed => false

/-- Every record on the shed stack names a slot whose claim is ADMITTED, RUNNING or SHED; one with the pending mark is
judged by the snapshot of the pass that pushed it, and so are the sheds that pass has yet to push (R110). -/
abbrev RecordsNamed (s : State) : Prop :=
  s.supplied = true →
    (∀ r ∈ s.stack.records, r.pending = false → shedNamed (s.claims.get r.slot).state = true) ∧
    (∀ r ∈ s.stack.records, r.pending = true → ∃ p ∈ s.balance.pass, p.stage.hasSheds = true ∧
      shedNamed (p.snapshot.claims.get r.slot).state = true) ∧
    ∀ p ∈ s.balance.pass,
      (∀ x ∈ p.decisions.toPush, shedNamed (p.snapshot.claims.get x.slot).state = true) ∧
      (p.stage = .snapped → ∀ c : Slot, holdsGas (p.decisions.work.get c) = true →
        shedNamed (p.snapshot.claims.get c).state = true)

/-- Where the apply stage is the next command, epochs tell and the claims are in order: a state of a run from reset
breaks the first only by a wrapped epoch (R59, R105; notes/assumptions/31.md). -/
abbrev ApplyStageSound (s : State) : Prop :=
  ∀ rest, s.pending = .applyStage :: rest → EpochsTell s ∧ ClaimsInOrder s

/-- A slot whose lock cause set is not empty is VACANT, LOCKED or LAPSED (R69), and a LOCKED claim has a cause
(R71). -/
abbrev LocksHold (s : State) : Prop :=
  ∀ c : Slot,
    ((s.claims.get c).locks.empty = false →
      (s.claims.get c).state = .vacant ∨ (s.claims.get c).state = .locked ∨ (s.claims.get c).state = .lapsed) ∧
    ((s.claims.get c).state = .locked → (s.claims.get c).locks.empty = false)

/-- The flare demand (R122), its held figures (R121) and its timers (R128, R131). -/
abbrev FlareInRange (s : State) : Prop :=
  (s.flare.heldCall = false → s.flare.heldDemand = 0) ∧
  (s.flare.heldCall = true → s.config.flareMin ≤ s.flare.heldDemand ∧ s.flare.heldDemand ≤ s.config.flareMax) ∧
  (s.flare.ignition.isSome = true ↔ s.flare.state = .called) ∧
  (s.flare.minBurn.isSome = true ↔ s.flare.state = .holding) ∧
  (s.flare.state = .off ∨ s.flare.state = .failed → s.flare.demand = 0) ∧
  (s.flare.state = .called ∨ s.flare.state = .burning →
    s.flare.heldCall = true ∧ s.flare.demand = s.flare.heldDemand) ∧
  (s.flare.state = .holding → s.flare.demand = s.config.flareMin)

/-- The quality monitor (R20 to R27): the working CH4 lies in the plausible band, and the hold timer runs exactly
in HELD. -/
abbrev QualityInRange (s : State) : Prop :=
  300 ≤ s.quality.ch4 ∧ s.quality.ch4 ≤ 900 ∧ (s.quality.hold.isSome = true ↔ s.quality.source = .held)

/-- The pending switch never names the active bank (R140). -/
abbrev SwitchNotActive (s : State) : Prop := s.policy.switch ≠ some s.policy.active

/-- The readings and last good values lie in the quantity's range (section 1.4), and the working level in 0–1,000
(R42). -/
abbrev ReadingsInRange (s : State) : Prop :=
  (∀ a : Channel, within (fullRanges.get a).lo (fullRanges.get a).hi (s.channels.get a).reading ∧
    within (fullRanges.get a).lo (fullRanges.get a).hi (s.channels.get a).lastGood) ∧
  s.holder.level ≤ 1000 ∧ s.holder.prevLevel ≤ 1000

/-- Counts stay in the widths the manual gives them: pulse counters (R1), epochs (R59), pass number (R84),
restore spacing count (R97), change counts (R118, R148), carries (R32) and P_f (R38, R39). -/
abbrev CountsInRange (s : State) : Prop :=
  (∀ m : Meter, (s.meters.get m).count ≤ 65535) ∧ (∀ c : Slot, (s.claims.get c).epoch ≤ 65535) ∧
  s.balance.passNumber ≤ 65535 ∧ s.balance.spacing ≤ 60 ∧ s.stack.changes ≤ 255 ∧
  (∀ b : BankNo, s.policy.changes.get b ≤ 255) ∧ (∀ m : Meter, s.normalizer.carries.get m ≤ 999) ∧
  s.normalizer.filtered ≤ 20000

/-- A gas-day record stays in the widths of R167. -/
abbrev GasDayInRange (g : GasDay) : Prop :=
  (∀ i : Fin 6, g.lineLitres.get i ≤ 4294967295 ∧ g.slotLitres.get i ≤ 4294967295 ∧
    g.slotKwh.get i ≤ 4294967295) ∧
  g.burnSeconds ≤ 4294967295 ∧ g.starts ≤ 65535 ∧ g.passes ≤ 4294967295

/-- The totals store stays in the values of R167: a clock that exists, both records in their widths and the
remainders below a litre and a kilowatt-hour. -/
abbrev TotalsInRange (s : State) : Prop :=
  dateValid s.totals.clock = true ∧ GasDayInRange s.totals.current ∧ GasDayInRange s.totals.previous ∧
  ∀ i : Fin 6, s.totals.lineRemainders.get i ≤ 999 ∧ s.totals.slotRemainders.get i ≤ 999 ∧
    s.totals.energyRemainders.get i ≤ 3599999

/-- A port's reception is no longer than the frame its length byte announces, and that is at most 48 bytes of
payload (R153); a port outside RECEIVE has none. -/
abbrev PortBounded (p : Port) : Prop :=
  (p.state ≠ .receive → p.body = []) ∧ ∀ n ∈ bodyLength p.body, n ≤ 53 ∧ p.body.length ≤ n

abbrev PortsBounded (s : State) : Prop := ∀ l : Link, PortBounded (s.ports.get l)

/-! ## Frames -/

/-- Every alert record but those of the list reads as before. -/
abbrev AlertsSameBut (as : List Alert) (s t : State) : Prop :=
  ∀ n : Fin 58, n ∉ as.map alertNumber → t.alerts.get n = s.alerts.get n

/-- Every port but that of the link reads as before. -/
abbrev PortsSameBut (l : Link) (s t : State) : Prop := ∀ k : Link, k ≠ l → t.ports.get k = s.ports.get k

/-- Every claim but that of the slot reads as before. -/
abbrev ClaimsSameBut (c : Slot) (s t : State) : Prop := ∀ d : Slot, d ≠ c → t.claims.get d = s.claims.get d

/-- Every meter but the one named reads as before. -/
abbrev MetersSameBut (m : Meter) (s t : State) : Prop := ∀ n : Meter, n ≠ m → t.meters.get n = s.meters.get n

/-- The end of an alert's condition has been reported (R161): its record has lost the active indication and keeps the
latched one. -/
abbrev AlertEnded (a : Alert) (s t : State) : Prop :=
  alertState a t = if alertState a s = .clear then .clear else .latched

/-- The record of an alert follows a condition from `before` to `now` (R161): an onset makes it ACTIVE, an end leaves a
record that was active or latched LATCHED, and a condition that stays leaves it alone. -/
abbrev AlertFollows (a : Alert) (before now : Bool) (s t : State) : Prop :=
  (before = now → alertState a t = alertState a s) ∧
  (before = false → now = true → alertState a t = .active) ∧
  (before = true → now = false → AlertEnded a s t)

/-- The meter stage has followed the change from `s` to `t` (R5, R7): a meter whose flow expectation stays is left
alone; where flow stops being expected the stall timer stops, a stall and its METER_STALL end and both counts are 0;
where it starts, the stall timer starts from zero. -/
abbrev FlowFollowed (s t : State) : Prop :=
  ∀ m : Meter,
    (flowExpected t m = flowExpected s m →
      t.meters.get m = s.meters.get m ∧ alertState (.meterStall m) t = alertState (.meterStall m) s) ∧
    (flowExpected s m = true → flowExpected t m = false →
      t.meters.get m = { s.meters.get m with stallTimer := none, stalled := false, recovery := 0, hold := 0 } ∧
      AlertEnded (.meterStall m) s t) ∧
    (flowExpected s m = false → flowExpected t m = true → (s.meters.get m).stalled = false →
      t.meters.get m = { s.meters.get m with stallTimer := some 0 } ∧
      alertState (.meterStall m) t = alertState (.meterStall m) s)

/-- The METER_STALL records of Q1 to Q5. -/
def consumerStalls : List Alert := allSlots.map fun c => .meterStall (slotMeter c)

/-- A timer runs and has run for `ms` milliseconds or longer. -/
def HasRun (t : Timer) (ms : Nat) : Prop := ∃ k, t = some k ∧ ms ≤ k

/-- What a step on one claim leaves alone: every other claim and meter, every alert record but those of the list,
and all of the state but the claims, the shed stack, the meters, the alert register and the ports. The meter of the
slot follows the flow expectation, and nothing else happens to it. -/
abbrev ClaimFrame (c : Slot) (as : List Alert) (s t : State) : Prop :=
  ClaimsSameBut c s t ∧ MetersSameBut (slotMeter c) s t ∧ FlowFollowed s t ∧ AlertsSameBut as s t ∧
  { t with claims := s.claims, stack := s.stack, meters := s.meters, alerts := s.alerts, ports := s.ports } = s

/-- The alert records a step on one claim may touch (R7, R80). -/
def claimAlerts (c : Slot) : List Alert :=
  [.startFail c, .trip c, .lapse c, .meterStall (slotMeter c)]

/-- The status of the answer last built on a link. -/
def answerStatus (l : Link) (t : State) : Option Status := ((t.ports.get l).answer).map (·.status)

/-- The payload of the answer last built on a link. -/
def answerPayload (l : Link) (t : State) : Option (List Byte) := ((t.ports.get l).answer).map (·.payload)

/-- A request is answered with this status and changes nothing but its own link's port (R158). -/
abbrev AnsweredUnchanged (i : Instr) (l : Link) (st : Status) (s : State) : Prop :=
  ∃ t, exec i s = .next t ∧ answerStatus l t = some st ∧ PortsSameBut l s t ∧ { t with ports := s.ports } = s

/-- The shed stack after a purge of one slot (R115, R118). -/
abbrev PurgedStack (c : Slot) (s t : State) : Prop :=
  t.stack.records = s.stack.records.filter (fun r => !(r.slot = c)) ∧
  t.stack.changes =
    if s.stack.records.any (fun r => r.slot = c) then wrapSucc 255 s.stack.changes else s.stack.changes

/-- A claim record as a transition into IDLE with a purge leaves it (R66, R68, R75). -/
def idleRecord (old : Claim) : Claim :=
  { old with state := .idle, request := none, standing := false, orphaned := 0, withheld := 0, allotment := 0,
             soft := false, lease := none, start := none, epoch := wrapSucc 65535 old.epoch }

end Sys2Proof.Machine
end

