-- ==== Sys2Proof/WellFormed.lean ====
section
/-! DEFINITION. The fields of a request fit the widths R166 gives them, and the three CONFIGURE rows share
the item numbers of R175 without overlap. The machine gives every command a meaning, well formed or not. -/

namespace Sys2Proof

/-- The value fits a two's-complement field of 32 bits. -/
def fits32 (v : Int) : Bool := -2147483648 ≤ v && v < 2147483648

/-- Every field of a row record fits the WRITE_ROW payload (R166). -/
def RowRecord.fits (r : RowRecord) : Bool :=
  (-32768 ≤ r.trim && r.trim < 32768) && r.steps < 256 && r.admissionMargin < 65536 &&
    r.restoreMargin < 65536 && r.shedStep < 65536

/-- Every field of a date and time fits the SET_CLOCK payload (R166). -/
def DateTime.fits (d : DateTime) : Bool :=
  d.year < 65536 && d.month < 256 && d.day < 256 && d.hour < 256 && d.minute < 256 && d.second < 256

/-- A command whose fields fit their frame fields (R166). -/
def wellFormed : Instr → Bool
  | .register _ m x u => m < 65536 && x < 65536 && u < 65536
  | .claim _ r => r < 65536
  | .amend _ r => r < 65536
  | .report _ _ rate => rate < 65536
  | .holdSlots _ mask _ => mask < 256
  | .forceVacant _ slot => slot < 256
  | .readClaim _ slot => slot < 256
  | .readStack _ position => position < 256
  | .switchBank _ bank => bank < 256
  | .writeRow _ bank row r => bank < 256 && row < 256 && r.fits
  | .setRank _ bank slot rank => bank < 256 && slot < 256 && rank < 256
  | .setLimits _ mask max => mask < 256 && max < 65536
  | .readBank _ bank row => bank < 256 && row < 256
  | .configure _ item value =>
    item < 65536 && fits32 value && (geometryItem item).isNone && (bindingItem item).isNone
  | .configureBandGeometry _ bank _ value => bank < 4 && fits32 value
  | .configureEventBinding _ number value => 1 ≤ number && number ≤ 6 && fits32 value
  | .unknownRequest _ code => code < 256 && !codeKnown code
  | .readStatus l group => if l = 0 then group < 256 else group = 0
  | .setClock _ d => d.fits
  | .readTotals _ record group => record < 256 && group < 256
  | .pulse _ | .stallTimerExpiry _ | .contactChange _ _ | .debounceExpiry _ | .powerFail
  | .powerOnStart _ _ _ _ | .clockSecond | .passTimerExpiry | .sampleStage _ | .measureStage
  | .holderStage | .snapshotStage | .shortfallStage | .shedPush | .restoreStage | .pop
  | .admissionStage | .allotmentStage | .flareStage | .applyStage | .holdTimerExpiry
  | .qualityResume _ | .release _ | .leaseTimerExpiry _ | .startTimerExpiry _ | .flareStatus _ _ _ _
  | .ignitionTimerExpiry | .minimumBurnTimerExpiry | .burnTimeSecond | .flareReset _
  | .flarePermit _ _ | .frameReceived _ | .gapTimerExpiry _ | .answerSent _ | .ackAlerts _
  | .saveConfig _ | .saveEnd | .restart _ | .restartTakesPlace _ | .byteReceived _ _ => true

end Sys2Proof
end

