-- ==== Sys2Proof/Certificates/Slice0/Obligations.lean ====
section
/-! DEFINITION. The statements for the provers. A statement about every state takes the invariants it needs as
premises; each of those is itself a statement (`…Kept`). -/

open Sys2Proof Sys2Proof.Machine

/-! ## The machine as a whole -/

/-- 95_what_each_step_holds.md: each step is whole and indivisible. The command at the front of the queue is run
on the state with the rest of the queue. -/
def Obligations.StepRunsFrontCommand : Prop :=
  ∀ (s : State) (c : Instr) (rest : List Instr), s.pending = c :: rest →
    step s = exec c { s with pending := rest }

/-- When a command of the part's own is due (R6, R15, R23, R61, R67, R83, R128, R131, R136, R153, R154, R156, R157, R168,
R176 and the stage table of chapter 5). A timer's event is due when the timer has run for its setting, a held request
when its port is in HOLD, a stage when the stage before it is done. That one stage falls in each millisecond of a pass,
the currents a sample finds, how long an answer travels, how long a save takes, and that the restart waits for the answer
of a second RESTART too, are the model's choices (notes/assumptions/2.md, 8.md, 6.md, 27.md, 25.md). -/
def dueNow (s : State) (i : Instr) : Prop :=
  let stage := fun (st : PassStage) (ms : Nat) (more : Pass → Prop) =>
    s.supplied = true ∧ ∃ p, s.balance.pass = some p ∧ p.stage = st ∧ more p ∧ ms ≤ s.balance.timer
  let later := fun (st : PassStage) (ms : Nat) (more : Pass → Prop) =>
    s.supplied = true ∧ ∃ p, s.balance.pass = some p ∧ p.stage = st ∧ more p ∧
      ms + p.decisions.pushed.length ≤ s.balance.timer
  let any := fun _ : Pass => True
  match i with
  | .clockSecond => 1000 ≤ s.totals.clockMs
  | .stallTimerExpiry m => s.supplied = true ∧ HasRun (s.meters.get m).stallTimer (s.config.stallTime * 1000)
  | .debounceExpiry k => s.supplied = true ∧ HasRun (s.contacts.get k).timer 200
  | .holdTimerExpiry =>
    s.supplied = true ∧ s.quality.source = .held ∧ HasRun s.quality.hold (s.config.qualityHold * 1000)
  | .leaseTimerExpiry c =>
    s.supplied = true ∧ leased (s.claims.get c).state = true ∧
      HasRun (s.claims.get c).lease (s.config.lease * 1000)
  | .startTimerExpiry c =>
    s.supplied = true ∧ (s.claims.get c).state = .admitted ∧
      HasRun (s.claims.get c).start (s.config.startTimeout * 1000)
  | .ignitionTimerExpiry =>
    s.supplied = true ∧ s.flare.state = .called ∧ HasRun s.flare.ignition (s.config.ignitionTimeout * 1000)
  | .minimumBurnTimerExpiry =>
    s.supplied = true ∧ s.flare.state = .holding ∧ HasRun s.flare.minBurn (s.config.minBurn * 1000)
  | .burnTimeSecond => s.supplied = true ∧ 1000 ≤ s.flare.burnMs
  | .passTimerExpiry =>
    s.supplied = true ∧ s.balance.pass = none ∧ s.balance.period * 1000 ≤ s.balance.timer
  | .sampleStage amps => amps = s.loops ∧ stage .banked 1 any
  | .measureStage => stage .sampled 2 any
  | .holderStage => stage .measured 3 any
  | .snapshotStage => stage .held 4 any
  | .shortfallStage => stage .snapped 5 any
  | .shedPush => later .pushing 6 fun p => p.decisions.toPush ≠ []
  | .restoreStage => later .pushing 6 fun p => p.decisions.toPush = []
  | .pop => later .popping 7 any
  | .admissionStage => later .restored 8 any
  | .allotmentStage => later .admitted 9 any
  | .flareStage => later .allotted 10 any
  | .applyStage => later .flared 11 any
  | .frameReceived l =>
    s.supplied = true ∧ (s.ports.get l).state = .receive ∧ frameComplete (s.ports.get l).body = true
  | .gapTimerExpiry l =>
    s.supplied = true ∧ (s.ports.get l).state = .receive ∧ frameComplete (s.ports.get l).body = false ∧
      HasRun (s.ports.get l).gap 6
  | .answerSent l =>
    s.supplied = true ∧ (s.ports.get l).state = .send ∧
      ∀ a, (s.ports.get l).answer = some a → HasRun (s.ports.get l).sending (sendMs l a)
  | .unknownRequest l code =>
    s.supplied = true ∧ (s.ports.get l).state = .hold ∧
      ∃ h, (s.ports.get l).held = some h ∧ h.code = code ∧ checkRequest l h.code h.payload = .unknownCode
  | .saveEnd => s.supplied = true ∧ HasRun s.store.saving (Nat.min Config.saveMs 2000)
  | .restartTakesPlace amps =>
    amps = s.loops ∧ s.supplied = true ∧ s.restartPending = true ∧ s.store.saving = none ∧
      ¬((s.ports.get 0).state = .send ∧ ∃ a, (s.ports.get 0).answer = some a ∧ a.code = 0x46 ∧ a.status = .done)
  | i =>
    s.supplied = true ∧ ∃ l h, (s.ports.get l).state = .hold ∧ (s.ports.get l).held = some h ∧
      checkRequest l h.code h.payload = .request i

/-- What one millisecond does: every running timer has run one millisecond more and a stopped one stays stopped; on the
backup cell the clock alone counts (R5, R15, R19, R23, R61, R67, R83, R128, R131, R136, R153, R156, R168, R176). -/
def millisecondPasses (s t : State) : Prop :=
  let on := fun x : Timer => x.map (· + 1)
  t.totals = { s.totals with clockMs := s.totals.clockMs + 1 } ∧
  (s.supplied = false → { t with totals := s.totals } = s) ∧
  (s.supplied = true →
    (∀ m : Meter, t.meters.get m = { s.meters.get m with stallTimer := on (s.meters.get m).stallTimer }) ∧
    (∀ k : Contact, t.contacts.get k = { s.contacts.get k with timer := on (s.contacts.get k).timer }) ∧
    t.quality = { s.quality with hold := on s.quality.hold } ∧
    (∀ c : Slot, t.claims.get c =
      { s.claims.get c with lease := on (s.claims.get c).lease, start := on (s.claims.get c).start }) ∧
    t.flare =
      { s.flare with
        ignition := on s.flare.ignition, minBurn := on s.flare.minBurn
        burnMs := s.flare.burnMs + if s.flare.state = .burning ∨ s.flare.state = .holding then 1 else 0 } ∧
    t.balance = { s.balance with timer := s.balance.timer + 1 } ∧
    (∀ l : Link, t.ports.get l =
      { s.ports.get l with gap := on (s.ports.get l).gap, sending := on (s.ports.get l).sending }) ∧
    t.store = { s.store with saving := on s.store.saving } ∧
    { t with totals := s.totals, meters := s.meters, contacts := s.contacts, quality := s.quality
             claims := s.claims, flare := s.flare, balance := s.balance, ports := s.ports, store := s.store } = s)

/-- On an empty queue, where an event of the part's own is due, one that is due is queued and nothing else changes but
the model's count of the moments at which a tie was broken; where none is due, one millisecond passes. That time passes
so, one event at a time and in a free order, is the model's choice (notes/assumptions/2.md, 5.md). -/
def Obligations.EmptyQueueLetsTimePass : Prop :=
  ∀ s : State, s.pending = [] →
    ((∃ i, dueNow s i) →
      ∃ t i, step s = .next t ∧ dueNow s i ∧ t.pending = [i] ∧ { t with pending := [], moments := s.moments } = s) ∧
    ((∀ i, ¬dueNow s i) → ∃ t, step s = .next t ∧ t.pending = [] ∧ millisecondPasses s t)

/-- Every command, in every state, answers a next state and leaves the queue alone; on the backup cell every
command but a contact change, a supply failure, a power-on start and the clock's second changes nothing (R19). That a
command whose precondition fails changes nothing, in place of not arising, is the model's choice
(notes/assumptions/4.md, 11.md). -/
def Obligations.EveryCommandAnswersANextState : Prop :=
  ∀ (i : Instr) (s : State),
    ∃ t, exec i s = .next t ∧ t.pending = s.pending ∧
      (s.supplied = false → (∀ k closed, i ≠ .contactChange k closed) → i ≠ .powerFail →
        (∀ amps a b c, i ≠ .powerOnStart amps a b c) → i ≠ .clockSecond → t = s)

/-- R157 check 2 and R158: a request on a link that may not make it is answered REFUSED_AUTHORITY, and a request
answered with any status but DONE or CLAMPED leaves every block as it was. -/
def Obligations.RefusedRequestsChangeNothing : Prop :=
  (∀ (i : Instr) (l : Link) (code : Nat) (payload : List Byte) (s : State),
    encodeRequest i = some (l, code, payload) → s.supplied = true → codeAllowed l code = false →
      AnsweredUnchanged i l .refusedAuthority s) ∧
  ∀ (i : Instr) (l : Link) (code : Nat) (payload : List Byte) (s t : State) (st : Status),
    encodeRequest i = some (l, code, payload) → s.supplied = true → exec i s = .next t →
      answerStatus l t = some st → st ≠ .done → st ≠ .clamped → { t with ports := s.ports } = s

/-- The alert records of each bit 0 to 6 of the attention byte (R163). -/
def attentionGroup : Nat → List Alert
  | 0 => (List.finRange 12).map .meterStall ++ (List.finRange 12).map .counterOverrun ++
      (List.finRange 5).map .channelFault
  | 1 => [.qualityHeld, .qualitySubstituted, .sourGas]
  | 2 => [.gasRoom, .estop]
  | 3 => [.holderOverfill, .holderLow, .pressureHigh, .balanceMismatch]
  | 4 => .stackOverflow :: (allSlots.map .startFail ++ allSlots.map .trip ++ allSlots.map .lapse)
  | 5 => [.flareRetry, .flareFailed]
  | 6 => [.configDefaulted, .totalsLost]
  | _ => []

/-- The alarm relay is energized: the part is supplied and no record of the relay set is active or latched (R164). -/
def relayHeld (s : State) : Prop :=
  s.supplied = true ∧ ∀ a ∈ [Alert.gasRoom, .estop, .sourGas, .flareFailed, .holderOverfill, .pressureHigh,
    .balanceMismatch], alertState a s = .clear

/-- R156, R158, R159: every request is answered at once on its own link. The answer echoes the code, carries the
pass number and the attention byte as the served request leaves them, and opens with the link's summary; a port
in HOLD goes to SEND, and no other port changes. R163, R164: bits 0 to 6 of the attention byte are set while a record
of their group is active or latched, and bit 7 while the alarm relay is de-energized. That a request is answered
whatever its port is doing is the model's choice (notes/assumptions/3.md). -/
def Obligations.EveryRequestIsAnsweredAtOnce : Prop :=
  ∀ (i : Instr) (l : Link) (code : Nat) (payload : List Byte) (s : State),
    encodeRequest i = some (l, code, payload) → s.supplied = true →
      ∃ t a, exec i s = .next t ∧ (t.ports.get l).answer = some a ∧ a.code = code ∧
        a.passNumber = t.balance.passNumber ∧ a.attention = attentionByte t ∧
        a.attention < 256 ∧
        (∀ k, k < 7 → (a.attention.testBit k = true ↔ ∃ x ∈ attentionGroup k, alertState x t ≠ .clear)) ∧
        (a.attention.testBit 7 = true ↔ ¬relayHeld t) ∧
        (∃ figures, a.payload = summaryOf l t ++ figures) ∧
        ((s.ports.get l).state = .hold → (t.ports.get l).state = .send) ∧ PortsSameBut l s t

/-- Every well-formed request that its link may make is read back from its own code and payload (section 9.5,
R166): no field loses a bit. -/
def Obligations.RequestPayloadReadsBack : Prop :=
  ∀ (i : Instr) (l : Link) (code : Nat) (payload : List Byte),
    wellFormed i = true → encodeRequest i = some (l, code, payload) → codeAllowed l code = true →
      checkRequest l code payload = .request i

/-- R153 to R155: the bytes of a request frame, escapes and CRC included, taken one by one by a port in HUNT and
followed by the frame check, leave the port in HOLD with the code and payload that were sent. -/
def Obligations.FrameBytesReachHold : Prop :=
  ∀ (s : State) (l : Link) (code : Nat) (payload : List Byte) (i : Instr),
    code < 256 → payload.length ≤ 48 → checkRequest l code payload = .request i →
    s.supplied = true → (s.ports.get l).state = .hunt →
    s.pending = (requestFrame l code payload).map (fun b => Instr.byteReceived l b) ++ [.frameReceived l] →
      ∃ t, Host.Core.run Sys2Proof.core ((requestFrame l code payload).length + 1) s = .next t ∧
        (t.ports.get l).state = .hold ∧ (t.ports.get l).held = some ⟨code, payload⟩ ∧ t.pending = [] ∧
        PortsSameBut l s t

/-! ## Conditions that every step keeps -/

/-- R109, R110: at most 16 records stand on the shed stack, each of at least 1 kW. R58: withheld equals the sum of
the slot's records plus its orphaned amount. R110: every record names a slot whose claim is ADMITTED, RUNNING or SHED, a
record with the pending mark by the snapshot of the pass that pushed it; of the apply stage, which clears the marks, it
is taken that an epoch still equal to the snapshot's tells an unchanged claim (R59; notes/assumptions/31.md). -/
def Obligations.StackBoundAndWithheldKept : Prop :=
  ∀ s t : State, step s = .next t →
    (StackBounded s → StackBounded t) ∧ (WithheldAccounted s → WithheldAccounted t) ∧
    (RecordsNamed s → ApplyStageSound s → RecordsNamed t)

/-- R5, R7: the stall timers follow the flow expectation. -/
def Obligations.StallTimersFollowFlowKept : Prop :=
  ∀ s t : State, StallTimersFollow s → step s = .next t → StallTimersFollow t

/-- R60: a claim that is neither ADMITTED nor RUNNING has allotment 0. R58 to R70: m is at most x, r lies within m to x,
the lease timer runs exactly in the leased states (R61), the start timer exactly in ADMITTED (R67), and an ADMITTED or
RUNNING claim is allotted m to min(r, x) (R60). The second half takes of the apply stage that an epoch still equal to
the snapshot's tells an unchanged claim: an epoch can wrap (R59), so that a state of no run could break it
(notes/assumptions/31.md). -/
def Obligations.NoAllotmentWithoutGasKept : Prop :=
  (∀ s t : State, AllotmentOnlyHolders s → step s = .next t → AllotmentOnlyHolders t) ∧
  ∀ s t : State, ClaimsInOrder s → (∀ rest, s.pending = .applyStage :: rest → EpochsTell s) →
    step s = .next t → ClaimsInOrder t

/-- R69, R71, R105: a slot with a lock cause is VACANT, LOCKED or LAPSED, and a LOCKED claim has a cause, after every
step. Of the apply stage, whose writes are guarded by an epoch that can wrap (R59), it is taken that an epoch still equal
to the snapshot's tells an unchanged claim, and that the pass in flight is in order (notes/assumptions/31.md). -/
def Obligations.LockCausesKeepGasAwayKept : Prop :=
  ∀ s t : State, LocksHold s → ApplyStageSound s → step s = .next t → LocksHold t

/-- R121, R122, R128, R131: the flare demand, the held figures and the two timers by the sequencer's state. -/
def Obligations.FlareDemandInRangeKept : Prop :=
  ∀ s t : State, SettingsInRange s → FlareInRange s → step s = .next t → FlareInRange t

/-- R139, R174, R175: the working configuration and the stored copy stay within every item's range and pair; sections
1.4, 2.1 and 3.1: readings and working level stay in their ranges, the working CH4 in the plausible band, and the
hold timer runs exactly in HELD. -/
def Obligations.SettingsAndMeasuredValuesKept : Prop :=
  ∀ s t : State, SettingsInRange s → step s = .next t →
    SettingsInRange t ∧ (ReadingsInRange s → QualityInRange s → ReadingsInRange t ∧ QualityInRange t)

/-- R1, R32, R38, R39, R59, R84, R97, R118, R148, R140 and R153: the counts stay in their widths, the pending switch
never names the active bank, and no port holds more of a frame than its length byte announces. -/
def Obligations.CountsSwitchAndPortsKept : Prop :=
  ∀ s t : State, step s = .next t →
    (CountsInRange s → CountsInRange t) ∧ (SwitchNotActive s → SwitchNotActive t) ∧ (PortsBounded s → PortsBounded t)

/-- R167, R168, R171: the clock stays a date that exists, the totals saturate in their widths and every remainder
stays below one unit. -/
def Obligations.TotalsInRangeKept : Prop :=
  ∀ s t : State, TotalsInRange s → step s = .next t → TotalsInRange t

/-- The state after reset, the model's choice in notes/assumptions/1.md, meets every condition above. -/
def Obligations.ResetMeetsEveryCondition : Prop :=
  StackBounded State.reset ∧ WithheldAccounted State.reset ∧ RecordsNamed State.reset ∧
    ApplyStageSound State.reset ∧ StallTimersFollow State.reset ∧
    AllotmentOnlyHolders State.reset ∧ ClaimsInOrder State.reset ∧ LocksHold State.reset ∧
    FlareInRange State.reset ∧ SettingsInRange State.reset ∧ ReadingsInRange State.reset ∧
    QualityInRange State.reset ∧ CountsInRange State.reset ∧ SwitchNotActive State.reset ∧
    TotalsInRange State.reset ∧ PortsBounded State.reset

/-! ## Field stages (chapter 1) -/

/-- R1: a pulse on a counted line adds one to its counter below 65,535, is lost at 65,535 (where it begins a counter
overrun, R2), and restarts a running stall timer either way; on an uncounted line or on the backup cell it is
ignored. R6: a stall timer that has run for the stall time expires: it stalls its meter, clears its two counts and
raises METER_STALL. With the timer stopped or short of the stall time nothing happens (the model's choice,
notes/assumptions/4.md). -/
def Obligations.PulsesAndStallTimerAct : Prop :=
  (∀ (m : Meter) (s : State), (s.meters.get m).count ≤ 65535 →
    (s.supplied = false ∨ lineCounted s m = false → exec (.pulse m) s = .next s) ∧
    (s.supplied = true → lineCounted s m = true →
      ∃ t, exec (.pulse m) s = .next t ∧
        t.meters.get m =
          { s.meters.get m with
            count := if (s.meters.get m).count = 65535 then 65535 else (s.meters.get m).count + 1
            stallTimer := if (s.meters.get m).stallTimer = none then none else some 0 } ∧
        MetersSameBut m s t ∧ AlertsSameBut [.counterOverrun m] s t ∧
        ((s.meters.get m).count = 65535 → alertState (.counterOverrun m) t = .active) ∧
        ((s.meters.get m).count < 65535 → t.alerts = s.alerts) ∧
        { t with meters := s.meters, alerts := s.alerts } = s)) ∧
  ∀ (m : Meter) (s : State), s.supplied = true →
    (¬HasRun (s.meters.get m).stallTimer (s.config.stallTime * 1000) → exec (.stallTimerExpiry m) s = .next s) ∧
    (HasRun (s.meters.get m).stallTimer (s.config.stallTime * 1000) →
      ∃ t, exec (.stallTimerExpiry m) s = .next t ∧
        t.meters.get m = { s.meters.get m with stallTimer := none, stalled := true, recovery := 0, hold := 0 } ∧
        alertState (.meterStall m) t = .active ∧ MetersSameBut m s t ∧ AlertsSameBut [.meterStall m] s t ∧
        { t with meters := s.meters, alerts := s.alerts } = s)

/-- R15: a raw contact that leaves its debounced state starts the debounce timer from zero, one that returns stops
it, and neither moves the debounced state. -/
def Obligations.RawContactStartsOrStopsDebounce : Prop :=
  ∀ (k : Contact) (closed : Bool) (s : State), s.supplied = true →
    ∃ t, exec (.contactChange k closed) s = .next t ∧
      (t.contacts.get k).raw = closed ∧ (t.contacts.get k).debounced = (s.contacts.get k).debounced ∧
      (t.contacts.get k).timer =
        (if closed = (s.contacts.get k).raw then (s.contacts.get k).timer
        else if closed = (s.contacts.get k).debounced then none else some 0) ∧
      (∀ j : Contact, j ≠ k → t.contacts.get j = s.contacts.get j) ∧ { t with contacts := s.contacts } = s

/-- A lock cause has been added to the slots of a list, one after the other, and nothing else has happened to the
claims, the shed stack and the meters (R69, R70, R75): each slot's claim stands as `LockCauseMovesClaim` has it, the
records of the slots it locked are purged, and the meters follow. -/
def causeAdded (cause : LockCause) (slots : List Slot) (s t : State) : Prop :=
  (∀ c ∈ slots, (t.claims.get c).locks.has cause = true ∧
    t.claims.get c = (addCause cause s c).claims.get c) ∧
  (∀ c : Slot, c ∉ slots → t.claims.get c = s.claims.get c) ∧
  t.stack.records = s.stack.records.filter (fun r => !(decide (r.slot ∈ slots) &&
    lockable (s.claims.get r.slot).state && !(s.claims.get r.slot).locks.has cause)) ∧
  FlowFollowed s t

/-- A lock cause has been removed from the slots of a list, and nothing else has happened to the claims, the shed stack
and the meters (R69, R71). -/
def causeRemoved (cause : LockCause) (slots : List Slot) (s t : State) : Prop :=
  (∀ c ∈ slots, (t.claims.get c).locks.has cause = false ∧
    t.claims.get c = (removeCause cause s c).claims.get c) ∧
  (∀ c : Slot, c ∉ slots → t.claims.get c = s.claims.get c) ∧ t.stack = s.stack ∧ t.meters = s.meters

/-- The quality monitor has left LIVE (R21, R22): it is HELD with its working values frozen, the hold timer at zero and
QUALITY_HELD raised; with a hold time of 0 it has passed through HELD to SUBSTITUTED on the defaults, with the onset on
the bindings (R23, R24). -/
def qualityLeftLive (s t : State) : Prop :=
  (s.config.qualityHold ≠ 0 →
    t.quality = { s.quality with source := .held, hold := some 0 } ∧ alertState .qualityHeld t = .active ∧
    alertState .qualitySubstituted t = alertState .qualitySubstituted s ∧ t.policy = s.policy) ∧
  (s.config.qualityHold = 0 →
    t.quality = { s.quality with source := .substituted, ch4 := s.config.defaultCh4, h2s := s.config.defaultH2s
                                 hold := none } ∧
    alertState .qualityHeld t = .latched ∧ alertState .qualitySubstituted t = .active ∧
    t.policy = { s.policy with
      switch := fireBindings s.config.bindings s.policy.active .substituted s.policy.switch })

/-- R15, R16, R22, R54, R69: a debounce timer that has reached 200 ms gives the debounced state the raw state, and the
contact's receivers act, no other. K2 locks or unlocks C1 to C5 and K4 C1 to C4, with GAS_ROOM and ESTOP following; K3
moves the overfill condition and HOLDER_OVERFILL; a K1 end takes a LIVE quality monitor to HELD, its hold timer from
zero and its working values kept, and a K1 onset does nothing more; onsets of K2 to K4 fire their bindings. What a
timer short of 200 ms does, and that a hold time of 0 is passed through within the step, are the model's choices
(notes/assumptions/4.md, 18.md). -/
def Obligations.DebouncedContactReachesReceivers : Prop :=
  ∀ (k : Contact) (s : State), s.supplied = true →
    (¬HasRun (s.contacts.get k).timer 200 → exec (.debounceExpiry k) s = .next s) ∧
    (HasRun (s.contacts.get k).timer 200 →
      let raw := (s.contacts.get k).raw
      let old := (s.contacts.get k).debounced
      let fired := fun x : Source => { s.policy with
        switch := fireBindings s.config.bindings s.policy.active x s.policy.switch }
      ∃ t, exec (.debounceExpiry k) s = .next t ∧
        t.contacts.get k = { raw := raw, debounced := raw, timer := none } ∧
        (∀ j : Contact, j ≠ k → t.contacts.get j = s.contacts.get j) ∧
        (raw = old → { t with contacts := s.contacts } = s) ∧
        (raw = true → old = false →
          (k = conK1 → { t with contacts := s.contacts } = s) ∧
          (k = conK2 → causeAdded .gasRoom [0, 1, 2, 3, 4] s t ∧ alertState .gasRoom t = .active ∧
            AlertsSameBut (.gasRoom :: consumerStalls) s t ∧ t.policy = fired .k2) ∧
          (k = conK3 → t.holder = { s.holder with overfill := true } ∧
            AlertFollows .holderOverfill s.holder.overfill true s t ∧ AlertsSameBut [.holderOverfill] s t ∧
            t.policy = fired .k3) ∧
          (k = conK4 → causeAdded .estop [0, 1, 2, 3] s t ∧ alertState .estop t = .active ∧
            AlertsSameBut (.estop :: consumerStalls) s t ∧ t.policy = fired .k4)) ∧
        (raw = false → old = true →
          (k = conK1 → s.quality.source ≠ .live → { t with contacts := s.contacts } = s) ∧
          (k = conK1 → s.quality.source = .live →
            qualityLeftLive s t ∧ AlertsSameBut [.qualityHeld, .qualitySubstituted] s t) ∧
          (k = conK2 → causeRemoved .gasRoom [0, 1, 2, 3, 4] s t ∧ AlertFollows .gasRoom true false s t ∧
            AlertsSameBut [.gasRoom] s t) ∧
          (k = conK3 → t.holder = { s.holder with overfill := decide (s.holder.band = .fallThrough) } ∧
            AlertFollows .holderOverfill s.holder.overfill (decide (s.holder.band = .fallThrough)) s t ∧
            AlertsSameBut [.holderOverfill] s t) ∧
          (k = conK4 → causeRemoved .estop [0, 1, 2, 3] s t ∧ AlertFollows .estop true false s t ∧
            AlertsSameBut [.estop] s t)) ∧
        (k ≠ conK2 → k ≠ conK4 → t.claims = s.claims ∧ t.stack = s.stack ∧ t.meters = s.meters) ∧
        (k ≠ conK3 → t.holder = s.holder) ∧ (k ≠ conK1 → t.quality = s.quality) ∧
        (raw = false → k ≠ conK1 → t.policy = s.policy) ∧
        { t with
          contacts := s.contacts, claims := s.claims, stack := s.stack, meters := s.meters, alerts := s.alerts,
          policy := s.policy, quality := s.quality, holder := s.holder } = s)

/-- R70, R71, R75: a cause added to a slot that holds or waits locks its claim with a purge and keeps standing and
r; in VACANT, LOCKED and LAPSED only the set grows. A cause removed from a LOCKED claim whose set empties sends it
to WAITING with soft set, or to IDLE, by standing. Each moves the epoch once, and a cause already there, or not
there, changes nothing. -/
def Obligations.LockCauseMovesClaim : Prop :=
  ∀ (cause : LockCause) (s : State) (c : Slot), WithheldAccounted s →
    ((s.claims.get c).locks.has cause = true → addCause cause s c = s) ∧
    ((s.claims.get c).locks.has cause = false →
      ClaimsSameBut c s (addCause cause s c) ∧
      ((s.claims.get c).state = .vacant ∨ (s.claims.get c).state = .locked ∨ (s.claims.get c).state = .lapsed →
        (addCause cause s c).stack = s.stack ∧
        (addCause cause s c).claims.get c =
          { s.claims.get c with locks := (s.claims.get c).locks.put cause true
                                epoch := wrapSucc 65535 (s.claims.get c).epoch }) ∧
      ((s.claims.get c).state ≠ .vacant → (s.claims.get c).state ≠ .locked → (s.claims.get c).state ≠ .lapsed →
        PurgedStack c s (addCause cause s c) ∧
        (addCause cause s c).claims.get c =
          { s.claims.get c with
            state := .locked, allotment := 0, soft := false, start := none, orphaned := 0, withheld := 0
            locks := (s.claims.get c).locks.put cause true
            lease := if (s.claims.get c).state = .idle then some 0 else (s.claims.get c).lease
            epoch := wrapSucc 65535 (s.claims.get c).epoch })) ∧
    ((s.claims.get c).locks.has cause = false → removeCause cause s c = s) ∧
    ((s.claims.get c).locks.has cause = true →
      ClaimsSameBut c s (removeCause cause s c) ∧ (removeCause cause s c).stack = s.stack ∧
      (((s.claims.get c).state ≠ .locked ∨ ((s.claims.get c).locks.put cause false).empty = false) →
        (removeCause cause s c).claims.get c =
          { s.claims.get c with locks := (s.claims.get c).locks.put cause false
                                epoch := wrapSucc 65535 (s.claims.get c).epoch }) ∧
      ((s.claims.get c).state = .locked → ((s.claims.get c).locks.put cause false).empty = true →
        (removeCause cause s c).claims.get c =
          (if (s.claims.get c).standing then
            { s.claims.get c with state := .waiting, soft := true, locks := noLocks
                                  epoch := wrapSucc 65535 (s.claims.get c).epoch }
          else
            { s.claims.get c with state := .idle, request := none, allotment := 0, soft := false, lease := none,
                                  start := none, locks := noLocks
                                  epoch := wrapSucc 65535 (s.claims.get c).epoch })))

/-- R12 to R14: a sample in range becomes lo plus the scaled current rounded half up, within lo and hi; the two
clamp classes give lo and hi; a fault class sample begins a fault and holds the last good value; and a channel in
fault takes a reading again only at its third good sample in a row. -/
def Obligations.SampleIsScaledClampedOrHeld : Prop :=
  ∀ (r : Range) (amps : Nat) (c : ChannelRec), r.lo < r.hi →
    (c.fault = false → 4000 ≤ amps → amps ≤ 20000 →
      32000 * ((sampleChannel (classify r amps) c).reading - r.lo) ≤
        2 * ((amps : Int) - 4000) * (r.hi - r.lo) + 16000 ∧
      2 * ((amps : Int) - 4000) * (r.hi - r.lo) + 16000 <
        32000 * ((sampleChannel (classify r amps) c).reading - r.lo + 1) ∧
      r.lo ≤ (sampleChannel (classify r amps) c).reading ∧ (sampleChannel (classify r amps) c).reading ≤ r.hi ∧
      (sampleChannel (classify r amps) c).lastGood = (sampleChannel (classify r amps) c).reading ∧
      (sampleChannel (classify r amps) c).fault = false) ∧
    (c.fault = false → 3600 ≤ amps → amps < 4000 →
      sampleChannel (classify r amps) c = { c with reading := r.lo, lastGood := r.lo }) ∧
    (c.fault = false → 20000 < amps → amps ≤ 21000 →
      sampleChannel (classify r amps) c = { c with reading := r.hi, lastGood := r.hi }) ∧
    (c.fault = false → amps < 3600 ∨ 21000 < amps →
      sampleChannel (classify r amps) c = { c with reading := c.lastGood, fault := true, recovery := 0 }) ∧
    (c.fault = true → amps < 4000 ∨ 20000 < amps →
      sampleChannel (classify r amps) c = { c with recovery := 0 }) ∧
    (c.fault = true → 4000 ≤ amps → amps ≤ 20000 → c.recovery < 2 →
      sampleChannel (classify r amps) c = { c with recovery := c.recovery + 1 }) ∧
    (c.fault = true → 4000 ≤ amps → amps ≤ 20000 → 2 ≤ c.recovery →
      (sampleChannel (classify r amps) c).fault = false ∧ (sampleChannel (classify r amps) c).recovery = 0 ∧
      (sampleChannel (classify r amps) c).reading =
        (sampleChannel (classify r amps) { c with fault := false }).reading)

/-- R2, R3, R5, R7 to R10, R12 to R14, R17, R20, R21, R26, R28, R87: the sample stage takes every counter as a pass count
and sets it to 0, which ends an overrun. A stalled meter with pulses counts one recovery, one without pulses starts
over, and the third recovery in a row ends the stall and starts the timer; a stalled production meter holds one pass
more; a meter whose claim the sour condition locks in this stage loses its timer and its stall. A meter still stalled
gives the pass a substitute: the held line rate within the stall hold and 0 past it, the last reported rate, or the
flare demand. All channels are sampled and K3 is read. A LIVE monitor takes the readings of A4 and A5, or leaves LIVE;
the pass copies the working quality, and the sour condition is evaluated on the copy, with what follows for the claims
(`SourConditionNeedsItsPersistence`). That with a hold time of 0 the pass copies the defaults is the model's choice
(notes/assumptions/18.md). -/
def Obligations.SampleStageSnapshotsTheField : Prop :=
  ∀ (amps : Currents) (p : Pass) (s : State),
    s.supplied = true → s.balance.pass = some p → p.stage = .banked →
      ∃ t q, exec (.sampleStage amps) s = .next t ∧ t.balance.pass = some q ∧ q.stage = .sampled ∧
        (∀ m : Meter,
          let r := s.meters.get m
          let recovers := r.stalled = true ∧ 0 < r.count ∧ 2 ≤ r.recovery
          q.sampled.counts.get m = r.count ∧
          (flowExpected t m = flowExpected s m →
            (r.stalled = false → t.meters.get m = { r with count := 0 }) ∧
            (recovers → t.meters.get m =
              { r with count := 0, stalled := false, recovery := 0, hold := 0, stallTimer := some 0 }) ∧
            (r.stalled = true → ¬recovers → t.meters.get m =
              { r with count := 0, recovery := if 0 < r.count then r.recovery + 1 else 0
                       hold := r.hold + if m.val < 6 then 1 else 0 }) ∧
            (¬recovers → alertState (.meterStall m) t = alertState (.meterStall m) s)) ∧
          (flowExpected s m = true → flowExpected t m = false →
            t.meters.get m = { r with count := 0, stallTimer := none, stalled := false, recovery := 0, hold := 0 } ∧
            AlertEnded (.meterStall m) s t) ∧
          (recovers → AlertEnded (.meterStall m) s t) ∧
          alertState (.counterOverrun m) t = (if alertState (.counterOverrun m) s = .clear then .clear else .latched) ∧
          (r.stalled = false ∨ recovers → q.sampled.substitutes.get m = none) ∧
          (r.stalled = true → ¬recovers →
            (m.val < 6 → q.sampled.substitutes.get m =
              some (if r.hold + 1 ≤ p.settings.stallHold then r.heldRate else 0)) ∧
            (∀ c : Slot, m = slotMeter c → q.sampled.substitutes.get m = some (s.claims.get c).lastRate) ∧
            (m = flareMeter → q.sampled.substitutes.get m = some s.flare.demand))) ∧
        (∀ a : Channel, t.channels.get a =
            sampleChannel (classify (s.config.ranges.get a) (amps.get a)) (s.channels.get a) ∧
          AlertFollows (.channelFault a) (s.channels.get a).fault (t.channels.get a).fault s t) ∧
        (q.sampled.a1Ended = true ↔ (s.channels.get chA1).fault = true ∧ (t.channels.get chA1).fault = false) ∧
        q.sampled.k3 = (s.contacts.get conK3).debounced ∧
        q.sampled.ch4 = t.quality.ch4 ∧ q.sampled.h2s = t.quality.h2s ∧ q.sampled.source = t.quality.source ∧
        q.sampled.lineChanged = Tab.fill 6 false ∧
        (let good := (t.channels.get chA4).fault = false ∧ (t.channels.get chA5).fault = false ∧
            within 300 900 (t.channels.get chA4).reading
        let leaves := s.quality.source = .live ∧ ¬good
        -- the state as the quality monitor hands it to the sour evaluation, for what that evaluation reads
        ∃ v : State, v.claims = s.claims ∧ v.stack = s.stack ∧ v.config = s.config ∧
          alertState .sourGas v = alertState .sourGas s ∧
          (¬leaves → v.policy = s.policy ∧
            alertState .qualityHeld v = alertState .qualityHeld s ∧
            alertState .qualitySubstituted v = alertState .qualitySubstituted s) ∧
          (s.quality.source = .live → good →
            v.quality = { s.quality with ch4 := (t.channels.get chA4).reading.toNat
                                         h2s := (t.channels.get chA5).reading.toNat }) ∧
          (leaves → qualityLeftLive s v) ∧
          (s.quality.source ≠ .live → v.quality = s.quality) ∧
          t.quality = (evaluateSour q.sampled.h2s v).quality ∧ t.claims = (evaluateSour q.sampled.h2s v).claims ∧
          t.stack = (evaluateSour q.sampled.h2s v).stack ∧ t.policy = (evaluateSour q.sampled.h2s v).policy ∧
          (∀ a ∈ [Alert.qualityHeld, .qualitySubstituted, .sourGas],
            alertState a t = alertState a (evaluateSour q.sampled.h2s v))) ∧
        (∀ c : Slot, (t.claims.get c).locks.gasRoom = (s.claims.get c).locks.gasRoom ∧
          (t.claims.get c).locks.estop = (s.claims.get c).locks.estop ∧
          (t.claims.get c).locks.held = (s.claims.get c).locks.held) ∧
        t.claims.get 4 = s.claims.get 4 ∧ t.loops = amps ∧
        (∀ n : Fin 58, 32 ≤ n.val → t.alerts.get n = s.alerts.get n) ∧
        { q with stage := p.stage, sampled := p.sampled } = p ∧
        { t.balance with pass := s.balance.pass } = s.balance ∧ t.policy.active = s.policy.active ∧
        { t with
          meters := s.meters, channels := s.channels, loops := s.loops, alerts := s.alerts,
          quality := s.quality, claims := s.claims, stack := s.stack, policy := s.policy,
          balance := s.balance } = s

/-! ## Quality and normal volume (chapter 2) -/

/-- R23 to R25: the expiry of a hold timer that has run for the quality hold time puts a HELD monitor into SUBSTITUTED on
the defaults and fires the binding; QUALITY_RESUME returns a monitor that is not LIVE to LIVE on the latest readings
when K1 is closed, A4 and A5 are not in fault and A4 lies in 300–900, and is refused otherwise; in LIVE it is DONE and
changes nothing. An expiry outside HELD, or short of the hold time, changes nothing (the model's choice,
notes/assumptions/4.md). -/
def Obligations.QualityLeavesHeldAsStated : Prop :=
  ∀ s : State, s.supplied = true →
    (s.quality.source = .held → HasRun s.quality.hold (s.config.qualityHold * 1000) →
      ∃ t, exec .holdTimerExpiry s = .next t ∧
        t.quality = { s.quality with source := .substituted, ch4 := s.config.defaultCh4
                                     h2s := s.config.defaultH2s, hold := none } ∧
        alertState .qualitySubstituted t = .active ∧ AlertEnded .qualityHeld s t ∧
        AlertsSameBut [.qualitySubstituted, .qualityHeld] s t ∧
        t.policy = { s.policy with
          switch := fireBindings s.config.bindings s.policy.active .substituted s.policy.switch } ∧
        { t with quality := s.quality, alerts := s.alerts, policy := s.policy } = s) ∧
    (s.quality.source ≠ .held ∨ ¬HasRun s.quality.hold (s.config.qualityHold * 1000) →
      exec .holdTimerExpiry s = .next s) ∧
    (s.quality.source = .live → AnsweredUnchanged (.qualityResume 0) 0 .done s) ∧
    (s.quality.source ≠ .live →
      (((s.contacts.get conK1).debounced = true ∧ (s.channels.get chA4).fault = false ∧
          (s.channels.get chA5).fault = false ∧ within 300 900 (s.channels.get chA4).reading) →
        ∃ t, exec (.qualityResume 0) s = .next t ∧ answerStatus 0 t = some .done ∧
          t.quality = { s.quality with source := .live, hold := none
                                       ch4 := (s.channels.get chA4).reading.toNat
                                       h2s := (s.channels.get chA5).reading.toNat } ∧
          AlertEnded .qualitySubstituted s t ∧ AlertEnded .qualityHeld s t ∧
          AlertsSameBut [.qualitySubstituted, .qualityHeld] s t ∧ PortsSameBut 0 s t ∧
          { t with quality := s.quality, alerts := s.alerts, ports := s.ports } = s) ∧
      (¬((s.contacts.get conK1).debounced = true ∧ (s.channels.get chA4).fault = false ∧
          (s.channels.get chA5).fault = false ∧ within 300 900 (s.channels.get chA4).reading) →
        AnsweredUnchanged (.qualityResume 0) 0 .refusedState s))

/-- R28, R29: above the sour limit the high count rises and at the persistence SOUR locks C1 to C4, raises SOUR_GAS and
fires its bindings; below the end level (at least 1 ppm) the low count rises and at the persistence SOUR leaves C1 to
C4 and SOUR_GAS ends; between them both counts are 0 and the state stays. The sample stage evaluates it
(`SampleStageSnapshotsTheField`). -/
def Obligations.SourConditionNeedsItsPersistence : Prop :=
  ∀ (h2s : Nat) (s : State),
    let t := evaluateSour h2s s
    let endLevel := if s.config.sourLimit ≤ s.config.sourHysteresis then 1
      else s.config.sourLimit - s.config.sourHysteresis
    (s.quality.sour = false → s.config.sourLimit < h2s →
      (s.quality.high + 1 < s.config.sourPersistence →
        t = { s with quality := { s.quality with high := s.quality.high + 1, low := 0 } }) ∧
      (s.config.sourPersistence ≤ s.quality.high + 1 →
        t.quality = { s.quality with sour := true, high := 0, low := 0 } ∧ alertState .sourGas t = .active ∧
        AlertsSameBut [.sourGas] s t ∧
        (∀ c : Slot, c.val < 4 → (t.claims.get c).locks.sour = true ∧
          t.claims.get c = (addCause .sour s c).claims.get c) ∧ t.claims.get 4 = s.claims.get 4 ∧
        t.policy = { s.policy with
          switch := fireBindings s.config.bindings s.policy.active .sour s.policy.switch } ∧
        { t with quality := s.quality, claims := s.claims, stack := s.stack, alerts := s.alerts
                 policy := s.policy } = s)) ∧
    (s.quality.sour = false → h2s ≤ s.config.sourLimit →
      t = { s with quality := { s.quality with high := 0, low := 0 } }) ∧
    (s.quality.sour = true → h2s < endLevel →
      (s.quality.low + 1 < s.config.sourPersistence →
        t = { s with quality := { s.quality with high := 0, low := s.quality.low + 1 } }) ∧
      (s.config.sourPersistence ≤ s.quality.low + 1 →
        t.quality = { s.quality with sour := false, high := 0, low := 0 } ∧ AlertEnded .sourGas s t ∧
        AlertsSameBut [.sourGas] s t ∧
        (∀ c : Slot, c.val < 4 → (t.claims.get c).locks.sour = false ∧
          t.claims.get c = (removeCause .sour s c).claims.get c) ∧ t.claims.get 4 = s.claims.get 4 ∧
        { t with quality := s.quality, claims := s.claims, alerts := s.alerts } = s)) ∧
    (s.quality.sour = true → endLevel ≤ h2s →
      t = { s with quality := { s.quality with high := 0, low := 0 } })

/-- R10, R31 to R39: the measure stage forms one P_abs and one T_abs. A meter in use with a count above 0 has its µL and
its old carry made up exactly by its normal volume and its new carry, so no gas is lost; one without pulses has volume
0 and keeps its carry. A volume is weighed into energy and the energy into a rate rounded half up; a stalled meter's
figures are formed from its substitute instead. A production line with a count above 0 takes its measured rate as held
line rate. A line whose flag a CONFIGURE has written since the sample stage, cleared or set, keeps the carry and the held
rate that the CONFIGURE left, 0, and the pass's figures of it are those of its count (R10, R33, R41). P_raw (clamped to
20,000) and the filtered P_f are handed on. Which settings a pass in flight uses, and that the flag's reset reaches the
pass's writes so, are the model's reading (notes/assumptions/16.md, 17.md). -/
def Obligations.MeasureStageFormsThePassFigures : Prop :=
  ∀ (p : Pass) (s : State), s.supplied = true → s.balance.pass = some p → p.stage = .sampled →
      let pAbs := p.settings.ambient + (s.channels.get chA2).reading.toNat
      let tAbs := (2732 + if (s.channels.get chA3).fault then p.settings.defaultTemp
        else (s.channels.get chA3).reading).toNat
      let perPass := p.period * 1000
      let changed := fun m : Meter => ∃ l : Line, m = lineMeter l ∧ p.sampled.lineChanged.get l = true
      ∃ t q, exec .measureStage s = .next t ∧ t.balance.pass = some q ∧ q.stage = .measured ∧
        (∀ m : Meter, p.sampled.counts.get m = 0 ∨ passInUse p.settings.inUse m = false ∨ changed m →
          t.normalizer.carries.get m = s.normalizer.carries.get m) ∧
        (∀ m : Meter, passInUse p.settings.inUse m = false → q.measured.figures.get m = ⟨0, 0, 0⟩) ∧
        (∀ m : Meter, passInUse p.settings.inUse m = true →
          let count := p.sampled.counts.get m
          let micro := count * p.settings.factors.get m * 1000 * pAbs * 2732 / (10132 * tAbs)
          let total := micro + s.normalizer.carries.get m
          let volume := if count = 0 then 0 else total / 1000
          let energy := volume * p.sampled.ch4 * 3588 / 100000
          (0 < count → ¬changed m →
            volume * 1000 + t.normalizer.carries.get m = total ∧ t.normalizer.carries.get m ≤ 999) ∧
          (∀ rate, p.sampled.substitutes.get m = some rate →
            q.measured.figures.get m =
              { volume := rate * perPass * 100000 / (p.sampled.ch4 * 3588), energy := rate * perPass
                rate := rate }) ∧
          ∃ rate : Nat,
            (1 ≤ p.period → 2 * perPass * rate ≤ 2 * energy + perPass ∧
              2 * energy + perPass < 2 * perPass * (rate + 1)) ∧
            (p.sampled.substitutes.get m = none → q.measured.figures.get m = ⟨volume, energy, rate⟩) ∧
            (m.val < 6 → 0 < count → ¬changed m → (t.meters.get m).heldRate = rate)) ∧
        (∀ m : Meter, { t.meters.get m with heldRate := (s.meters.get m).heldRate } = s.meters.get m ∧
          (6 ≤ m.val ∨ p.sampled.counts.get m = 0 ∨ passInUse p.settings.inUse m = false ∨ changed m →
            t.meters.get m = s.meters.get m)) ∧
        q.measured.pRaw = Nat.min 20000 (sumOver productionMeters fun m => (q.measured.figures.get m).rate) ∧
        q.measured.pF = filtered p.settings.filterShift s.normalizer.filtered q.measured.pRaw ∧
        t.normalizer.filtered = q.measured.pF ∧
        { q with stage := p.stage, measured := p.measured } = p ∧
        { t.balance with pass := s.balance.pass } = s.balance ∧
        { t with meters := s.meters, normalizer := s.normalizer, balance := s.balance } = s

/-! ## The holder (chapter 3) -/

/-- R42 to R56: the holder stage takes the A1 reading as the working level, forms inventory and ΔI from it, keeps
the previous level and suspends the balance check while A1 is in fault, keeps the band index then unless a switch
was taken, forms the pressure conditions from A2, and hands the pass its band index and overrides. HOLDER_LOW,
HOLDER_OVERFILL, PRESSURE_HIGH and BALANCE_MISMATCH follow their conditions, and an onset of the mismatch fires its
bindings. The band's figures are those of `FilterAndBandSettle`. That ΔI is formed in a suspended pass too is the
model's choice (notes/assumptions/26.md). -/
def Obligations.HolderStageFormsLevelAndOverrides : Prop :=
  ∀ (p : Pass) (s : State), s.supplied = true → s.balance.pass = some p → p.stage = .measured →
    let level := (s.channels.get chA1).reading.toNat
    let energy := fun m : Meter => ((p.measured.figures.get m).energy : Int)
    let net := energy 0 + energy 1 + energy 2 + energy 3 + energy 4 + energy 5 -
      (energy 6 + energy 7 + energy 8 + energy 9 + energy 10) - energy flareMeter
    ∃ (t : State) (q : Pass) (metered : Int),
      exec .holderStage s = .next t ∧ t.balance.pass = some q ∧ q.stage = .held ∧
      2000 * metered ≤ 2 * net + 1000 ∧ 2 * net + 1000 < 2000 * (metered + 1) ∧
      t.holder.level = level ∧
      t.holder.inventory = s.config.capacity * level * p.sampled.ch4 * 35880 / 1000000 ∧
      t.holder.deltaI =
        (((level : Int) - s.holder.prevLevel) * s.config.capacity * p.sampled.ch4 * 35880).tdiv 1000000 ∧
      t.holder.prevLevel = (if (s.channels.get chA1).fault then s.holder.prevLevel else level) ∧
      (p.switched = true → t.holder.band = recomputeBand (activeBank s) level) ∧
      (p.switched = false → (s.channels.get chA1).fault = true → t.holder.band = s.holder.band) ∧
      (p.switched = false → (s.channels.get chA1).fault = false →
        t.holder.band = selectBand (activeBank s) level s.holder.band) ∧
      ((s.channels.get chA1).fault = true ∨ p.sampled.a1Ended = true →
        t.holder.accumulator = s.holder.accumulator ∧ t.holder.window = s.holder.window ∧
        t.holder.mismatch = s.holder.mismatch) ∧
      ((s.channels.get chA1).fault = false → p.sampled.a1Ended = false →
        s.holder.window + 1 < s.config.balanceWindow →
        t.holder.accumulator = s.holder.accumulator + (t.holder.deltaI - metered) ∧
        t.holder.window = s.holder.window + 1 ∧ t.holder.mismatch = s.holder.mismatch) ∧
      ((s.channels.get chA1).fault = false → p.sampled.a1Ended = false →
        s.config.balanceWindow ≤ s.holder.window + 1 →
        t.holder.accumulator = 0 ∧ t.holder.window = 0 ∧
        (t.holder.mismatch = true ↔ s.config.balanceTolerance * 3600 <
          (s.holder.accumulator + (t.holder.deltaI - metered)).natAbs)) ∧
      (t.holder.overfill = true ↔
        (s.contacts.get conK3).debounced = true ∨ t.holder.band = .fallThrough) ∧
      (t.holder.pressureHigh = true ↔ (s.channels.get chA2).fault = false ∧
        (s.config.pressureHigh : Int) ≤ (s.channels.get chA2).reading) ∧
      (t.holder.pressureLow = true ↔ (s.channels.get chA2).fault = false ∧
        (s.channels.get chA2).reading < (s.config.pressureLow : Int)) ∧
      q.handed.band = t.holder.band ∧ q.handed.pressureHigh = t.holder.pressureHigh ∧
      q.handed.pressureLow = t.holder.pressureLow ∧
      (q.handed.overfill = true ↔ p.sampled.k3 = true ∨ t.holder.band = .fallThrough) ∧
      (t.holder.band = s.holder.band → alertState .holderLow t = alertState .holderLow s) ∧
      (t.holder.band ≠ s.holder.band →
        (t.holder.band = .row 0 → alertState .holderLow t = .active) ∧
        (t.holder.band ≠ .row 0 → AlertEnded .holderLow s t)) ∧
      AlertFollows .holderOverfill s.holder.overfill t.holder.overfill s t ∧
      AlertFollows .pressureHigh s.holder.pressureHigh t.holder.pressureHigh s t ∧
      AlertFollows .balanceMismatch s.holder.mismatch t.holder.mismatch s t ∧
      AlertsSameBut [.holderLow, .holderOverfill, .balanceMismatch, .pressureHigh] s t ∧
      t.policy =
        (if s.holder.mismatch = false ∧ t.holder.mismatch = true then
          { s.policy with
            switch := fireBindings s.config.bindings s.policy.active .mismatch s.policy.switch }
        else s.policy) ∧
      { q with stage := p.stage, handed := p.handed } = p ∧
      { t.balance with pass := s.balance.pass } = s.balance ∧
      { t with holder := s.holder, alerts := s.alerts, policy := s.policy, balance := s.balance } = s

/-- R39: the filter moves P_f by the truncated part of the difference, or by 1 where that is 0, never past P_raw,
and reaches it when it stands one away. R46, R47: with `c` the number of the current index, N for the fall-through row,
the index moves to up (level less H, over W, at most N) where up is greater, to down (level plus H, over W, at most N)
where down is less, and is kept otherwise; the index N is the fall-through row. R48: recomputed it is level over W, at
most N. A steady level keeps a steady index, a recomputed index is kept by the next selection, and up and down never
both apply. -/
def Obligations.FilterAndBandSettle : Prop :=
  (∀ shift pF pRaw : Nat,
    (((pRaw : Int) - pF).tdiv (2 ^ shift) ≠ 0 →
      (filtered shift pF pRaw : Int) = pF + ((pRaw : Int) - pF).tdiv (2 ^ shift)) ∧
    (((pRaw : Int) - pF).tdiv (2 ^ shift) = 0 →
      (pF < pRaw → filtered shift pF pRaw = pF + 1) ∧ (pRaw < pF → filtered shift pF pRaw + 1 = pF)) ∧
    (pF = pRaw → filtered shift pF pRaw = pRaw) ∧
    (pF ≤ pRaw → pF ≤ filtered shift pF pRaw ∧ filtered shift pF pRaw ≤ pRaw) ∧
    (pRaw ≤ pF → pRaw ≤ filtered shift pF pRaw ∧ filtered shift pF pRaw ≤ pF)) ∧
  ∀ (b : Bank) (level : Nat) (now : Band), BankInRange b →
    let up := Nat.min ((if level < b.hysteresis then 0 else level - b.hysteresis) / b.width) b.count
    let down := Nat.min ((level + b.hysteresis) / b.width) b.count
    let named := fun i : Nat => if i = b.count then Band.fallThrough else Band.row i
    (∀ c : Nat, c ≤ b.count → now = named c →
      (c < up → selectBand b level now = named up) ∧
      (down < c → selectBand b level now = named down) ∧
      (up ≤ c → c ≤ down → selectBand b level now = now)) ∧
    up ≤ down ∧
    recomputeBand b level = named (Nat.min (level / b.width) b.count) ∧
    selectBand b level (selectBand b level now) = selectBand b level now ∧
    selectBand b level (recomputeBand b level) = recomputeBand b level ∧
    (selectBand b level now ≠ now → selectBand b level now = .fallThrough ∨
      ∃ n, n < b.count ∧ selectBand b level now = .row n)

/-! ## The claim table (chapter 4) -/

/-- R63: REGISTER is taken in VACANT, IDLE and LAPSED with x, u and then m clamped, and refused in every other
state. From VACANT and LAPSED the claim enters IDLE, or LOCKED with its lease started where a lock cause stands; in
IDLE only the parameters change, and equal ones change nothing. -/
def Obligations.RegisterServedByState : Prop :=
  ∀ (l : Link) (c : Slot) (m x u : Nat) (s : State), linkSlot l = some c → s.supplied = true →
    let old := s.claims.get c
    let x' := if x < 1 then 1 else if 5000 < x then 5000 else x
    let lim : Limits := { m := Nat.min m x', x := x', u := if u < 1 then 1 else if 1000 < u then 1000 else u }
    let st : Status := if lim = ⟨m, x, u⟩ then .done else .clamped
    (old.state = .waiting ∨ old.state = .admitted ∨ old.state = .running ∨ old.state = .shed ∨
        old.state = .locked → AnsweredUnchanged (.register l m x u) l .refusedState s) ∧
    (old.state = .idle →
      ∃ t, exec (.register l m x u) s = .next t ∧ answerStatus l t = some st ∧ PortsSameBut l s t ∧
        ClaimsSameBut c s t ∧
        t.claims.get c =
          { old with limits := some lim
                     epoch := if old.limits = some lim then old.epoch else wrapSucc 65535 old.epoch } ∧
        { t with claims := s.claims, ports := s.ports } = s) ∧
    (old.state = .vacant ∨ old.state = .lapsed →
      ∃ t, exec (.register l m x u) s = .next t ∧ answerStatus l t = some st ∧ PortsSameBut l s t ∧
        ClaimsSameBut c s t ∧
        t.claims.get c =
          { old with
            state := if old.locks.empty then .idle else .locked
            limits := some lim, request := none, standing := false, soft := false, allotment := 0, start := none
            lease := if old.locks.empty then none else some 0
            epoch := wrapSucc 65535 old.epoch } ∧
        (old.state = .vacant → t.alerts = s.alerts) ∧
        (old.state = .lapsed → AlertEnded (.lapse c) s t) ∧ AlertsSameBut [.lapse c] s t ∧
        { t with claims := s.claims, alerts := s.alerts, ports := s.ports } = s)

/-- R64: CLAIM with its requested rate clamped to m–x, by state: refused where the claim stands already and in
VACANT; taken in IDLE and LAPSED with standing set and a new lease, entering WAITING, or LOCKED where a lock cause
stands; taken in LOCKED with standing clear, staying LOCKED. That an IDLE claim with a lock cause, which no run
reaches, goes to LOCKED is the model's choice (notes/assumptions/15.md). -/
def Obligations.ClaimServedByState : Prop :=
  ∀ (l : Link) (c : Slot) (r : Nat) (s : State), linkSlot l = some c → s.supplied = true →
    let old := s.claims.get c
    let r' := clampNat old.min old.max r
    let st : Status := if r' = r then .done else .clamped
    (old.state = .vacant → AnsweredUnchanged (.claim l r) l .notRegistered s) ∧
    (old.state = .waiting ∨ old.state = .admitted ∨ old.state = .running ∨ old.state = .shed ∨
        (old.state = .locked ∧ old.standing = true) → AnsweredUnchanged (.claim l r) l .refusedState s) ∧
    (old.state = .locked → old.standing = false →
      ∃ t, exec (.claim l r) s = .next t ∧ answerStatus l t = some st ∧ PortsSameBut l s t ∧
        ClaimsSameBut c s t ∧
        t.claims.get c = { old with request := some r', standing := true, epoch := wrapSucc 65535 old.epoch } ∧
        { t with claims := s.claims, ports := s.ports } = s) ∧
    (old.state = .idle ∨ old.state = .lapsed →
      ∃ t, exec (.claim l r) s = .next t ∧ answerStatus l t = some st ∧ PortsSameBut l s t ∧
        ClaimsSameBut c s t ∧
        t.claims.get c =
          { old with state := if old.locks.empty then .waiting else .locked
                     request := some r', standing := true, lease := some 0
                     epoch := wrapSucc 65535 old.epoch } ∧
        (old.state = .idle → t.alerts = s.alerts) ∧
        (old.state = .lapsed → AlertEnded (.lapse c) s t) ∧ AlertsSameBut [.lapse c] s t ∧
        { t with claims := s.claims, alerts := s.alerts, ports := s.ports } = s)

/-- R64: AMEND with the same clamp, by state: in ADMITTED, RUNNING and SHED it clears orphaned and lowers w by it,
an allotment above the new r falls to it, and a SHED claim without a record on the stack goes to WAITING, which moves
the epoch even where r stays (the model's choice, notes/assumptions/14.md). -/
def Obligations.AmendServedByState : Prop :=
  ∀ (l : Link) (c : Slot) (r : Nat) (s : State), linkSlot l = some c → s.supplied = true →
    let old := s.claims.get c
    let r' := clampNat old.min old.max r
    let st : Status := if r' = r then .done else .clamped
    (old.state = .vacant → AnsweredUnchanged (.amend l r) l .notRegistered s) ∧
    (old.state = .idle ∨ old.state = .lapsed ∨ (old.state = .locked ∧ old.standing = false) →
      AnsweredUnchanged (.amend l r) l .refusedState s) ∧
    (old.state = .waiting ∨ (old.state = .locked ∧ old.standing = true) →
      ∃ t, exec (.amend l r) s = .next t ∧ answerStatus l t = some st ∧ PortsSameBut l s t ∧
        ClaimsSameBut c s t ∧
        t.claims.get c =
          { old with request := some r'
                     epoch := if old.request = some r' then old.epoch else wrapSucc 65535 old.epoch } ∧
        { t with claims := s.claims, ports := s.ports } = s) ∧
    (old.state = .admitted ∨ old.state = .running →
      ∃ t, exec (.amend l r) s = .next t ∧ answerStatus l t = some st ∧ PortsSameBut l s t ∧
        t.claims.get c =
          { old with
            request := some r', orphaned := 0, withheld := old.withheld - old.orphaned
            allotment := Nat.min old.allotment r'
            epoch := if old.request = some r' ∧ old.orphaned = 0 ∧ old.allotment ≤ r' then old.epoch
                     else wrapSucc 65535 old.epoch } ∧
        t.stack = s.stack ∧ ClaimFrame c [.meterStall (slotMeter c)] s t) ∧
    (old.state = .shed →
      ∃ t, exec (.amend l r) s = .next t ∧ answerStatus l t = some st ∧ PortsSameBut l s t ∧
        ClaimsSameBut c s t ∧
        t.claims.get c =
          { old with
            state := if slotCount c s.stack.records = 0 then .waiting else .shed
            request := some r', orphaned := 0, withheld := old.withheld - old.orphaned
            epoch := if old.request = some r' ∧ old.orphaned = 0 ∧ slotCount c s.stack.records ≠ 0 then old.epoch
                     else wrapSucc 65535 old.epoch } ∧
        { t with claims := s.claims, ports := s.ports } = s)

/-- R65: a REPORT records its rate, clamped to 5,000, in every state but VACANT; running in ADMITTED enters RUNNING
and stops the start timer, stopped in RUNNING is a trip into IDLE with a purge, and every other combination records
the rate alone. -/
def Obligations.ReportServedByState : Prop :=
  ∀ (l : Link) (c : Slot) (running : Bool) (rate : Nat) (s : State),
    linkSlot l = some c → s.supplied = true → WithheldAccounted s →
    let old := s.claims.get c
    let rate' := Nat.min rate 5000
    let st : Status := if rate ≤ 5000 then .done else .clamped
    (old.state = .vacant → AnsweredUnchanged (.report l running rate) l .notRegistered s) ∧
    (old.state = .admitted → running = true →
      ∃ t, exec (.report l running rate) s = .next t ∧ answerStatus l t = some st ∧ PortsSameBut l s t ∧
        t.claims.get c =
          { old with state := .running, start := none, lastRate := rate'
                     epoch := wrapSucc 65535 old.epoch } ∧
        t.stack = s.stack ∧ AlertEnded (.startFail c) s t ∧ AlertEnded (.trip c) s t ∧
        ClaimFrame c [.startFail c, .trip c, .meterStall (slotMeter c)] s t) ∧
    (old.state = .running → running = false →
      ∃ t, exec (.report l running rate) s = .next t ∧ answerStatus l t = some st ∧ PortsSameBut l s t ∧
        t.claims.get c = { idleRecord old with lastRate := rate' } ∧ PurgedStack c s t ∧
        alertState (.trip c) t = .active ∧ ClaimFrame c [.trip c, .meterStall (slotMeter c)] s t) ∧
    (old.state ≠ .vacant → ¬(old.state = .admitted ∧ running = true) →
      ¬(old.state = .running ∧ running = false) →
      ∃ t, exec (.report l running rate) s = .next t ∧ answerStatus l t = some st ∧ PortsSameBut l s t ∧
        ClaimsSameBut c s t ∧ t.claims.get c = { old with lastRate := rate' } ∧
        { t with claims := s.claims, ports := s.ports } = s)

/-- R66: RELEASE by state: nothing in IDLE, IDLE out of WAITING, IDLE with a purge out of ADMITTED, RUNNING and
SHED, standing and r cleared in LOCKED, and IDLE or LOCKED out of LAPSED. -/
def Obligations.ReleaseServedByState : Prop :=
  ∀ (l : Link) (c : Slot) (s : State), linkSlot l = some c → s.supplied = true → WithheldAccounted s →
    let old := s.claims.get c
    (old.state = .vacant → AnsweredUnchanged (.release l) l .notRegistered s) ∧
    (old.state = .idle → AnsweredUnchanged (.release l) l .done s) ∧
    (old.state = .waiting →
      ∃ t, exec (.release l) s = .next t ∧ answerStatus l t = some .done ∧ PortsSameBut l s t ∧
        ClaimsSameBut c s t ∧
        t.claims.get c =
          { idleRecord old with orphaned := old.orphaned, withheld := old.withheld } ∧
        { t with claims := s.claims, ports := s.ports } = s) ∧
    (old.state = .admitted ∨ old.state = .running ∨ old.state = .shed →
      ∃ t, exec (.release l) s = .next t ∧ answerStatus l t = some .done ∧ PortsSameBut l s t ∧
        t.claims.get c = idleRecord old ∧ PurgedStack c s t ∧
        ClaimFrame c [.meterStall (slotMeter c)] s t) ∧
    (old.state = .locked →
      ∃ t, exec (.release l) s = .next t ∧ answerStatus l t = some .done ∧ PortsSameBut l s t ∧
        ClaimsSameBut c s t ∧
        t.claims.get c =
          { old with standing := false, request := none
                     epoch := if old.standing = false ∧ old.request = none then old.epoch
                              else wrapSucc 65535 old.epoch } ∧
        { t with claims := s.claims, ports := s.ports } = s) ∧
    (old.state = .lapsed →
      ∃ t, exec (.release l) s = .next t ∧ answerStatus l t = some .done ∧ PortsSameBut l s t ∧
        ClaimsSameBut c s t ∧
        t.claims.get c =
          { old with
            state := if old.locks.empty then .idle else .locked
            request := none, standing := false, soft := false, allotment := 0, start := none
            lease := if old.locks.empty then none else some 0
            epoch := wrapSucc 65535 old.epoch } ∧
        AlertEnded (.lapse c) s t ∧ AlertsSameBut [.lapse c] s t ∧
        { t with claims := s.claims, alerts := s.alerts, ports := s.ports } = s)

/-- R61, R62, R67, R68: the expiry of a lease that has run for the lease time takes its claim to LAPSED, keeping r,
standing and its lock causes; the expiry of an ADMITTED claim's start timer that has run for the start timeout takes it
to IDLE. Each purges the slot's records, raises its alert and moves the epoch. A timer that a valid frame has restarted,
or that is stopped, does not expire: elsewhere nothing happens (that the command then changes nothing is the model's
choice, notes/assumptions/4.md). -/
def Obligations.LeaseAndStartExpiryEndTheClaim : Prop :=
  ∀ (c : Slot) (s : State), s.supplied = true → WithheldAccounted s →
    let old := s.claims.get c
    (leased old.state = true → HasRun old.lease (s.config.lease * 1000) →
      ∃ t, exec (.leaseTimerExpiry c) s = .next t ∧
        t.claims.get c =
          { idleRecord old with state := .lapsed, request := old.request, standing := old.standing } ∧
        PurgedStack c s t ∧ alertState (.lapse c) t = .active ∧
        ClaimFrame c [.lapse c, .meterStall (slotMeter c)] s t ∧ t.ports = s.ports) ∧
    (leased old.state = false ∨ ¬HasRun old.lease (s.config.lease * 1000) →
      exec (.leaseTimerExpiry c) s = .next s) ∧
    (old.state = .admitted → HasRun old.start (s.config.startTimeout * 1000) →
      ∃ t, exec (.startTimerExpiry c) s = .next t ∧ t.claims.get c = idleRecord old ∧ PurgedStack c s t ∧
        alertState (.startFail c) t = .active ∧ { t with claims := s.claims, stack := s.stack, alerts := s.alerts } = s ∧
        ClaimsSameBut c s t ∧ AlertsSameBut [.startFail c] s t) ∧
    (old.state ≠ .admitted ∨ ¬HasRun old.start (s.config.startTimeout * 1000) →
      exec (.startTimerExpiry c) s = .next s)

/-- R72: HOLD_SLOTS adds HELD_BY_SUPERVISOR to each named slot, or removes it, and touches no other slot; a mask
that names no slot, or a slot that does not exist, is refused. What each slot does is R70 and R71
(`LockCauseMovesClaim`). R76: FORCE_VACANT makes a claim VACANT in any state: records purged, parameters, request,
standing, soft, allotment and last reported rate gone, both timers stopped, its three alerts no longer active; the
lock cause set is kept and the epoch moves. VACANT is left alone, and a slot other than C1 to C5 is refused. -/
def Obligations.SupervisorHoldsAndForcesVacant : Prop :=
  (∀ (mask : Nat) (on : Bool) (s : State), s.supplied = true →
    (mask = 0 ∨ 32 ≤ mask → AnsweredUnchanged (.holdSlots 0 mask on) 0 .refusedUnknown s) ∧
    (0 < mask → mask < 32 →
      ∃ t, exec (.holdSlots 0 mask on) s = .next t ∧ answerStatus 0 t = some .done ∧ PortsSameBut 0 s t ∧
        (∀ c : Slot, mask.testBit c.val = true →
          (t.claims.get c).locks = (s.claims.get c).locks.put .heldBySupervisor on ∧
          t.claims.get c =
            ((if on then addCause .heldBySupervisor s c else removeCause .heldBySupervisor s c).claims.get c)) ∧
        (∀ c : Slot, mask.testBit c.val = false →
          t.claims.get c = s.claims.get c ∧ t.meters.get (slotMeter c) = s.meters.get (slotMeter c) ∧
          t.stack.records.filter (fun r => r.slot = c) = s.stack.records.filter (fun r => r.slot = c)) ∧
        FlowFollowed s t ∧ (∀ m : Meter, m.val < 6 ∨ m = flareMeter → t.meters.get m = s.meters.get m) ∧
        AlertsSameBut consumerStalls s t ∧
        { t with claims := s.claims, stack := s.stack, meters := s.meters, alerts := s.alerts
                 ports := s.ports } = s)) ∧
  ∀ (slot : Nat) (s : State), s.supplied = true → WithheldAccounted s →
    (slot = 0 ∨ 5 < slot → AnsweredUnchanged (.forceVacant 0 slot) 0 .refusedUnknown s) ∧
    ∀ c : Slot, slot = c.val + 1 →
      ((s.claims.get c).state = .vacant → AnsweredUnchanged (.forceVacant 0 slot) 0 .done s) ∧
      ((s.claims.get c).state ≠ .vacant →
        ∃ t, exec (.forceVacant 0 slot) s = .next t ∧ answerStatus 0 t = some .done ∧ PortsSameBut 0 s t ∧
          t.claims.get c =
            { vacantClaim with locks := (s.claims.get c).locks
                               epoch := wrapSucc 65535 (s.claims.get c).epoch } ∧
          PurgedStack c s t ∧
          AlertEnded (.startFail c) s t ∧ AlertEnded (.trip c) s t ∧
          AlertEnded (.lapse c) s t ∧ ClaimFrame c (claimAlerts c) s t)

/-- R59: outside the starts, the pushes and the apply stage, a command moves a claim's epoch by exactly one if it
changes a counted field of the record (state, m, x, u, r, standing, orphaned, soft, allotment or lock cause set),
and leaves it alone otherwise. -/
def Obligations.EpochMovesOncePerCountedChange : Prop :=
  ∀ (i : Instr) (s t : State) (c : Slot), i ≠ .applyStage → i ≠ .shedPush →
    (∀ amps a b d, i ≠ .powerOnStart amps a b d) → (∀ amps, i ≠ .restartTakesPlace amps) →
    exec i s = .next t →
      (t.claims.get c).epoch =
        if sameCounted (s.claims.get c) (t.claims.get c) then (s.claims.get c).epoch
        else wrapSucc 65535 (s.claims.get c).epoch

/-! ## The balance pass (chapters 5 and 6) -/

/-- R31, R41, R83, R86, R142: a pass timer that has run for its T restarts with the T of the working configuration and
begins a pass with the T of the run that ended; the bank stage makes a pending switch's bank the active one. The pass
keeps the meter factors, line-in-use flags, ambient pressure, default temperature, filter shift and stall hold as they
stand (which settings those are is the model's reading, notes/assumptions/16.md). Short of T, or with a pass in
flight, nothing happens (the model's choice, notes/assumptions/4.md, 22.md). -/
def Obligations.PassBeginsAtTimerExpiry : Prop :=
  ∀ s : State, s.supplied = true →
    (s.balance.pass ≠ none ∨ s.balance.timer < s.balance.period * 1000 → exec .passTimerExpiry s = .next s) ∧
    (s.balance.pass = none → s.balance.period * 1000 ≤ s.balance.timer →
      ∃ t q, exec .passTimerExpiry s = .next t ∧ t.balance.pass = some q ∧ q.stage = .banked ∧
        q.period = s.balance.period ∧ t.balance.timer = 0 ∧ t.balance.period = s.config.period ∧
        q.settings =
          { factors := s.config.factors, inUse := s.config.inUse, ambient := s.config.ambient
            defaultTemp := s.config.defaultTemp, filterShift := s.config.filterShift
            stallHold := s.config.stallHold } ∧
        { t.balance with timer := s.balance.timer, period := s.balance.period, pass := none } = s.balance ∧
        (∀ b, s.policy.switch = some b →
          t.policy = { s.policy with active := b, switch := none } ∧ q.switched = true) ∧
        (s.policy.switch = none → t.policy = s.policy ∧ q.switched = false) ∧
        { t with policy := s.policy, balance := s.balance } = s)

/-- R89, R90: the snapshot stage copies the claims, the settings, the row and the ranks, and forms D as P_f plus the
row's trim within 0 to the site rate limit; the working copy is the snapshot. -/
def Obligations.SnapshotCopiesClaimsAndFormsD : Prop :=
  ∀ (p : Pass) (s : State), s.supplied = true → s.balance.pass = some p → p.stage = .held →
    ∃ t q, exec .snapshotStage s = .next t ∧ t.balance.pass = some q ∧ q.stage = .snapped ∧
      (∀ c : Slot,
        q.snapshot.claims.get c =
          { state := (s.claims.get c).state, m := (s.claims.get c).min, x := (s.claims.get c).max
            u := (s.claims.get c).ramp, request := (s.claims.get c).request
            withheld := (s.claims.get c).withheld, allotment := (s.claims.get c).allotment
            soft := (s.claims.get c).soft, epoch := (s.claims.get c).epoch } ∧
        (q.decisions.work.get c).ceiling = (s.claims.get c).ceiling) ∧
      q.decisions.work = q.snapshot.claims ∧ q.decisions.toPush = [] ∧ q.decisions.pushed = [] ∧
      q.decisions.steps = 0 ∧ q.decisions.shedMade = false ∧
      q.snapshot.siteLimit = s.config.siteLimit ∧ q.snapshot.restoreSpacing = s.config.restoreSpacing ∧
      q.snapshot.flareMin = s.config.flareMin ∧ q.snapshot.flareMax = s.config.flareMax ∧
      q.snapshot.row = selectRow (activeBank s) p.handed.band ∧ q.snapshot.ranks = (activeBank s).ranks ∧
      (q.snapshot.distributable : Int) =
        max 0 (min (s.config.siteLimit : Int) ((p.measured.pF : Int) + q.snapshot.row.trim)) ∧
      { q with stage := p.stage, snapshot := p.snapshot, decisions := p.decisions } = p ∧
      { t.balance with pass := s.balance.pass } = s.balance ∧ { t with balance := s.balance } = s

/-- The decisions with every claim that `cuts` picks shed WHOLE, in the order given (R92, R93): its working w takes up its
ceiling, it becomes SHED, and a record of its ceiling is to be pushed where that ceiling is above 0. -/
def wholeSheds (cuts : WorkClaim → Bool) (order : List Slot) (d : Decisions) : Decisions :=
  { d with
    work := Tab.gen fun c =>
      let w := d.work.get c
      if cuts w then { w with state := .shed, withheld := w.withheld + w.ceiling } else w
    toPush := d.toPush ++ (order.filter fun c => cuts (d.work.get c) && decide (0 < (d.work.get c).ceiling)).map
      fun c => ⟨c, .whole, (d.work.get c).ceiling⟩
    shedMade := d.shedMade || order.any fun c => cuts (d.work.get c) }

/-- R92 to R95, as the decisions they leave, the shed kind apart. In the order of lowest rank first (the greater rank
number, then the higher slot) every claim held below its m is shed WHOLE. A cut-all or pressure-low pass then sheds WHOLE,
in the same order, every claim still holding a ceiling above 0. Any other pass goes on by steps, each on the victim, while
D is less than S_c. -/
def shortfallDecided (p : Pass) (d : Decisions) : Prop :=
  let ranks := p.snapshot.ranks
  ∃ order : List Slot, order.Perm allSlots ∧
    order.Pairwise (fun c e => ranks.get e < ranks.get c ∨ ranks.get c = ranks.get e ∧ e < c) ∧
    let belowMin := wholeSheds (fun w => holdsGas w && decide (w.ceiling < w.m)) order p.decisions
    (p.snapshot.row.cutAll = true ∨ p.handed.pressureLow = true →
      { d with kind := .none } =
        { wholeSheds (fun w => holdsGas w && decide (0 < w.ceiling)) order belowMin with kind := .none }) ∧
    (p.snapshot.row.cutAll = false → p.handed.pressureLow = false →
      ∃ run : Nat → Decisions,
        run 0 = { belowMin with kind := if belowMin.shedMade then .steps else .none } ∧ run d.steps = d ∧
        ∀ k, k < d.steps →
          p.snapshot.distributable < sumCeilings (run k).work ∧
          ∃ c, victim ranks (run k).work = some c ∧ run (k + 1) = stepOn p.snapshot.row.shedStep c (run k))

/-- R92 to R96: the shortfall stage changes no live record. Which records it decides to push, and in which order, is
`shortfallDecided`, with the victim and the step of `VictimIsLowestRankAndKeepsItsMinimum`. After it every claim still held in ADMITTED or RUNNING
has a ceiling of at least its m; a cut-all or pressure-low pass leaves none of them a ceiling above 0 and takes no
step; any other pass takes at most the row's steps and stops short of them only when D covers S_c or no victim is
left. At most five records beside the steps are to be pushed. R108: a pass with both cut-all and pressure-low reports
cut-all; with one of them it reports that one where it cuts a claim by it; any other pass reports steps where it sheds.
That a pass with one of them that cuts no claim by it reports as if it had none is the model's choice
(notes/assumptions/20.md). -/
def Obligations.ShortfallStageCutsToFit : Prop :=
  ∀ (p : Pass) (s : State), s.supplied = true → s.balance.pass = some p → p.stage = .snapped →
    p.decisions = { emptyDecisions with work := p.snapshot.claims } →
    -- a claim that R92 leaves alone and a cut-all takes
    let cuttable := fun c : Slot => holdsGas (p.decisions.work.get c) = true ∧
      (p.decisions.work.get c).m ≤ (p.decisions.work.get c).ceiling ∧ 0 < (p.decisions.work.get c).ceiling
    ∃ t q, exec .shortfallStage s = .next t ∧ t.balance.pass = some q ∧ q.stage = .pushing ∧
      shortfallDecided p q.decisions ∧
      (∀ c : Slot, holdsGas (q.decisions.work.get c) = true →
        (q.decisions.work.get c).m ≤ (q.decisions.work.get c).ceiling) ∧
      (p.snapshot.row.cutAll = true ∨ p.handed.pressureLow = true →
        q.decisions.steps = 0 ∧ sumCeilings q.decisions.work = 0) ∧
      (p.snapshot.row.cutAll = false → p.handed.pressureLow = false →
        q.decisions.steps ≤ p.snapshot.row.steps ∧
        (q.decisions.steps < p.snapshot.row.steps →
          sumCeilings q.decisions.work ≤ p.snapshot.distributable ∨
          ∀ c : Slot, holdsGas (q.decisions.work.get c) = true → (q.decisions.work.get c).ceiling = 0)) ∧
      (p.snapshot.row.cutAll = true → p.handed.pressureLow = true → q.decisions.kind = .cutAll) ∧
      (p.snapshot.row.cutAll = true → (∃ c, cuttable c) → q.decisions.kind = .cutAll) ∧
      (p.snapshot.row.cutAll = false → p.handed.pressureLow = true → (∃ c, cuttable c) →
        q.decisions.kind = .pressureLow) ∧
      (¬(p.snapshot.row.cutAll = true ∧ p.handed.pressureLow = true) →
        (p.snapshot.row.cutAll = true ∨ p.handed.pressureLow = true → ∀ c, ¬cuttable c) →
        q.decisions.kind = if q.decisions.shedMade then .steps else .none) ∧
      q.decisions.toPush.length ≤ 5 + q.decisions.steps ∧
      sumCeilings q.decisions.work ≤ sumCeilings p.decisions.work ∧
      (q.decisions.toPush ≠ [] → q.decisions.shedMade = true) ∧
      { q with stage := p.stage, decisions := p.decisions } = p ∧
      { t.balance with pass := s.balance.pass } = s.balance ∧ { t with balance := s.balance } = s

/-- R95: the victim of a shortfall step is the ADMITTED or RUNNING claim with a ceiling above 0 of the greatest rank
number, between equal ranks the higher slot; above its m it is trimmed by the shed step but not below m, and at or
below m it is shed WHOLE. -/
def Obligations.VictimIsLowestRankAndKeepsItsMinimum : Prop :=
  (∀ (ranks : Tab 5 Nat) (work : Tab 5 WorkClaim) (c : Slot), victim ranks work = some c →
    holdsGas (work.get c) = true ∧ 0 < (work.get c).ceiling ∧
    ∀ d : Slot, d ≠ c → holdsGas (work.get d) = true → 0 < (work.get d).ceiling →
      ranks.get d < ranks.get c ∨ (ranks.get d = ranks.get c ∧ d < c)) ∧
  (∀ (ranks : Tab 5 Nat) (work : Tab 5 WorkClaim), victim ranks work = none →
    ∀ c : Slot, holdsGas (work.get c) = true → (work.get c).ceiling = 0) ∧
  ∀ (shedStep : Nat) (c : Slot) (d : Decisions), 1 ≤ shedStep → holdsGas (d.work.get c) = true →
    0 < (d.work.get c).ceiling →
    let w := d.work.get c
    (∀ e : Slot, e ≠ c → (stepOn shedStep c d).work.get e = d.work.get e) ∧
    (stepOn shedStep c d).steps = d.steps + 1 ∧
    (w.m < w.ceiling →
      (stepOn shedStep c d).toPush = d.toPush ++ [⟨c, .trim, Nat.min shedStep (w.ceiling - w.m)⟩] ∧
      ((stepOn shedStep c d).work.get c).state = w.state ∧
      ((stepOn shedStep c d).work.get c).ceiling = w.ceiling - Nat.min shedStep (w.ceiling - w.m) ∧
      w.m ≤ ((stepOn shedStep c d).work.get c).ceiling) ∧
    (w.ceiling ≤ w.m →
      (stepOn shedStep c d).toPush = d.toPush ++ [⟨c, .whole, w.ceiling⟩] ∧
      ((stepOn shedStep c d).work.get c).state = .shed)

/-- R96, R111, R112, R118: the next shed is pushed on top of the live stack with the pass's band and the number the
pass will set, marked pending; the slot's w rises by its amount and no epoch moves. Onto a full stack the bottom
record is first evicted into its slot's orphaned amount, with the overflow flag. -/
def Obligations.PushRaisesWithheldAndEvictsTheOldest : Prop :=
  ∀ (p : Pass) (s : State) (x : Shed) (rest : List Shed),
    s.supplied = true → s.balance.pass = some p → p.stage = .pushing → p.decisions.toPush = x :: rest →
    s.stack.records.length ≤ 16 →
    let r : ShedRecord :=
      { slot := x.slot, kind := x.kind, amount := x.amount, band := p.handed.band
        passNumber := wrapSucc 65535 s.balance.passNumber, pending := true }
    ∃ t, exec .shedPush s = .next t ∧
      t.stack.changes = wrapSucc 255 s.stack.changes ∧
      (s.stack.records.length < 16 →
        t.stack.records = r :: s.stack.records ∧
        (∀ c : Slot, t.claims.get c =
          { s.claims.get c with
            withheld := (s.claims.get c).withheld + if c = x.slot then x.amount else 0 }) ∧
        t.alerts = s.alerts) ∧
      (∀ (kept : List ShedRecord) (oldest : ShedRecord), s.stack.records = kept ++ [oldest] → kept.length = 15 →
        t.stack.records = r :: kept ∧
        (∀ c : Slot, t.claims.get c =
          { s.claims.get c with
            withheld := (s.claims.get c).withheld + if c = x.slot then x.amount else 0
            orphaned := (s.claims.get c).orphaned + if c = oldest.slot then oldest.amount else 0 }) ∧
        alertState .stackOverflow t = .active ∧ AlertsSameBut [.stackOverflow] s t) ∧
      t.balance.pass =
        some { p with decisions := { p.decisions with toPush := rest, pushed := p.decisions.pushed ++ [r] } } ∧
      { t.balance with pass := s.balance.pass } = s.balance ∧
      { t with claims := s.claims, stack := s.stack, alerts := s.alerts, balance := s.balance } = s

/-- R97, R98, R114, R118: after the last push the restore stage goes on to a pop only in a pass without a shed, on a
row with restore set, with a stack that is not empty and the spacing reached. The pop removes the top record if D
covers S_c, its amount and the restore margin; its slot's live and working w fall by the amount and no epoch moves;
a SHED working claim whose ceiling reaches its m becomes ADMITTED. -/
def Obligations.RestorePopsOneRecordThatFits : Prop :=
  ∀ (p : Pass) (s : State), s.supplied = true → s.balance.pass = some p →
    (p.stage = .pushing → p.decisions.toPush = [] →
      ∃ t q, exec .restoreStage s = .next t ∧ t.balance.pass = some q ∧
        (q.stage = .popping ↔ p.decisions.shedMade = false ∧ p.snapshot.row.restore = true ∧
          s.stack.records ≠ [] ∧ p.snapshot.restoreSpacing ≤ s.balance.spacing) ∧
        (q.stage ≠ .popping → q.stage = .restored) ∧ { q with stage := p.stage } = p ∧
        { t.balance with pass := s.balance.pass } = s.balance ∧ { t with balance := s.balance } = s) ∧
    (p.stage = .popping →
      (s.stack.records = [] →
        ∃ t, exec .pop s = .next t ∧ t.balance = { s.balance with pass := some { p with stage := .restored } } ∧
          { t with balance := s.balance } = s) ∧
      ∀ (r : ShedRecord) (rest : List ShedRecord), s.stack.records = r :: rest →
        (p.snapshot.distributable < sumCeilings p.decisions.work + r.amount + p.snapshot.row.restoreMargin →
          ∃ t, exec .pop s = .next t ∧ t.balance = { s.balance with pass := some { p with stage := .restored } } ∧
            { t with balance := s.balance } = s) ∧
        (sumCeilings p.decisions.work + r.amount + p.snapshot.row.restoreMargin ≤ p.snapshot.distributable →
          ∃ t q, exec .pop s = .next t ∧ t.balance.pass = some q ∧ q.stage = .restored ∧
            t.stack = { records := rest, changes := wrapSucc 255 s.stack.changes } ∧
            (∀ c : Slot, t.claims.get c =
              { s.claims.get c with
                withheld := (s.claims.get c).withheld - if c = r.slot then r.amount else 0 }) ∧
            q.decisions.restored = some r.slot ∧
            (∀ c : Slot, c ≠ r.slot → q.decisions.work.get c = p.decisions.work.get c) ∧
            (q.decisions.work.get r.slot).withheld = (p.decisions.work.get r.slot).withheld - r.amount ∧
            ((q.decisions.work.get r.slot).state =
              if (p.decisions.work.get r.slot).state = .shed ∧
                (q.decisions.work.get r.slot).m ≤ (q.decisions.work.get r.slot).ceiling then .admitted
              else (p.decisions.work.get r.slot).state) ∧
            { q with stage := p.stage, decisions := p.decisions } = p ∧
            { t.balance with pass := s.balance.pass } = s.balance ∧
            { t with claims := s.claims, stack := s.stack, balance := s.balance } = s))

/-- R99, R100: admission runs only in a pass without a shed, on a row whose admission flag is set and over an empty stack. It
admits the WAITING claim first in rank order (rank 1 first, then the lower slot) whose m fits D less S_c less the
admission margin, and none where none fits. -/
def Obligations.AdmissionTakesTheFirstThatFits : Prop :=
  ∀ (p : Pass) (s : State), s.supplied = true → s.balance.pass = some p → p.stage = .restored →
    let fits := fun c : Slot => (p.decisions.work.get c).state = .waiting ∧
      sumCeilings p.decisions.work + p.snapshot.row.admissionMargin + (p.decisions.work.get c).m ≤
        p.snapshot.distributable
    let runs := p.decisions.shedMade = false ∧ p.snapshot.row.admits = true ∧ s.stack.records = []
    ∃ t q, exec .admissionStage s = .next t ∧ t.balance.pass = some q ∧ q.stage = .admitted ∧
      (¬runs → q.decisions.admitted = none) ∧
      (runs → q.decisions.admitted = none → ∀ c : Slot, ¬fits c) ∧
      (∀ c : Slot, q.decisions.admitted = some c → fits c ∧
        (q.decisions.work.get c = { p.decisions.work.get c with state := .admitted }) ∧
        ∀ d : Slot, fits d → d ≠ c → p.snapshot.ranks.get c < p.snapshot.ranks.get d ∨
          (p.snapshot.ranks.get c = p.snapshot.ranks.get d ∧ c < d)) ∧
      (∀ c : Slot, q.decisions.admitted ≠ some c → q.decisions.work.get c = p.decisions.work.get c) ∧
      q.decisions.sumCeilings = sumCeilings q.decisions.work ∧
      { q with stage := p.stage, decisions := p.decisions } = p ∧
      { t.balance with pass := s.balance.pass } = s.balance ∧ { t with balance := s.balance } = s

/-- R101, R102: an ADMITTED claim is given its m; a RUNNING claim falls to its ceiling at once or rises by at most
its ramp (u, or u / 8 and at least 1 while soft) and never past its ceiling; every other claim is given 0. S_a is
the sum, and it never exceeds S_c while every admitted m fits its ceiling. -/
def Obligations.AllotmentsRampAndNeverExceedCeilings : Prop :=
  ∀ (p : Pass) (s : State), s.supplied = true → s.balance.pass = some p → p.stage = .admitted →
    ∃ t q, exec .allotmentStage s = .next t ∧ t.balance.pass = some q ∧ q.stage = .allotted ∧
      (∀ c : Slot,
        let w := p.decisions.work.get c
        let ramp := if w.soft then Nat.max 1 (w.u / 8) else w.u
        (w.state = .admitted → q.decisions.allotments.get c = w.m) ∧
        (w.state = .running → w.ceiling ≤ w.allotment → q.decisions.allotments.get c = w.ceiling) ∧
        (w.state = .running → w.allotment < w.ceiling →
          q.decisions.allotments.get c = Nat.min (w.allotment + ramp) w.ceiling) ∧
        (w.state ≠ .admitted → w.state ≠ .running → q.decisions.allotments.get c = 0)) ∧
      q.decisions.sumAllotments = (allSlots.map fun c => q.decisions.allotments.get c).sum ∧
      ((∀ c : Slot, (p.decisions.work.get c).state = .admitted →
          (p.decisions.work.get c).m ≤ (p.decisions.work.get c).ceiling) →
        q.decisions.sumAllotments ≤ sumCeilings p.decisions.work) ∧
      q.decisions.work = p.decisions.work ∧
      { q with stage := p.stage, decisions := p.decisions } = p ∧
      { t.balance with pass := s.balance.pass } = s.balance ∧ { t with balance := s.balance } = s

/-- R103, R104, R121, R125, R126, R129, R130: the flare call is the row's flare, the pressure-high or the overfill
override; the demand is D less S_a within the copied flare range, 0 without a call. The sequencer holds both, the
demand within the flare range as it stands, and acts by its state. -/
def Obligations.FlareStageHandsOverTheCall : Prop :=
  ∀ (p : Pass) (s : State), s.supplied = true → s.balance.pass = some p → p.stage = .allotted →
    p.snapshot.flareMin ≤ p.snapshot.flareMax → s.config.flareMin ≤ s.config.flareMax →
    let call := p.snapshot.row.flare || p.handed.pressureHigh || p.handed.overfill
    let demand := if call then Nat.max p.snapshot.flareMin
      (Nat.min p.snapshot.flareMax (p.snapshot.distributable - p.decisions.sumAllotments)) else 0
    let held := if call then Nat.max s.config.flareMin (Nat.min s.config.flareMax demand) else 0
    ∃ t q, exec .flareStage s = .next t ∧ t.balance.pass = some q ∧ q.stage = .flared ∧
      q.decisions = { p.decisions with call := call, demand := demand } ∧
      t.flare.heldCall = call ∧ t.flare.heldDemand = held ∧
      (s.flare.state = .off →
        if call = true ∧ s.flare.permit = true ∧ s.flare.report.isReady = true then
          t.flare.state = .called ∧ t.flare.attempts = 1 ∧ t.flare.ignition = some 0 ∧ t.flare.demand = held
        else t.flare.state = .off ∧ t.flare.demand = s.flare.demand) ∧
      (s.flare.state = .called → call = true → t.flare.state = .called ∧ t.flare.demand = held ∧
        t.flare.ignition = s.flare.ignition ∧ t.flare.attempts = s.flare.attempts) ∧
      (s.flare.state = .called → call = false → t.flare.state = .off ∧ t.flare.demand = 0 ∧
        t.flare.attempts = 0 ∧ t.flare.ignition = none ∧ AlertEnded .flareRetry s t) ∧
      (s.flare.state = .burning → call = true → t.flare.state = .burning ∧ t.flare.demand = held) ∧
      (s.flare.state = .burning → call = false → s.config.minBurn ≠ 0 → t.flare.state = .holding ∧
        t.flare.demand = s.config.flareMin ∧ t.flare.minBurn = some 0 ∧
        t.flare.attempts = s.flare.attempts) ∧
      (s.flare.state = .burning → call = false → s.config.minBurn = 0 →
        t.flare.state = .off ∧ t.flare.demand = 0) ∧
      (s.flare.state = .holding → call = true → t.flare.state = .burning ∧ t.flare.demand = held ∧
        t.flare.minBurn = none ∧ t.flare.starts = s.flare.starts ∧ t.flare.attempts = s.flare.attempts) ∧
      (s.flare.state = .holding → call = false → t.flare.state = .holding ∧
        t.flare.demand = s.config.flareMin ∧ t.flare.minBurn = s.flare.minBurn) ∧
      (s.flare.state = .failed → t.flare.state = .failed ∧ t.flare.demand = s.flare.demand) ∧
      t.flare.permit = s.flare.permit ∧ t.flare.report = s.flare.report ∧
      MetersSameBut flareMeter s t ∧ FlowFollowed s t ∧
      AlertsSameBut [.flareRetry, .meterStall flareMeter] s t ∧
      { q with stage := p.stage, decisions := p.decisions } = p ∧
      { t.balance with pass := s.balance.pass } = s.balance ∧
      { t with flare := s.flare, meters := s.meters, alerts := s.alerts, balance := s.balance } = s

/-- R73, R78, R84, R97, R105 to R108, R116, R118, R136, R171: where a slot's epoch has not moved the apply stage writes
its working state and allotment, starts or stops its start timer and clears soft at the ceiling, and leaves alone a
claim whose result equals what it holds; where it has, the record stays but for the w of the records it removes. No
epoch moves, marks are cleared, the pass number goes up by one, the results record is that of the pass, and the totals
gain the pass figures: litres and kilowatt-hours by whole units with the rest kept, burn seconds and starts as the
flare sequencer hands them on, and one pass. That soft is cleared at every such write whose allotment is the ceiling is
the model's reading (notes/assumptions/19.md). -/
def Obligations.ApplyStageWritesOnlyUnmovedClaims : Prop :=
  ∀ (p : Pass) (s : State), s.supplied = true → s.balance.pass = some p → p.stage = .flared →
    let line := fun l : Line => p.measured.figures.get (lineMeter l)
    let slot := fun i : Fin 6 => p.measured.figures.get ⟨i.val + 6, by omega⟩
    ∃ t, exec .applyStage s = .next t ∧
      (∀ c : Slot,
        let old := s.claims.get c
        let w := p.decisions.work.get c
        let a := p.decisions.allotments.get c
        (old.epoch = (p.snapshot.claims.get c).epoch →
          (old.state = w.state → old.allotment = a → t.claims.get c = old) ∧
          (old.state ≠ w.state ∨ old.allotment ≠ a →
            t.claims.get c =
              { old with
                state := w.state, allotment := a
                soft := old.soft && !(holdsGas w && decide (a = w.ceiling))
                start := if w.state = .admitted then (if old.state = .admitted then old.start else some 0)
                  else if old.state = .admitted then none else old.start })) ∧
        (old.epoch ≠ (p.snapshot.claims.get c).epoch →
          t.claims.get c =
            { old with withheld := old.withheld -
                slotSum c (s.stack.records.filter fun r => r.pending) })) ∧
      t.stack.records =
        (s.stack.records.filter fun r => !(r.pending &&
            decide ((s.claims.get r.slot).epoch ≠ (p.snapshot.claims.get r.slot).epoch))).map
          (fun r => { r with pending := false }) ∧
      t.stack.changes =
        (if s.stack.records.any (fun r => r.pending) then wrapSucc 255 s.stack.changes else s.stack.changes) ∧
      t.balance.passNumber = wrapSucc 65535 s.balance.passNumber ∧ t.balance.pass = none ∧
      t.balance.spacing =
        (if p.decisions.shedMade || p.decisions.restored.isSome then 0 else Nat.min 60 (s.balance.spacing + 1)) ∧
      (∀ c : Slot, t.balance.results.discarded.get c = true ↔
        (s.claims.get c).epoch ≠ (p.snapshot.claims.get c).epoch) ∧
      (∀ i : Fin 6, t.balance.results.slotRates.get i = (slot i).rate) ∧
      t.balance.results =
        { passNumber := wrapSucc 65535 s.balance.passNumber, period := p.period, active := s.policy.active
          band := p.handed.band, pRaw := p.measured.pRaw, pF := p.measured.pF
          distributable := p.snapshot.distributable, kind := p.decisions.kind, steps := p.decisions.steps
          pushed := p.decisions.pushed.length, restored := p.decisions.restored
          admitted := p.decisions.admitted, sumCeilings := p.decisions.sumCeilings
          sumAllotments := p.decisions.sumAllotments, call := p.decisions.call, demand := p.decisions.demand
          discarded := t.balance.results.discarded, source := p.sampled.source, level := s.holder.level
          a1Fault := (s.channels.get chA1).fault, slotRates := t.balance.results.slotRates } ∧
      t.balance.timer = s.balance.timer ∧ t.balance.period = s.balance.period ∧
      t.flare = { s.flare with burnSeconds := 0, starts := 0 } ∧
      (∀ l : Line,
        t.totals.current.lineLitres.get l = Nat.min 4294967295 (s.totals.current.lineLitres.get l +
          (s.totals.lineRemainders.get l + (line l).volume) / 1000) ∧
        t.totals.lineRemainders.get l = (s.totals.lineRemainders.get l + (line l).volume) % 1000) ∧
      (∀ i : Fin 6,
        t.totals.current.slotLitres.get i = Nat.min 4294967295 (s.totals.current.slotLitres.get i +
          (s.totals.slotRemainders.get i + (slot i).volume) / 1000) ∧
        t.totals.slotRemainders.get i = (s.totals.slotRemainders.get i + (slot i).volume) % 1000 ∧
        t.totals.current.slotKwh.get i = Nat.min 4294967295 (s.totals.current.slotKwh.get i +
          (s.totals.energyRemainders.get i + (slot i).energy) / 3600000) ∧
        t.totals.energyRemainders.get i = (s.totals.energyRemainders.get i + (slot i).energy) % 3600000) ∧
      t.totals.current.burnSeconds =
        Nat.min 4294967295 (s.totals.current.burnSeconds + s.flare.burnSeconds) ∧
      t.totals.current.starts = Nat.min 65535 (s.totals.current.starts + s.flare.starts) ∧
      t.totals.current.passes = Nat.min 4294967295 (s.totals.current.passes + 1) ∧
      t.totals.current.start = s.totals.current.start ∧
      { t.totals with
        current := s.totals.current, lineRemainders := s.totals.lineRemainders
        slotRemainders := s.totals.slotRemainders, energyRemainders := s.totals.energyRemainders
        checkAgrees := s.totals.checkAgrees } = s.totals ∧
      FlowFollowed s t ∧ AlertsSameBut consumerStalls s t ∧
      { t with claims := s.claims, stack := s.stack, balance := s.balance, flare := s.flare, totals := s.totals,
               meters := s.meters, alerts := s.alerts } = s

/-! ## The flare sequencer (chapter 7) -/

/-- R123, R125 to R127, R129, R130, R132: a FLARE_STATUS is answered DONE in every state and recorded; a proven flame
ends an ignition in BURNING with a start counted; a flame lost or an attempt failed is retried below the attempts
setting and ends in FAILED at it, out of CALLED and BURNING alike; out of HOLDING it ends in OFF without an attempt;
in OFF a ready burner takes up a waiting call. -/
def Obligations.FlareStatusActsByState : Prop :=
  ∀ (flame ready fault : Bool) (s : State), s.supplied = true →
    let f := s.flare
    let proven := flame && !fault
    ∃ t, exec (.flareStatus 6 flame ready fault) s = .next t ∧ answerStatus 6 t = some .done ∧
      PortsSameBut 6 s t ∧ t.flare.report = ⟨flame, ready, fault⟩ ∧
      (f.state = .off → f.heldCall = true → f.permit = true → ready = true → fault = false →
        t.flare = { f with report := ⟨flame, ready, fault⟩, state := .called, attempts := 1
                           ignition := some 0, demand := f.heldDemand } ∧ t.alerts = s.alerts) ∧
      (f.state = .off → ¬(f.heldCall = true ∧ f.permit = true ∧ ready = true ∧ fault = false) →
        t.flare = { f with report := ⟨flame, ready, fault⟩ } ∧ t.alerts = s.alerts) ∧
      (f.state = .called → proven = true →
        t.flare = { f with report := ⟨flame, ready, fault⟩, state := .burning, ignition := none
                           starts := f.starts + 1 } ∧ AlertEnded .flareRetry s t) ∧
      (f.state = .burning → proven = true →
        t.flare = { f with report := ⟨flame, ready, fault⟩ } ∧ t.alerts = s.alerts) ∧
      (f.state = .called ∨ f.state = .burning → proven = false → f.attempts < s.config.flareAttempts →
        t.flare = { f with report := ⟨flame, ready, fault⟩, state := .called, attempts := f.attempts + 1
                           ignition := some 0 } ∧
        alertState .flareRetry t = .active ∧ t.policy = s.policy) ∧
      (f.state = .called ∨ f.state = .burning → proven = false → s.config.flareAttempts ≤ f.attempts →
        t.flare = { f with report := ⟨flame, ready, fault⟩, state := .failed, ignition := none, demand := 0 } ∧
        AlertEnded .flareRetry s t ∧ alertState .flareFailed t = .active ∧
        t.policy = { s.policy with
          switch := fireBindings s.config.bindings s.policy.active .flareFailed s.policy.switch }) ∧
      (f.state = .holding → proven = false →
        t.flare = { f with report := ⟨flame, ready, fault⟩, state := .off, demand := 0, attempts := 0
                           ignition := none, minBurn := none } ∧ t.alerts = s.alerts) ∧
      (f.state = .holding ∧ proven = true ∨ f.state = .failed →
        t.flare = { f with report := ⟨flame, ready, fault⟩ } ∧ t.alerts = s.alerts) ∧
      MetersSameBut flareMeter s t ∧ FlowFollowed s t ∧
      AlertsSameBut [.flareRetry, .flareFailed, .meterStall flareMeter] s t ∧
      t.policy.active = s.policy.active ∧
      { t with flare := s.flare, meters := s.meters, alerts := s.alerts, policy := s.policy
               ports := s.ports } = s

/-- R127, R128, R130 to R132, R136: an ignition timer that has run for the ignition timeout in CALLED ends an attempt, a
minimum-burn timer that has run for the minimum burn in HOLDING enters OFF, and each whole second of burn time adds
one burn second. A timer short of its setting, as one a retry or a CONFIGURE has just moved, does not expire; that the
command then changes nothing, as in every other state, is the model's choice (notes/assumptions/4.md). -/
def Obligations.FlareTimersAct : Prop :=
  ∀ s : State, s.supplied = true →
    let lit := s.flare.state = .called ∧ HasRun s.flare.ignition (s.config.ignitionTimeout * 1000)
    let held := s.flare.state = .holding ∧ HasRun s.flare.minBurn (s.config.minBurn * 1000)
    (lit → s.flare.attempts < s.config.flareAttempts →
      ∃ t, exec .ignitionTimerExpiry s = .next t ∧
        t.flare = { s.flare with attempts := s.flare.attempts + 1, ignition := some 0 } ∧
        alertState .flareRetry t = .active ∧ AlertsSameBut [.flareRetry] s t ∧
        { t with flare := s.flare, alerts := s.alerts } = s) ∧
    (lit → s.config.flareAttempts ≤ s.flare.attempts →
      ∃ t, exec .ignitionTimerExpiry s = .next t ∧
        t.flare = { s.flare with state := .failed, ignition := none, demand := 0 } ∧
        AlertEnded .flareRetry s t ∧ alertState .flareFailed t = .active ∧
        AlertsSameBut [.flareRetry, .flareFailed] s t ∧
        t.policy = { s.policy with
          switch := fireBindings s.config.bindings s.policy.active .flareFailed s.policy.switch } ∧
        { t with flare := s.flare, alerts := s.alerts, policy := s.policy } = s) ∧
    (¬lit → exec .ignitionTimerExpiry s = .next s) ∧
    (held →
      ∃ t, exec .minimumBurnTimerExpiry s = .next t ∧
        t.flare = { s.flare with state := .off, demand := 0, attempts := 0, ignition := none, minBurn := none } ∧
        { t with flare := s.flare } = s) ∧
    (¬held → exec .minimumBurnTimerExpiry s = .next s) ∧
    (1000 ≤ s.flare.burnMs →
      ∃ t, exec .burnTimeSecond s = .next t ∧
        t.flare = { s.flare with burnMs := 0, burnSeconds := s.flare.burnSeconds + 1 } ∧
        { t with flare := s.flare } = s) ∧
    (s.flare.burnMs < 1000 → exec .burnTimeSecond s = .next s)

/-- R133, R134: both are allowed on link 0 alone. FLARE_RESET takes FAILED to OFF, or at once to CALLED where the start
conditions hold, and ends FLARE_FAILED, whose record stays latched and keeps the alarm relay de-energized; in any other state it is refused. FLARE_PERMIT is always DONE: set, it takes
up a waiting call; cleared, it takes CALLED, BURNING and HOLDING to OFF at once; a value already held changes
nothing. -/
def Obligations.ResetAndPermitAct : Prop :=
  ∀ s : State, s.supplied = true →
    let f := s.flare
    let lit := f.heldCall = true ∧ f.report.ready = true ∧ f.report.fault = false
    (∀ l : Link, l ≠ 0 → AnsweredUnchanged (.flareReset l) l .refusedAuthority s ∧
      ∀ on : Bool, AnsweredUnchanged (.flarePermit l on) l .refusedAuthority s) ∧
    (f.state ≠ .failed → AnsweredUnchanged (.flareReset 0) 0 .refusedState s) ∧
    (f.state = .failed →
      ∃ t, exec (.flareReset 0) s = .next t ∧ answerStatus 0 t = some .done ∧ PortsSameBut 0 s t ∧
        (lit → f.permit = true → t.flare =
          { f with state := .called, attempts := 1, ignition := some 0, demand := f.heldDemand }) ∧
        (¬(lit ∧ f.permit = true) → t.flare = { f with state := .off, attempts := 0, demand := 0 }) ∧
        AlertFollows .flareFailed true false s t ∧ AlertsSameBut [.flareFailed] s t ∧
        (alertState .flareFailed s ≠ .clear → ¬relayHeld t) ∧
        { t with flare := s.flare, alerts := s.alerts, ports := s.ports } = s) ∧
    AnsweredUnchanged (.flarePermit 0 f.permit) 0 .done s ∧
    (f.permit = false →
      ∃ t, exec (.flarePermit 0 true) s = .next t ∧ answerStatus 0 t = some .done ∧ PortsSameBut 0 s t ∧
        (f.state = .off → lit → t.flare =
          { f with permit := true, state := .called, attempts := 1, ignition := some 0
                   demand := f.heldDemand }) ∧
        (f.state ≠ .off ∨ ¬lit → t.flare = { f with permit := true }) ∧
        { t with flare := s.flare, ports := s.ports } = s) ∧
    (f.permit = true →
      ∃ t, exec (.flarePermit 0 false) s = .next t ∧ answerStatus 0 t = some .done ∧ PortsSameBut 0 s t ∧
        (f.state = .called ∨ f.state = .burning ∨ f.state = .holding →
          t.flare = { f with permit := false, state := .off, demand := 0, attempts := 0, ignition := none
                             minBurn := none } ∧ AlertEnded .flareRetry s t) ∧
        (f.state = .off ∨ f.state = .failed → t.flare = { f with permit := false } ∧ t.alerts = s.alerts) ∧
        MetersSameBut flareMeter s t ∧ FlowFollowed s t ∧
        AlertsSameBut [.flareRetry, .meterStall flareMeter] s t ∧
        { t with flare := s.flare, meters := s.meters, alerts := s.alerts, ports := s.ports } = s)

/-! ## Policy banks (chapter 8) -/

/-- R140, R141: SWITCH_BANK is allowed on link 0 alone, and is served during a save too. It sets the pending switch to
a bank that is not active, cancels it for the active bank, and refuses a bank above 3. -/
def Obligations.SwitchBankSetsOrCancels : Prop :=
  ∀ (bank : Nat) (s : State), s.supplied = true →
    (∀ l : Link, l ≠ 0 → AnsweredUnchanged (.switchBank l bank) l .refusedAuthority s) ∧
    (3 < bank → AnsweredUnchanged (.switchBank 0 bank) 0 .refusedUnknown s) ∧
    ∀ b : BankNo, bank = b.val →
      ∃ t, exec (.switchBank 0 bank) s = .next t ∧ answerStatus 0 t = some .done ∧ PortsSameBut 0 s t ∧
        t.policy = { s.policy with switch := if b = s.policy.active then none else some b } ∧
        { t with policy := s.policy, ports := s.ports } = s

/-- R143 to R148: WRITE_ROW, SET_RANK and the three geometry items are refused BUSY during a save, REFUSED_UNKNOWN
for a bank, slot or row that is not in use, BANK_ACTIVE and BANK_PENDING, in that order, and otherwise change the one
bank they name, clamped to its ranges, and move its change count. Such a write is answered CLAMPED where a value was
clamped, or where a narrower W lowers H, and DONE otherwise. -/
def Obligations.BankWritesAreCheckedAndCounted : Prop :=
  ∀ (i : Instr) (bank : Nat) (s : State), s.supplied = true →
    ((∃ row rec, i = .writeRow 0 bank row rec) ∨ (∃ slot rank, i = .setRank 0 bank slot rank) ∨
      ∃ which value, i = .configureBandGeometry 0 bank which value) →
    (s.store.saving ≠ none → AnsweredUnchanged i 0 .busy s) ∧
    (s.store.saving = none →
      (3 < bank → AnsweredUnchanged i 0 .refusedUnknown s) ∧
      ∀ b : BankNo, bank = b.val →
        let old := s.config.banks.get b
        ((∀ row rec, i = .writeRow 0 bank row rec → ¬(row < old.count ∧ row < 16 ∨ row = 16) →
            AnsweredUnchanged i 0 .refusedUnknown s) ∧
          (∀ slot rank, i = .setRank 0 bank slot rank → (slot = 0 ∨ 5 < slot) →
            AnsweredUnchanged i 0 .refusedUnknown s)) ∧
        ((∀ row rec, i = .writeRow 0 bank row rec → row < old.count ∧ row < 16 ∨ row = 16) →
          (∀ slot rank, i = .setRank 0 bank slot rank → 1 ≤ slot ∧ slot ≤ 5) →
          (s.policy.active = b → AnsweredUnchanged i 0 .bankActive s) ∧
          (s.policy.active ≠ b → s.policy.switch = some b → AnsweredUnchanged i 0 .bankPending s) ∧
          (s.policy.active ≠ b → s.policy.switch ≠ some b →
            ∃ t, exec i s = .next t ∧
              PortsSameBut 0 s t ∧ (BankInRange old → BankInRange (t.config.banks.get b)) ∧
              (∀ row rec, i = .writeRow 0 bank row rec →
                bankRow (t.config.banks.get b) row =
                  { rec with
                    trim := max (-5000) (min 5000 rec.trim), steps := Nat.min 8 rec.steps
                    admissionMargin := Nat.min 5000 rec.admissionMargin
                    restoreMargin := Nat.min 5000 rec.restoreMargin
                    shedStep := Nat.max 1 (Nat.min 5000 rec.shedStep) } ∧
                answerStatus 0 t = some (if RowInRange rec then .done else .clamped) ∧
                (∀ other, other ≠ row → other ≤ 16 →
                  bankRow (t.config.banks.get b) other = bankRow old other) ∧
                (t.config.banks.get b).ranks = old.ranks ∧ (t.config.banks.get b).count = old.count ∧
                (t.config.banks.get b).width = old.width ∧
                (t.config.banks.get b).hysteresis = old.hysteresis) ∧
              (∀ slot rank, i = .setRank 0 bank slot rank → ∀ c : Slot, slot = c.val + 1 →
                t.config.banks.get b =
                  { old with ranks := old.ranks.set c (Nat.max 1 (Nat.min 8 rank)) } ∧
                answerStatus 0 t = some (if 1 ≤ rank ∧ rank ≤ 8 then .done else .clamped)) ∧
              (∀ which value, i = .configureBandGeometry 0 bank which value →
                t.config.banks.get b =
                  match which with
                  | .count => { old with count := (max 1 (min 16 value)).toNat }
                  | .width => { old with width := (max 10 (min 250 value)).toNat
                                         hysteresis := Nat.min old.hysteresis
                                           ((max 10 (min 250 value)).toNat / 2) }
                  | .hysteresis => { old with
                      hysteresis := (max 0 (min ((old.width / 2 : Nat) : Int) value)).toNat }) ∧
              (∀ which value, i = .configureBandGeometry 0 bank which value →
                answerStatus 0 t = some
                  (match which with
                  | .count => if within 1 16 value then .done else .clamped
                  | .width =>
                    if within 10 250 value ∧ old.hysteresis ≤ value.toNat / 2 then .done else .clamped
                  | .hysteresis => if within 0 ((old.width / 2 : Nat) : Int) value then .done else .clamped)) ∧
              (∀ d : BankNo, d ≠ b → t.config.banks.get d = s.config.banks.get d ∧
                t.policy.changes.get d = s.policy.changes.get d) ∧
              t.policy.changes.get b = wrapSucc 255 (s.policy.changes.get b) ∧
              { t.policy with changes := s.policy.changes } = s.policy ∧
              { t.config with banks := s.config.banks } = s.config ∧
              { t with config := s.config, policy := s.policy, ports := s.ports } = s)))

/-- R77, R149, R151: an event binding is refused BUSY during a save and REFUSED_UNKNOWN for a number, source or bank
that does not exist, and otherwise replaces the binding alone; SET_LIMITS is refused alike, and otherwise writes the
clamped max to every named claim that is not VACANT, lowering m, r and the allotment to fit. -/
def Obligations.BindingsAndLimitsAreWritten : Prop :=
  ∀ s : State, s.supplied = true →
    (∀ (number : Nat) (value : Int),
      (s.store.saving ≠ none → AnsweredUnchanged (.configureEventBinding 0 number value) 0 .busy s) ∧
      (s.store.saving = none → number = 0 ∨ 6 < number ∨ bindingOf value = none →
        AnsweredUnchanged (.configureEventBinding 0 number value) 0 .refusedUnknown s) ∧
      ∀ (n : Fin 6) (new : Option Binding), s.store.saving = none → number = n.val + 1 →
        (new = none → value = -1) →
        (∀ x, new = some x → value = ((x.source.code * 256 + x.bank.val : Nat) : Int)) →
        ∃ t, exec (.configureEventBinding 0 number value) s = .next t ∧ answerStatus 0 t = some .done ∧
          PortsSameBut 0 s t ∧ t.config = { s.config with bindings := s.config.bindings.set n new } ∧
          { t with config := s.config, ports := s.ports } = s) ∧
    ∀ (mask max : Nat),
      (s.store.saving ≠ none → AnsweredUnchanged (.setLimits 0 mask max) 0 .busy s) ∧
      (s.store.saving = none → mask = 0 ∨ 32 ≤ mask →
        AnsweredUnchanged (.setLimits 0 mask max) 0 .refusedUnknown s) ∧
      (s.store.saving = none → 0 < mask → mask < 32 →
        let x := Nat.max 1 (Nat.min 5000 max)
        ∃ t, exec (.setLimits 0 mask max) s = .next t ∧
          answerStatus 0 t = some (if x = max then .done else .clamped) ∧ PortsSameBut 0 s t ∧
          (∀ c : Slot, mask.testBit c.val = false ∨ (s.claims.get c).state = .vacant →
            t.claims.get c = s.claims.get c) ∧
          (∀ (c : Slot) (k : Limits), mask.testBit c.val = true → (s.claims.get c).state ≠ .vacant →
            (s.claims.get c).limits = some k →
            (t.claims.get c).limits = some { m := Nat.min k.m x, x := x, u := k.u } ∧
            (t.claims.get c).request = (s.claims.get c).request.map (clampNat (Nat.min k.m x) x) ∧
            ((s.claims.get c).state = .admitted →
              (t.claims.get c).allotment = Nat.min (s.claims.get c).allotment (Nat.min k.m x)) ∧
            ((s.claims.get c).state = .running →
              (t.claims.get c).allotment =
                Nat.min (s.claims.get c).allotment (Nat.min (((t.claims.get c).request).getD 0) x)) ∧
            ((s.claims.get c).state ≠ .admitted → (s.claims.get c).state ≠ .running →
              (t.claims.get c).allotment = (s.claims.get c).allotment) ∧
            { t.claims.get c with
              limits := some k, request := (s.claims.get c).request, allotment := (s.claims.get c).allotment
              epoch := (s.claims.get c).epoch } = s.claims.get c) ∧
          FlowFollowed s t ∧ (∀ m : Meter, m.val < 6 ∨ m = flareMeter → t.meters.get m = s.meters.get m) ∧
          AlertsSameBut consumerStalls s t ∧
          { t with claims := s.claims, meters := s.meters, alerts := s.alerts, ports := s.ports } = s)

/-- A number as it travels in a field of `width` bytes, most significant byte first; one that does not fit is sent at
the end of the field's range (R166). -/
def field (width n : Nat) : List Byte :=
  (List.range width).map fun k => BitVec.ofNat 8 (Nat.min n (256 ^ width - 1) / 256 ^ (width - 1 - k))

/-- A signed number in a field of `width` bytes, in two's complement; one that does not fit is sent at the nearer end
(R166). -/
def signedField (width : Nat) (v : Int) : List Byte :=
  let half : Int := 256 ^ width / 2
  let fit := max (-half) (min (half - 1) v)
  field width (if fit < 0 then fit + 256 ^ width else fit).toNat

/-- A flag: 1 where it is set (R166). -/
def flagField (b : Bool) : List Byte := field 1 (if b then 1 else 0)

/-- A field that may be absent, and is then all ones (R166). -/
def optionalField (width : Nat) (v : Option Nat) : List Byte :=
  match v with
  | some n => field width n
  | none => List.replicate width 255

/-- The seconds a timer has run, 0xFFFF where it is stopped (R166). That the part of a second is rounded down is the
model's choice (notes/assumptions/32.md). -/
def secondsField (t : Timer) : List Byte := optionalField 2 (t.map fun ms => ms / 1000)

/-- One field for each entry of a table, in order. -/
def eachField {n : Nat} {α : Type} (t : Tab n α) (f : α → List Byte) : List Byte :=
  (List.finRange n).flatMap fun i => f (t.get i)

/-- A claim state, coded from 0 in the order the manual lists them (R166). -/
def claimStateField (st : ClaimState) : List Byte :=
  field 1 ([ClaimState.vacant, .idle, .waiting, .admitted, .running, .shed, .locked, .lapsed].idxOf st)

/-- A flare state, coded likewise. -/
def flareStateField (st : FlareState) : List Byte :=
  field 1 ([FlareState.off, .called, .burning, .holding, .failed].idxOf st)

/-- A quality source state, coded likewise. -/
def sourceField (q : QualitySource) : List Byte := field 1 ([QualitySource.live, .held, .substituted].idxOf q)

/-- A band index, 16 for the fall-through row (R47). -/
def bandField (b : Band) : List Byte :=
  match b with
  | .row n => field 1 n
  | .fallThrough => field 1 16

/-- A claim slot as 1 to 5, or none (R166). -/
def slotField (c : Option Slot) : List Byte := optionalField 1 (c.map fun c => c.val + 1)

/-- A lock cause set (section 9.5). -/
def locksField (k : Locks) : List Byte :=
  let bit := fun (b : Bool) (v : Nat) => if b then v else 0
  field 1 (bit k.sour 1 + bit k.gasRoom 2 + bit k.estop 4 + bit k.held 8)

/-- The ceiling of a claim record (R58). -/
def recordCeiling (c : Claim) : Nat :=
  match c.request, c.limits with
  | some r, some k => Nat.min r k.x - c.withheld
  | _, _ => 0

/-- The slot summary of section 9.5: claim state, allotment, ceiling, withheld amount, lock cause set, soft. -/
def slotSummaryBytes (c : Claim) : List Byte :=
  claimStateField c.state ++ field 2 c.allotment ++ field 2 (recordCeiling c) ++ field 4 c.withheld ++
    locksField c.locks ++ flagField c.soft

/-- The flare summary of section 9.5: held call, demand, state, attempt count, permit. -/
def flareSummaryBytes (f : Flare) : List Byte :=
  flagField f.heldCall ++ field 2 f.demand ++ flareStateField f.state ++ field 1 f.attempts ++ flagField f.permit

/-- The figures of READ_CLAIM in the order of R81, kind 0 for an engine and 1 for the boiler. -/
def claimBytes (s : State) (c : Slot) : List Byte :=
  let r := s.claims.get c
  claimStateField r.state ++ field 1 (if c.val = 4 then 1 else 0) ++
    optionalField 2 (r.limits.map fun k => k.m) ++ optionalField 2 (r.limits.map fun k => k.x) ++
    optionalField 2 (r.limits.map fun k => k.u) ++ optionalField 2 r.request ++ flagField r.standing ++
    field 4 r.withheld ++ field 4 r.orphaned ++ field 2 (recordCeiling r) ++ field 2 r.allotment ++
    flagField r.soft ++ locksField r.locks ++ secondsField r.lease ++ secondsField r.start ++ field 2 r.lastRate ++
    field 2 r.epoch ++ field 1 (s.stack.records.filter fun x => x.slot = c).length

/-- The figures of READ_STACK in the order of R119: depth, overflow flag, change count, the orphaned amounts, and up to
five records from the position downwards. -/
def stackBytes (s : State) (position : Nat) : List Byte :=
  field 1 s.stack.records.length ++ flagField (decide (alertState .stackOverflow s = .active)) ++
    field 1 s.stack.changes ++ eachField s.claims (fun c => field 4 c.orphaned) ++
    (List.range 5).flatMap fun k =>
      match s.stack.records[position + k]? with
      | some r =>
        field 1 (position + k) ++ slotField (some r.slot) ++
          field 1 (match r.kind with | .trim => 0 | .whole => 1) ++ field 2 r.amount ++ bandField r.band ++
          field 2 r.passNumber ++ flagField r.pending
      | none => []

/-- The source code of an event binding: 1 to 7 in the order of the table in R149 (R175). -/
def bindingField (b : Option Binding) : List Byte :=
  let order : List Source := [.k2, .k3, .k4, .sour, .substituted, .flareFailed, .mismatch]
  match b with
  | some b => field 1 (order.idxOf b.source + 1) ++ field 1 b.bank.val
  | none => [255, 255]

/-- The figures of READ_BANK in the order of R148, the row record in that of R139. -/
def bankBytes (s : State) (b : BankNo) (row : Nat) : List Byte :=
  let k := s.config.banks.get b
  let r := if h : row < 16 then k.rows.get ⟨row, h⟩ else k.fall
  field 1 k.count ++ field 2 k.width ++ field 2 k.hysteresis ++ eachField k.ranks (field 1) ++
    (signedField 2 r.trim ++ field 1 r.steps ++ flagField r.restore ++ flagField r.admits ++ flagField r.flare ++
      flagField r.cutAll ++ field 2 r.admissionMargin ++ field 2 r.restoreMargin ++ field 2 r.shedStep) ++
    field 1 (s.policy.changes.get b) ++ field 1 s.policy.active.val ++
    optionalField 1 (s.policy.switch.map fun b => b.val) ++ bandField s.holder.band ++
    eachField s.config.bindings bindingField

/-- The figures of READ_TOTALS in the order of R172. -/
def totalsBytes (k : Totals) (g : GasDay) (group : Nat) : List Byte :=
  let date := fun y m d => field 2 y ++ field 1 m ++ field 1 d
  if group = 0 then
    (match g.start with | some d => date d.year d.month d.day | none => List.replicate 4 255) ++
      field 4 g.burnSeconds ++ field 2 g.starts ++ field 4 g.passes ++
      (date k.clock.year k.clock.month k.clock.day ++ field 1 k.clock.hour ++ field 1 k.clock.minute ++
        field 1 k.clock.second) ++ flagField k.clockUnset ++ field 1 k.hourCopy
  else if group = 1 then eachField g.lineLitres (field 4)
  else if group = 2 then eachField g.slotLitres (field 4)
  else eachField g.slotKwh (field 4)

/-- The figures of READ_STATUS groups 0 to 4 on link 0, in the order of R108, R160 and R137. -/
def statusBytes (s : State) (group : Nat) : List Byte :=
  let r := s.balance.results
  let h := s.holder
  let q := s.quality
  let f := s.flare
  let kinds : List ShedReport := [.none, .steps, .cutAll, .pressureLow]
  if group = 0 then
    field 2 r.passNumber ++ field 2 r.period ++ field 1 r.active.val ++ bandField r.band ++ field 2 r.pRaw ++
      field 2 r.pF ++ field 2 r.distributable ++ field 1 (kinds.idxOf r.kind) ++ field 1 r.steps ++
      field 1 r.pushed ++ slotField r.restored ++ slotField r.admitted ++ field 2 r.sumCeilings ++
      field 2 r.sumAllotments ++ flagField r.call ++ field 2 r.demand ++
      field 1 (allSlots.map fun c => if r.discarded.get c then 2 ^ c.val else 0).sum ++ sourceField r.source
  else if group = 1 then
    field 2 r.level ++ flagField r.a1Fault ++ field 4 h.inventory ++ signedField 4 h.deltaI ++ bandField h.band ++
      signedField 4 h.accumulator ++ field 2 h.window ++ flagField h.mismatch ++ flagField h.overfill ++
      flagField h.pressureHigh ++ flagField h.pressureLow ++ eachField s.channels (fun a => signedField 2 a.reading) ++
      eachField s.channels (fun a => flagField a.fault) ++ eachField s.contacts (fun k => flagField k.debounced)
  else if group = 2 then
    sourceField q.source ++ field 2 q.ch4 ++ field 2 q.h2s ++ secondsField q.hold ++ flagField q.sour ++
      field 1 q.high ++ field 1 q.low ++ eachField s.meters (fun m => flagField m.stalled) ++ field 2 r.pRaw ++
      eachField r.slotRates (field 2)
  else if group = 3 then
    flareStateField f.state ++ flagField f.permit ++ field 1 f.attempts ++ flagField f.heldCall ++
      field 2 f.heldDemand ++ field 2 f.demand ++ secondsField f.ignition ++ secondsField f.minBurn ++
      flagField f.report.flame ++ flagField f.report.ready ++ flagField f.report.fault
  else
    (allSlots.flatMap fun c => slotSummaryBytes (s.claims.get c)) ++ field 1 s.policy.active.val ++
      optionalField 1 (s.policy.switch.map fun b => b.val) ++ field 1 s.stack.records.length ++
      flagField (decide (alertState .stackOverflow s = .active))

/-- The payload of READ_STATUS group 5 (section 9.5): record n in bit n mod 8 of byte n / 8, eight bytes of active and
eight of latched indications, and the relay. -/
def alertsReported (s : State) (payload : List Byte) : Prop :=
  payload.length = 17 ∧
  (∀ n : Fin 58,
    ((payload.getD (n.val / 8) 0).getLsbD (n.val % 8) = true ↔ s.alerts.get n = .active) ∧
    ((payload.getD (8 + n.val / 8) 0).getLsbD (n.val % 8) = true ↔ s.alerts.get n ≠ .clear)) ∧
  (∀ k, 2 ≤ k → (payload.getD 7 0).getLsbD k = false ∧ (payload.getD 15 0).getLsbD k = false) ∧
  (relayHeld s → payload.getD 16 0 = 1) ∧ (¬relayHeld s → payload.getD 16 0 = 0)

/-- R81, R119, R148, R159, R160, R172: a read is answered DONE with its figures after the link's summary and changes
nothing; a slot, position, bank, row, record or group that does not exist or is not in use is refused. R166: the figures
of each read are sent in the order its serving rule lists them, in the widths of their kinds, and the slot summary, the
flare summary and READ_STATUS group 5 in the layout of section 9.5. Where R166 leaves a width or an order open (a binding,
a set of slots, the flags of a row and of group 1, shed and claim kinds, an H2S value, the readings), the layout is the
model's choice (notes/assumptions/23.md), and so is that a timer's seconds are rounded down (notes/assumptions/32.md). -/
def Obligations.ReadsAnswerAndChangeNothing : Prop :=
  ∀ s : State, s.supplied = true →
    (∀ c : Slot, ∃ t, exec (.readClaim 0 (c.val + 1)) s = .next t ∧ answerStatus 0 t = some .done ∧
      answerPayload 0 t = some (claimBytes s c) ∧ PortsSameBut 0 s t ∧ { t with ports := s.ports } = s) ∧
    (∀ slot, slot = 0 ∨ 5 < slot → AnsweredUnchanged (.readClaim 0 slot) 0 .refusedUnknown s) ∧
    (∀ position, position ≤ 15 → ∃ t, exec (.readStack 0 position) s = .next t ∧
      answerStatus 0 t = some .done ∧ answerPayload 0 t = some (stackBytes s position) ∧
      PortsSameBut 0 s t ∧ { t with ports := s.ports } = s) ∧
    (∀ position, 15 < position → AnsweredUnchanged (.readStack 0 position) 0 .refusedUnknown s) ∧
    (∀ (b : BankNo) (row : Nat), row < (s.config.banks.get b).count ∧ row < 16 ∨ row = 16 →
      ∃ t, exec (.readBank 0 b.val row) s = .next t ∧ answerStatus 0 t = some .done ∧
        answerPayload 0 t = some (bankBytes s b row) ∧ PortsSameBut 0 s t ∧ { t with ports := s.ports } = s) ∧
    (∀ (bank row : Nat), (3 < bank ∨ ∃ b : BankNo, bank = b.val ∧
        ¬(row < (s.config.banks.get b).count ∧ row < 16 ∨ row = 16)) →
      AnsweredUnchanged (.readBank 0 bank row) 0 .refusedUnknown s) ∧
    (∀ record group, record ≤ 1 → group ≤ 3 → ∃ t, exec (.readTotals 0 record group) s = .next t ∧
      answerStatus 0 t = some .done ∧
      answerPayload 0 t =
        some (totalsBytes s.totals (if record = 0 then s.totals.current else s.totals.previous) group) ∧
      PortsSameBut 0 s t ∧ { t with ports := s.ports } = s) ∧
    (∀ record group, 1 < record ∨ 3 < group → AnsweredUnchanged (.readTotals 0 record group) 0 .refusedUnknown s) ∧
    (∀ group, group ≤ 5 → ∃ t payload, exec (.readStatus 0 group) s = .next t ∧ answerStatus 0 t = some .done ∧
      answerPayload 0 t = some payload ∧ (group = 5 → alertsReported s payload) ∧
      (group ≠ 5 → payload = statusBytes s group) ∧
      PortsSameBut 0 s t ∧ { t with ports := s.ports } = s) ∧
    (∀ group, 5 < group → AnsweredUnchanged (.readStatus 0 group) 0 .refusedUnknown s) ∧
    (∀ (l : Link) (group : Nat), l ≠ 0 → ∃ t payload, exec (.readStatus l group) s = .next t ∧
      answerStatus l t = some .done ∧ answerPayload l t = some payload ∧
      (∀ c : Slot, l.val = c.val + 1 → payload = slotSummaryBytes (s.claims.get c)) ∧
      (l = 6 → payload = flareSummaryBytes s.flare) ∧ PortsSameBut l s t ∧ { t with ports := s.ports } = s)

/-! ## Configuration, starts and the supply (chapter 11) -/

/-- What a setting that has just been written, with a value other than the one held, does at once, and that it does
nothing else (R6, R23, R24, R61, R67, R122, R128, R131, R170): a running timer that has already run for the new time
expires, with the effect its own expiry has; one that has not runs on. -/
def settingActs (k : Setting) (s t : State) : Prop :=
  match k with
  | .lease =>
    (∀ c : Slot,
      let old := s.claims.get c
      let expired := leased old.state = true ∧ HasRun old.lease (t.config.lease * 1000)
      (expired → alertState (.lapse c) t = .active ∧ slotCount c t.stack.records = 0 ∧
        t.claims.get c =
          { idleRecord old with state := .lapsed, request := old.request, standing := old.standing }) ∧
      (¬expired → alertState (.lapse c) t = alertState (.lapse c) s ∧ t.claims.get c = old ∧
        t.stack.records.filter (fun r => r.slot = c) = s.stack.records.filter (fun r => r.slot = c))) ∧
    FlowFollowed s t ∧ AlertsSameBut (allSlots.map .lapse ++ consumerStalls) s t ∧
    { t with config := s.config, claims := s.claims, stack := s.stack, meters := s.meters, alerts := s.alerts
             ports := s.ports } = s
  | .startTimeout =>
    (∀ c : Slot,
      let old := s.claims.get c
      let expired := old.state = .admitted ∧ HasRun old.start (t.config.startTimeout * 1000)
      (expired → alertState (.startFail c) t = .active ∧ slotCount c t.stack.records = 0 ∧
        t.claims.get c = idleRecord old) ∧
      (¬expired → alertState (.startFail c) t = alertState (.startFail c) s ∧ t.claims.get c = old ∧
        t.stack.records.filter (fun r => r.slot = c) = s.stack.records.filter (fun r => r.slot = c))) ∧
    AlertsSameBut (allSlots.map .startFail) s t ∧
    { t with config := s.config, claims := s.claims, stack := s.stack, alerts := s.alerts, ports := s.ports } = s
  | .stallTime =>
    (∀ m : Meter,
      (HasRun (s.meters.get m).stallTimer (t.config.stallTime * 1000) →
        t.meters.get m = { s.meters.get m with stallTimer := none, stalled := true, recovery := 0, hold := 0 } ∧
        alertState (.meterStall m) t = .active) ∧
      (¬HasRun (s.meters.get m).stallTimer (t.config.stallTime * 1000) →
        t.meters.get m = s.meters.get m ∧ alertState (.meterStall m) t = alertState (.meterStall m) s)) ∧
    (∀ n : Fin 58, 12 ≤ n.val → t.alerts.get n = s.alerts.get n) ∧
    { t with config := s.config, meters := s.meters, alerts := s.alerts, ports := s.ports } = s
  | .qualityHold =>
    let expired := s.quality.source = .held ∧ HasRun s.quality.hold (t.config.qualityHold * 1000)
    (expired →
      t.quality = { s.quality with source := .substituted, ch4 := s.config.defaultCh4, h2s := s.config.defaultH2s
                                   hold := none } ∧
      alertState .qualitySubstituted t = .active ∧ AlertEnded .qualityHeld s t ∧
      AlertsSameBut [.qualitySubstituted, .qualityHeld] s t ∧
      t.policy = { s.policy with
        switch := fireBindings s.config.bindings s.policy.active .substituted s.policy.switch } ∧
      { t with config := s.config, quality := s.quality, alerts := s.alerts, policy := s.policy
               ports := s.ports } = s) ∧
    (¬expired → { t with config := s.config, ports := s.ports } = s)
  | .defaultCh4 | .defaultH2s =>
    (s.quality.source = .substituted →
      t.quality = { s.quality with ch4 := t.config.defaultCh4, h2s := t.config.defaultH2s }) ∧
    (s.quality.source ≠ .substituted → t.quality = s.quality) ∧
    { t with config := s.config, quality := s.quality, ports := s.ports } = s
  | .flareMin | .flareMax =>
    let fit := fun v => Nat.max t.config.flareMin (Nat.min t.config.flareMax v)
    t.flare = { s.flare with
      heldDemand := if s.flare.heldDemand = 0 then 0 else fit s.flare.heldDemand
      demand := match s.flare.state with
        | .called | .burning => fit s.flare.demand
        | .holding => t.config.flareMin
        | .off | .failed => s.flare.demand } ∧
    { t with config := s.config, flare := s.flare, ports := s.ports } = s
  | .ignitionTimeout =>
    let expired := s.flare.state = .called ∧ HasRun s.flare.ignition (t.config.ignitionTimeout * 1000)
    (expired → s.flare.attempts < s.config.flareAttempts →
      t.flare = { s.flare with attempts := s.flare.attempts + 1, ignition := some 0 } ∧
      alertState .flareRetry t = .active ∧ AlertsSameBut [.flareRetry] s t ∧ t.policy = s.policy) ∧
    (expired → s.config.flareAttempts ≤ s.flare.attempts →
      t.flare = { s.flare with state := .failed, ignition := none, demand := 0 } ∧
      AlertEnded .flareRetry s t ∧ alertState .flareFailed t = .active ∧
      AlertsSameBut [.flareRetry, .flareFailed] s t ∧
      t.policy = { s.policy with
        switch := fireBindings s.config.bindings s.policy.active .flareFailed s.policy.switch }) ∧
    (¬expired → t.flare = s.flare ∧ t.alerts = s.alerts ∧ t.policy = s.policy) ∧
    { t with config := s.config, flare := s.flare, alerts := s.alerts, policy := s.policy, ports := s.ports } = s
  | .minBurn =>
    let expired := s.flare.state = .holding ∧ HasRun s.flare.minBurn (t.config.minBurn * 1000)
    (expired → t.flare =
      { s.flare with state := .off, demand := 0, attempts := 0, ignition := none, minBurn := none }) ∧
    (¬expired → t.flare = s.flare) ∧ { t with config := s.config, flare := s.flare, ports := s.ports } = s
  | .gasDayHour =>
    t.totals = { s.totals with hourCopy := t.config.gasDayHour, checkAgrees := true } ∧
    { t with config := s.config, totals := s.totals, ports := s.ports } = s
  | .period | .stallHold | .defaultTemp | .sourLimit | .sourHysteresis | .sourPersistence | .filterShift
  | .restoreSpacing | .balanceWindow | .balanceTolerance | .pressureHigh | .pressureLow | .flareAttempts
  | .siteLimit | .ambient | .capacity => { t with config := s.config, ports := s.ports } = s

/-- R175: CONFIGURE of a setting is refused BUSY during a save and REFUSED_STATE where the clamped value would break
a pair; otherwise the clamped value is written at once, the status tells whether it was clamped, no other setting
moves, and the stored copy is not touched. What the new value does at once is `settingActs`. An item that is not in the
table is refused. R11, R31: a meter factor is clamped to 1–100,000; a channel's lo or hi is clamped to its quantity's
range and refused where lo would not be below hi; neither touches a reading. -/
def Obligations.ConfigureWritesOneClampedSetting : Prop :=
  ∀ (item : Nat) (value : Int) (s : State), s.supplied = true →
    (s.store.saving ≠ none → AnsweredUnchanged (.configure 0 item value) 0 .busy s) ∧
    (s.store.saving = none → geometryItem item = none → bindingItem item = none → itemOf item = none →
      AnsweredUnchanged (.configure 0 item value) 0 .refusedUnknown s) ∧
    (s.store.saving = none → geometryItem item = none → bindingItem item = none →
      ∀ k : Setting, settingOf item = some k →
        let v := max (settingRange k).1 (min (settingRange k).2 value)
        (pairHolds (putSetting s.config v k) k = false →
          AnsweredUnchanged (.configure 0 item value) 0 .refusedState s) ∧
        (pairHolds (putSetting s.config v k) k = true →
          ∃ t, exec (.configure 0 item value) s = .next t ∧
            answerStatus 0 t = some (if v = value then .done else .clamped) ∧ PortsSameBut 0 s t ∧
            (v ≠ readSetting s.config k → t.config = putSetting s.config v k ∧
              (WithheldAccounted s → settingActs k s t)) ∧
            (v = readSetting s.config k → { t with ports := s.ports } = s) ∧
            (k = .gasDayHour → v ≠ readSetting s.config k → t.totals.hourCopy = v.toNat) ∧
            t.store = s.store ∧ t.holder = s.holder ∧ t.channels = s.channels ∧ t.contacts = s.contacts ∧
            t.balance = s.balance ∧ t.normalizer = s.normalizer ∧ t.loops = s.loops)) ∧
    (s.store.saving = none → ∀ m : Meter, item = 0x101 + m.val →
      let v := max 1 (min 100000 value)
      ∃ t, exec (.configure 0 item value) s = .next t ∧
        answerStatus 0 t = some (if v = value then .done else .clamped) ∧ PortsSameBut 0 s t ∧
        t.config = { s.config with factors := s.config.factors.set m v.toNat } ∧
        { t with config := s.config, ports := s.ports } = s) ∧
    (s.store.saving = none → ∀ (a : Channel) (high : Bool), item = (if high then 0x131 else 0x121) + a.val →
      let v := max (fullRanges.get a).lo (min (fullRanges.get a).hi value)
      let lo := if high then (s.config.ranges.get a).lo else v
      let hi := if high then v else (s.config.ranges.get a).hi
      (hi ≤ lo → AnsweredUnchanged (.configure 0 item value) 0 .refusedState s) ∧
      (lo < hi →
        ∃ t, exec (.configure 0 item value) s = .next t ∧
          answerStatus 0 t = some (if v = value then .done else .clamped) ∧ PortsSameBut 0 s t ∧
          t.config = { s.config with ranges := s.config.ranges.set a ⟨lo, hi⟩ } ∧
          { t with config := s.config, ports := s.ports } = s))

/-- R4, R10, R33: clearing or setting a line-in-use flag sets the line's counter, recovery count, hold count, held
line rate and carry to 0, ends its stall and overrun, and stops or starts its stall timer; a value already held
changes nothing, and a value outside 0–1 is refused. R41: a pass in flight goes on as it was, but for the note that the
line's carry and held line rate are no longer its to write (notes/assumptions/17.md). -/
def Obligations.LineInUseFlagActsOnItsLine : Prop :=
  ∀ (line : Line) (value : Int) (s : State), s.supplied = true → s.store.saving = none →
    (value ≠ 0 → value ≠ 1 →
      AnsweredUnchanged (.configure 0 (0x111 + line.val) value) 0 .refusedUnknown s) ∧
    ∀ inUse : Bool, value = (if inUse then 1 else 0) →
      (s.config.inUse.get line = inUse → AnsweredUnchanged (.configure 0 (0x111 + line.val) value) 0 .done s) ∧
      (s.config.inUse.get line ≠ inUse →
        ∃ t, exec (.configure 0 (0x111 + line.val) value) s = .next t ∧ answerStatus 0 t = some .done ∧
          PortsSameBut 0 s t ∧ t.config = { s.config with inUse := s.config.inUse.set line inUse } ∧
          t.meters.get (lineMeter line) =
            { count := 0, stallTimer := if inUse then some 0 else none, stalled := false, recovery := 0
              hold := 0, heldRate := 0 } ∧
          MetersSameBut (lineMeter line) s t ∧
          t.normalizer = { s.normalizer with carries := s.normalizer.carries.set (lineMeter line) 0 } ∧
          AlertEnded (.meterStall (lineMeter line)) s t ∧
          AlertEnded (.counterOverrun (lineMeter line)) s t ∧
          AlertsSameBut [.meterStall (lineMeter line), .counterOverrun (lineMeter line)] s t ∧
          (s.balance.pass = none → t.balance = s.balance) ∧
          (∀ p, s.balance.pass = some p → t.balance =
            { s.balance with pass := some { p with sampled :=
                { p.sampled with lineChanged := p.sampled.lineChanged.set line true } } }) ∧
          { t with config := s.config, meters := s.meters, normalizer := s.normalizer, alerts := s.alerts
                   balance := s.balance, ports := s.ports } = s)

/-- The state every start leaves (R18, R27, R57, R82, R84, R108, R120, R138, R152, R153, R164, R165, R178), `s` being the
state before it and `t` after, and `kept` the last good values the start begins with (R18). Epochs of 0 beside a lock
cause formed at the start follow R82 (notes/assumptions/13.md); the results record beyond R108's words, and the order in
which start onsets fire their bindings, are the model's choices (notes/assumptions/24.md, 5.md). -/
def startLeaves (kept : Channel → Int) (amps : Currents) (s t : State) : Prop :=
  t.supplied = true ∧ t.loops = amps ∧ t.restartPending = false ∧ t.pending = s.pending ∧
  (∀ k : Contact, t.contacts.get k =
    { raw := (s.contacts.get k).raw, debounced := (s.contacts.get k).raw, timer := none }) ∧
  (∀ a : Channel, t.channels.get a = sampleChannel (classify (t.config.ranges.get a) (amps.get a))
    { reading := kept a, fault := false, recovery := 0, lastGood := kept a }) ∧
  (∀ c : Slot, t.claims.get c =
    { vacantClaim with locks :=
        { sour := false, gasRoom := (s.contacts.get conK2).raw
          estop := (s.contacts.get conK4).raw && decide (c.val < 4), held := false } }) ∧
  t.stack = { records := [], changes := 0 } ∧ t.flare = startFlare ∧ (∀ l : Link, t.ports.get l = huntPort) ∧
  t.policy.active = 0 ∧
  (∃ order : List Source,
    order.Perm
      ((if (s.contacts.get conK2).raw then [.k2] else []) ++ (if (s.contacts.get conK3).raw then [.k3] else []) ++
        (if (s.contacts.get conK4).raw then [.k4] else []) ++
        if t.quality.source = .substituted then [.substituted] else []) ∧
    t.policy.switch = order.foldl (fun switch x => fireBindings t.config.bindings 0 x switch) none) ∧
  t.balance =
    { timer := 0, period := t.config.period, passNumber := 0, spacing := 0, pass := none
      results :=
        { passNumber := 0, period := t.config.period, active := 0, band := t.holder.band, pRaw := 0, pF := 0
          distributable := 0, kind := .none, steps := 0, pushed := 0, restored := none, admitted := none
          sumCeilings := 0, sumAllotments := 0, call := false, demand := 0, discarded := Tab.fill 5 false
          source := t.quality.source, level := t.holder.level, a1Fault := (t.channels.get chA1).fault
          slotRates := Tab.fill 6 0 } } ∧
  t.normalizer = { carries := Tab.fill 12 0, filtered := 0 } ∧
  (∀ m : Meter, t.meters.get m =
    { count := 0, stalled := false, recovery := 0, hold := 0, heldRate := 0
      stallTimer := if flowExpected t m then some 0 else none }) ∧
  (t.quality.source = .live ↔ (s.contacts.get conK1).raw = true ∧ (t.channels.get chA4).fault = false ∧
    (t.channels.get chA5).fault = false ∧ within 300 900 (t.channels.get chA4).reading) ∧
  (t.quality.source = .live → t.quality.ch4 = (t.channels.get chA4).reading.toNat ∧
    t.quality.h2s = (t.channels.get chA5).reading.toNat) ∧
  (t.quality.source ≠ .live → t.quality.source = .substituted ∧ t.quality.ch4 = t.config.defaultCh4 ∧
    t.quality.h2s = t.config.defaultH2s) ∧
  t.quality.hold = none ∧ t.quality.sour = false ∧ t.quality.high = 0 ∧ t.quality.low = 0 ∧
  t.holder.level = (t.channels.get chA1).reading.toNat ∧ t.holder.prevLevel = t.holder.level ∧
  t.holder.inventory = t.config.capacity * t.holder.level * t.quality.ch4 * 35880 / 1000000 ∧
  t.holder.deltaI = 0 ∧ t.holder.accumulator = 0 ∧ t.holder.window = 0 ∧ t.holder.mismatch = false ∧
  t.holder.band = recomputeBand (t.config.banks.get 0) t.holder.level ∧
  (t.holder.overfill = true ↔ (s.contacts.get conK3).raw = true ∨ t.holder.band = .fallThrough) ∧
  (t.holder.pressureHigh = true ↔ (t.channels.get chA2).fault = false ∧
    (t.config.pressureHigh : Int) ≤ (t.channels.get chA2).reading) ∧
  (t.holder.pressureLow = true ↔ (t.channels.get chA2).fault = false ∧
    (t.channels.get chA2).reading < (t.config.pressureLow : Int)) ∧
  (∀ n : Fin 58, t.alerts.get n ≠ .latched) ∧
  (alertState .gasRoom t = .active ↔ (s.contacts.get conK2).raw = true) ∧
  (alertState .estop t = .active ↔ (s.contacts.get conK4).raw = true) ∧
  (alertState .qualitySubstituted t = .active ↔ t.quality.source = .substituted) ∧
  (alertState .holderOverfill t = .active ↔ t.holder.overfill = true) ∧
  (alertState .pressureHigh t = .active ↔ t.holder.pressureHigh = true) ∧
  (alertState .configDefaulted t = .active ↔ t.store.defaulted = true) ∧
  (alertState .totalsLost t = .active ↔ t.totals.clockUnset = true) ∧
  (alertState .holderLow t = .active ↔ t.holder.band = .row 0) ∧
  (∀ a : Channel, alertState (.channelFault a) t = .active ↔ (t.channels.get a).fault = true) ∧
  (∀ n : Fin 58,
    n ∉ ((List.finRange 5).map Alert.channelFault ++ [Alert.gasRoom, Alert.estop, Alert.qualitySubstituted,
      Alert.holderOverfill, Alert.pressureHigh, Alert.configDefaulted, Alert.totalsLost,
      Alert.holderLow]).map alertNumber → t.alerts.get n = .clear) ∧
  t.totals.hourCopy = t.config.gasDayHour

/-- R85, R156, R164, R173, R177: a supply failure abandons the pass and the save and de-energizes the relay; the
power-on start loads the stored copy if its check value agrees and the defaults otherwise, sets the bank change
counts to 0, and keeps or resets the totals. R18: it begins with last good values of A1's and A2's lower ends and the
defaults of A3, A4 and A5. What the examinations find is an operand of the command, the currents of the start sample are
another, and the state a supply failure leaves behind is the model's choice (notes/assumptions/7.md, 8.md, 10.md); so are
that either command acts whether the part was supplied or not (notes/assumptions/11.md), and that a reset totals store
begins its clock's running second anew (notes/assumptions/21.md). -/
def Obligations.SupplyFailureAndPowerOnStart : Prop :=
  (∀ s : State, ∃ t, exec .powerFail s = .next t ∧ t.supplied = false ∧ t.balance.pass = none ∧
    t.store = { s.store with saving := none } ∧ ¬relayHeld t ∧ relayEnergized t = false ∧ t.totals = s.totals ∧
    (∀ l : Link, (t.ports.get l).state = .hunt)) ∧
  ∀ (amps : Currents) (cellLow totalsAgree configAgrees : Bool) (s : State),
    ∃ t, exec (.powerOnStart amps cellLow totalsAgree configAgrees) s = .next t ∧
      startLeaves (fun a =>
          if a = chA1 ∨ a = chA2 then (t.config.ranges.get a).lo
          else if a = chA3 then t.config.defaultTemp
          else if a = chA4 then t.config.defaultCh4 else t.config.defaultH2s) amps s t ∧
      (s.store.checkAgrees = true → configAgrees = true →
        t.config = s.store.stored ∧ t.store.defaulted = false) ∧
      (s.store.checkAgrees = false ∨ configAgrees = false → t.config = defaultConfig ∧ t.store.defaulted = true) ∧
      t.store.saving = none ∧ t.store.stored = s.store.stored ∧ (∀ b : BankNo, t.policy.changes.get b = 0) ∧
      (cellLow = false → s.totals.checkAgrees = true → totalsAgree = true →
        { t.totals with hourCopy := s.totals.hourCopy } = s.totals) ∧
      (cellLow = true ∨ s.totals.checkAgrees = false ∨ totalsAgree = false →
        t.totals = resetTotals t.config.gasDayHour)

/-- R176: SAVE_CONFIG is answered DONE at once and begins a save, or BUSY during one; the save's end writes the
stored copy and its check value, clears the defaulted flag and ends CONFIG_DEFAULTED. R156, R178: RESTART is answered
DONE and leaves the part running; the restart takes place once its answer has been sent and no save is in flight,
whatever other answer link 0 is sending, the refusal of a malformed RESTART too, keeping the working configuration, the bank change counts, the last good values
(R18) and the totals, and until then nothing happens. That the stored copy's check value disagrees throughout a save,
that a save's end without a save changes nothing, and that the answer of a second RESTART is waited for too are the
model's choices (notes/assumptions/4.md, 7.md, 25.md). -/
def Obligations.SaveAndRestartAct : Prop :=
  (∀ s : State, s.supplied = true →
    (s.store.saving ≠ none → AnsweredUnchanged (.saveConfig 0) 0 .busy s) ∧
    (s.store.saving = none →
      ∃ t, exec (.saveConfig 0) s = .next t ∧ answerStatus 0 t = some .done ∧ PortsSameBut 0 s t ∧
        t.store.saving = some 0 ∧ t.store.stored = s.config ∧ t.store.checkAgrees = false ∧
        t.store.defaulted = s.store.defaulted ∧ { t with store := s.store, ports := s.ports } = s) ∧
    (s.store.saving ≠ none →
      ∃ t, exec .saveEnd s = .next t ∧
        t.store = { s.store with checkAgrees := true, saving := none, defaulted := false } ∧
        AlertEnded .configDefaulted s t ∧ AlertsSameBut [.configDefaulted] s t ∧
        { t with store := s.store, alerts := s.alerts } = s) ∧
    (s.store.saving = none → exec .saveEnd s = .next s)) ∧
  ∀ s : State, s.supplied = true →
    let sending := (s.ports.get 0).state = .send ∧ ∃ a, (s.ports.get 0).answer = some a ∧ a.code = 0x46 ∧ a.status = .done
    (∃ t, exec (.restart 0) s = .next t ∧ answerStatus 0 t = some .done ∧ PortsSameBut 0 s t ∧
      t.restartPending = true ∧ { t with restartPending := s.restartPending, ports := s.ports } = s) ∧
    ∀ amps : Currents,
      (s.restartPending = true → s.store.saving = none → ¬sending →
        ∃ t, exec (.restartTakesPlace amps) s = .next t ∧
          startLeaves (fun a => (s.channels.get a).lastGood) amps s t ∧ t.config = s.config ∧
          t.store = s.store ∧ t.policy.changes = s.policy.changes ∧
          { t.totals with hourCopy := s.totals.hourCopy, checkAgrees := s.totals.checkAgrees } = s.totals) ∧
      (s.restartPending = false ∨ s.store.saving ≠ none ∨ sending →
        exec (.restartTakesPlace amps) s = .next s)

/-! ## Links, alerts and the clock (chapters 9 and 10) -/

/-- R153: what each byte does to a port. In HUNT only 0xA5 begins reception; in RECEIVE with a frame not yet complete
0xA5 begins anew, 0x5A discards, the escape byte waits for its second, a bad second byte or a length above 48
discards, and any other byte is added with the gap timer restarted; in HOLD and SEND every byte is ignored. No other
port moves. -/
def Obligations.BytesMoveThePortAsTabled : Prop :=
  ∀ (l : Link) (b : Byte) (s : State), s.supplied = true →
    let p := s.ports.get l
    ∃ t, exec (.byteReceived l b) s = .next t ∧ PortsSameBut l s t ∧ { t with ports := s.ports } = s ∧
      (p.state = .hold ∨ p.state = .send ∨ (p.state = .hunt ∧ b ≠ 0xA5) → t.ports.get l = p) ∧
      (p.state = .hunt → b = 0xA5 →
        t.ports.get l = { p with state := .receive, body := [], escaped := false, gap := some 0 }) ∧
      (p.state = .receive → frameComplete p.body = false →
        (b = 0xA5 → t.ports.get l = { p with state := .receive, body := [], escaped := false, gap := some 0 }) ∧
        (p.escaped = false → b = 0x5A → (t.ports.get l).state = .hunt) ∧
        (p.escaped = false → b = 0xA6 → t.ports.get l = { p with escaped := true, gap := some 0 }) ∧
        (p.escaped = true → b ≠ 0x01 → b ≠ 0x02 → b ≠ 0x03 → b ≠ 0xA5 → (t.ports.get l).state = .hunt) ∧
        (∀ v : Byte,
          (p.escaped = false ∧ b ≠ 0xA5 ∧ b ≠ 0xA6 ∧ b ≠ 0x5A ∧ v = b) ∨
          (p.escaped = true ∧ (b = 0x01 ∧ v = 0xA5 ∨ b = 0x02 ∧ v = 0xA6 ∨ b = 0x03 ∧ v = 0x5A)) →
          (p.body.length = 2 → 48 < v.toNat → (t.ports.get l).state = .hunt) ∧
          (p.body.length ≠ 2 ∨ v.toNat ≤ 48 →
            t.ports.get l = { p with body := p.body ++ [v], escaped := false, gap := some 0 })))

/-- R153, R154, R156, R157: a complete frame with a wrong CRC or a foreign link number is discarded and reaches no
block; a valid one restarts its slot's running lease whatever becomes of its request. A known code that the link may not
send is answered REFUSED_AUTHORITY at once and a payload of another form REFUSED_UNKNOWN at once, and the port begins to
send; a request that passes the checks, and an unknown code, waits in HOLD as it was sent. A gap of more than 5 ms
discards a frame that is not complete; the last byte of an answer sent returns the port to HUNT; an unknown code is
answered REFUSED_UNKNOWN and changes nothing. That the first two answers are the check's own and the others a command's,
that an unknown code is answered whatever its port is doing, and that a gap command short of 5 ms changes nothing, are
the model's choices (notes/assumptions/28.md, 3.md, 4.md). -/
def Obligations.FramesAreCheckedAndPortsReturn : Prop :=
  ∀ (l : Link) (s : State), s.supplied = true →
    let p := s.ports.get l
    (p.state = .receive → frameComplete p.body = true →
      ∃ t, exec (.frameReceived l) s = .next t ∧ PortsSameBut l s t ∧
        (frameValid l p.body = false → (t.ports.get l).state = .hunt ∧ { t with ports := s.ports } = s) ∧
        (frameValid l p.body = true →
          (∀ (code : Byte) (payload : List Byte) (link n c1 c0 : Byte),
            p.body = [link, code, n] ++ payload ++ [c1, c0] →
            (codeKnown code.toNat = true → codeAllowed l code.toNat = false →
              (t.ports.get l).state = .send ∧ answerStatus l t = some .refusedAuthority) ∧
            (codeKnown code.toNat = true → codeAllowed l code.toNat = true →
              parseRequest l code.toNat payload = none →
              (t.ports.get l).state = .send ∧ answerStatus l t = some .refusedUnknown) ∧
            (codeKnown code.toNat = false ∨
                codeAllowed l code.toNat = true ∧ parseRequest l code.toNat payload ≠ none →
              (t.ports.get l).state = .hold ∧ (t.ports.get l).held = some ⟨code.toNat, payload⟩)) ∧
          (∀ c : Slot, linkSlot l = some c → leased (s.claims.get c).state = true →
            (s.claims.get c).lease ≠ none →
            t.claims.get c = { s.claims.get c with lease := some 0 }) ∧
          (∀ c : Slot, linkSlot l ≠ some c → t.claims.get c = s.claims.get c) ∧
          { t with claims := s.claims, ports := s.ports } = s)) ∧
    (p.state = .receive → frameComplete p.body = false → HasRun p.gap 6 →
      ∃ t, exec (.gapTimerExpiry l) s = .next t ∧ (t.ports.get l).state = .hunt ∧ (t.ports.get l).body = [] ∧
        PortsSameBut l s t ∧ { t with ports := s.ports } = s) ∧
    (p.state ≠ .receive ∨ ¬HasRun p.gap 6 → exec (.gapTimerExpiry l) s = .next s) ∧
    (p.state = .send →
      ∃ t, exec (.answerSent l) s = .next t ∧ (t.ports.get l).state = .hunt ∧ PortsSameBut l s t ∧
        { t with ports := s.ports } = s) ∧
    ∀ code : Nat, AnsweredUnchanged (.unknownRequest l code) l .refusedUnknown s

/-- R113, R161, R162: ACK_ALERTS, allowed on link 0 alone and served during a save too, clears every record that is
latched and not active and leaves every active one; the shed stack first ends STACK_OVERFLOW where its depth is below
16, and then that record is cleared too. -/
def Obligations.AckClearsWhatIsNotActive : Prop :=
  ∀ s : State, s.supplied = true →
    (∀ l : Link, l ≠ 0 → AnsweredUnchanged (.ackAlerts l) l .refusedAuthority s) ∧
    ∃ t, exec (.ackAlerts 0) s = .next t ∧ answerStatus 0 t = some .done ∧ PortsSameBut 0 s t ∧
      (∀ n : Fin 58, n ≠ alertNumber .stackOverflow →
        t.alerts.get n = if s.alerts.get n = .active then .active else .clear) ∧
      (s.stack.records.length < 16 → alertState .stackOverflow t = .clear) ∧
      (16 ≤ s.stack.records.length →
        alertState .stackOverflow t = if isActive .stackOverflow s then .active else .clear) ∧
      { t with alerts := s.alerts, ports := s.ports } = s

/-- The length of a month (R168). -/
def monthLength (year month : Nat) : Nat :=
  if month = 2 then (if year % 4 = 0 then 29 else 28)
  else if month = 4 ∨ month = 6 ∨ month = 9 ∨ month = 11 then 30 else 31

/-- A date and time that exists (R168). -/
def dateExists (d : DateTime) : Prop :=
  2000 ≤ d.year ∧ d.year ≤ 2099 ∧ 1 ≤ d.month ∧ d.month ≤ 12 ∧ 1 ≤ d.day ∧ d.day ≤ monthLength d.year d.month ∧
    d.hour ≤ 23 ∧ d.minute ≤ 59 ∧ d.second ≤ 59

/-- R168, R169: each second takes a clock that exists to the next second of the calendar, on the backup cell too, and
2099-12-31 23:59:59 to 2000-01-01 00:00:00. At the passage of the hour copy the current record becomes the previous one
and a cleared one opens with the clock's date, the remainders staying. SET_CLOCK writes a date that exists, clears the
clock-unset flag and ends TOTALS_LOST, leaving records and remainders, and is refused otherwise. That it begins the
clock's second anew is the model's choice (notes/assumptions/21.md). -/
def Obligations.ClockCountsRollsOverAndIsSet : Prop :=
  (∀ s : State,
    let d := s.totals.clock
    ∃ t, exec .clockSecond s = .next t ∧
      (dateExists d →
        dateExists t.totals.clock ∧
        t.totals.clock =
          (if d.second < 59 then { d with second := d.second + 1 }
          else if d.minute < 59 then { d with minute := d.minute + 1, second := 0 }
          else if d.hour < 23 then { d with hour := d.hour + 1, minute := 0, second := 0 }
          else if d.day < monthLength d.year d.month then
            ⟨d.year, d.month, d.day + 1, 0, 0, 0⟩
          else if d.month < 12 then ⟨d.year, d.month + 1, 1, 0, 0, 0⟩
          else if d.year < 2099 then ⟨d.year + 1, 1, 1, 0, 0, 0⟩
          else ⟨2000, 1, 1, 0, 0, 0⟩)) ∧
      (t.totals.clock.hour = s.totals.hourCopy → t.totals.clock.minute = 0 → t.totals.clock.second = 0 →
        t.totals.previous = s.totals.current ∧
        t.totals.current =
          { start := some ⟨t.totals.clock.year, t.totals.clock.month, t.totals.clock.day⟩
            lineLitres := Tab.fill 6 0, slotLitres := Tab.fill 6 0, slotKwh := Tab.fill 6 0
            burnSeconds := 0, starts := 0, passes := 0 }) ∧
      (¬(t.totals.clock.hour = s.totals.hourCopy ∧ t.totals.clock.minute = 0 ∧ t.totals.clock.second = 0) →
        t.totals.previous = s.totals.previous ∧ t.totals.current = s.totals.current) ∧
      t.totals.lineRemainders = s.totals.lineRemainders ∧ t.totals.slotRemainders = s.totals.slotRemainders ∧
      t.totals.energyRemainders = s.totals.energyRemainders ∧ t.totals.clockUnset = s.totals.clockUnset ∧
      t.totals.hourCopy = s.totals.hourCopy ∧ t.totals.clockMs = 0 ∧ t.totals.checkAgrees = true ∧
      { t with totals := s.totals } = s) ∧
  ∀ (d : DateTime) (s : State), s.supplied = true →
    (¬dateExists d → AnsweredUnchanged (.setClock 0 d) 0 .refusedUnknown s) ∧
    (dateExists d →
      ∃ t, exec (.setClock 0 d) s = .next t ∧ answerStatus 0 t = some .done ∧ PortsSameBut 0 s t ∧
        t.totals = { s.totals with clock := d, clockMs := 0, clockUnset := false, checkAgrees := true } ∧
        (s.totals.clockUnset = true → AlertEnded .totalsLost s t) ∧
        (s.totals.clockUnset = false → t.alerts = s.alerts) ∧ AlertsSameBut [.totalsLost] s t ∧
        { t with totals := s.totals, alerts := s.alerts, ports := s.ports } = s)
end

