-- ==== Sys2Proof/Laws/State.lean ====
section
/-! SUPPORT. One lemma per field of State per named update: what the field reads as after it. Each is true by
`rfl`, so that no proof unfolds a record update. -/

namespace Sys2Proof.Machine

open Sys2Proof

/-! ## `raise` -/

@[simp] theorem raise_supplied (a : Alert) (s : State) : (raise a s).supplied = s.supplied := rfl
@[simp] theorem raise_config (a : Alert) (s : State) : (raise a s).config = s.config := rfl
@[simp] theorem raise_store (a : Alert) (s : State) : (raise a s).store = s.store := rfl
@[simp] theorem raise_meters (a : Alert) (s : State) : (raise a s).meters = s.meters := rfl
@[simp] theorem raise_channels (a : Alert) (s : State) : (raise a s).channels = s.channels := rfl
@[simp] theorem raise_loops (a : Alert) (s : State) : (raise a s).loops = s.loops := rfl
@[simp] theorem raise_contacts (a : Alert) (s : State) : (raise a s).contacts = s.contacts := rfl
@[simp] theorem raise_quality (a : Alert) (s : State) : (raise a s).quality = s.quality := rfl
@[simp] theorem raise_normalizer (a : Alert) (s : State) : (raise a s).normalizer = s.normalizer := rfl
@[simp] theorem raise_holder (a : Alert) (s : State) : (raise a s).holder = s.holder := rfl
@[simp] theorem raise_claims (a : Alert) (s : State) : (raise a s).claims = s.claims := rfl
@[simp] theorem raise_stack (a : Alert) (s : State) : (raise a s).stack = s.stack := rfl
@[simp] theorem raise_balance (a : Alert) (s : State) : (raise a s).balance = s.balance := rfl
@[simp] theorem raise_flare (a : Alert) (s : State) : (raise a s).flare = s.flare := rfl
@[simp] theorem raise_policy (a : Alert) (s : State) : (raise a s).policy = s.policy := rfl
@[simp] theorem raise_ports (a : Alert) (s : State) : (raise a s).ports = s.ports := rfl
@[simp] theorem raise_alerts (a : Alert) (s : State) : (raise a s).alerts = alertOnset a s.alerts := rfl
@[simp] theorem raise_totals (a : Alert) (s : State) : (raise a s).totals = s.totals := rfl
@[simp] theorem raise_restartPending (a : Alert) (s : State) : (raise a s).restartPending = s.restartPending := rfl
@[simp] theorem raise_moments (a : Alert) (s : State) : (raise a s).moments = s.moments := rfl
@[simp] theorem raise_pending (a : Alert) (s : State) : (raise a s).pending = s.pending := rfl

/-! ## `lower` -/

@[simp] theorem lower_supplied (a : Alert) (s : State) : (lower a s).supplied = s.supplied := rfl
@[simp] theorem lower_config (a : Alert) (s : State) : (lower a s).config = s.config := rfl
@[simp] theorem lower_store (a : Alert) (s : State) : (lower a s).store = s.store := rfl
@[simp] theorem lower_meters (a : Alert) (s : State) : (lower a s).meters = s.meters := rfl
@[simp] theorem lower_channels (a : Alert) (s : State) : (lower a s).channels = s.channels := rfl
@[simp] theorem lower_loops (a : Alert) (s : State) : (lower a s).loops = s.loops := rfl
@[simp] theorem lower_contacts (a : Alert) (s : State) : (lower a s).contacts = s.contacts := rfl
@[simp] theorem lower_quality (a : Alert) (s : State) : (lower a s).quality = s.quality := rfl
@[simp] theorem lower_normalizer (a : Alert) (s : State) : (lower a s).normalizer = s.normalizer := rfl
@[simp] theorem lower_holder (a : Alert) (s : State) : (lower a s).holder = s.holder := rfl
@[simp] theorem lower_claims (a : Alert) (s : State) : (lower a s).claims = s.claims := rfl
@[simp] theorem lower_stack (a : Alert) (s : State) : (lower a s).stack = s.stack := rfl
@[simp] theorem lower_balance (a : Alert) (s : State) : (lower a s).balance = s.balance := rfl
@[simp] theorem lower_flare (a : Alert) (s : State) : (lower a s).flare = s.flare := rfl
@[simp] theorem lower_policy (a : Alert) (s : State) : (lower a s).policy = s.policy := rfl
@[simp] theorem lower_ports (a : Alert) (s : State) : (lower a s).ports = s.ports := rfl
@[simp] theorem lower_alerts (a : Alert) (s : State) : (lower a s).alerts = alertEnd a s.alerts := rfl
@[simp] theorem lower_totals (a : Alert) (s : State) : (lower a s).totals = s.totals := rfl
@[simp] theorem lower_restartPending (a : Alert) (s : State) : (lower a s).restartPending = s.restartPending := rfl
@[simp] theorem lower_moments (a : Alert) (s : State) : (lower a s).moments = s.moments := rfl
@[simp] theorem lower_pending (a : Alert) (s : State) : (lower a s).pending = s.pending := rfl

/-! ## `signal` -/

@[simp] theorem signal_supplied (x : Source) (s : State) : (signal x s).supplied = s.supplied := rfl
@[simp] theorem signal_config (x : Source) (s : State) : (signal x s).config = s.config := rfl
@[simp] theorem signal_store (x : Source) (s : State) : (signal x s).store = s.store := rfl
@[simp] theorem signal_meters (x : Source) (s : State) : (signal x s).meters = s.meters := rfl
@[simp] theorem signal_channels (x : Source) (s : State) : (signal x s).channels = s.channels := rfl
@[simp] theorem signal_loops (x : Source) (s : State) : (signal x s).loops = s.loops := rfl
@[simp] theorem signal_contacts (x : Source) (s : State) : (signal x s).contacts = s.contacts := rfl
@[simp] theorem signal_quality (x : Source) (s : State) : (signal x s).quality = s.quality := rfl
@[simp] theorem signal_normalizer (x : Source) (s : State) : (signal x s).normalizer = s.normalizer := rfl
@[simp] theorem signal_holder (x : Source) (s : State) : (signal x s).holder = s.holder := rfl
@[simp] theorem signal_claims (x : Source) (s : State) : (signal x s).claims = s.claims := rfl
@[simp] theorem signal_stack (x : Source) (s : State) : (signal x s).stack = s.stack := rfl
@[simp] theorem signal_balance (x : Source) (s : State) : (signal x s).balance = s.balance := rfl
@[simp] theorem signal_flare (x : Source) (s : State) : (signal x s).flare = s.flare := rfl
@[simp] theorem signal_policy (x : Source) (s : State) :
    (signal x s).policy =
      { s.policy with switch := fireBindings s.config.bindings s.policy.active x s.policy.switch } := rfl
@[simp] theorem signal_ports (x : Source) (s : State) : (signal x s).ports = s.ports := rfl
@[simp] theorem signal_alerts (x : Source) (s : State) : (signal x s).alerts = s.alerts := rfl
@[simp] theorem signal_totals (x : Source) (s : State) : (signal x s).totals = s.totals := rfl
@[simp] theorem signal_restartPending (x : Source) (s : State) : (signal x s).restartPending = s.restartPending := rfl
@[simp] theorem signal_moments (x : Source) (s : State) : (signal x s).moments = s.moments := rfl
@[simp] theorem signal_pending (x : Source) (s : State) : (signal x s).pending = s.pending := rfl

/-! ## `withFlare` -/

@[simp] theorem withFlare_supplied (f : Flare → Flare) (s : State) : (withFlare f s).supplied = s.supplied := rfl
@[simp] theorem withFlare_config (f : Flare → Flare) (s : State) : (withFlare f s).config = s.config := rfl
@[simp] theorem withFlare_store (f : Flare → Flare) (s : State) : (withFlare f s).store = s.store := rfl
@[simp] theorem withFlare_meters (f : Flare → Flare) (s : State) : (withFlare f s).meters = s.meters := rfl
@[simp] theorem withFlare_channels (f : Flare → Flare) (s : State) : (withFlare f s).channels = s.channels := rfl
@[simp] theorem withFlare_loops (f : Flare → Flare) (s : State) : (withFlare f s).loops = s.loops := rfl
@[simp] theorem withFlare_contacts (f : Flare → Flare) (s : State) : (withFlare f s).contacts = s.contacts := rfl
@[simp] theorem withFlare_quality (f : Flare → Flare) (s : State) : (withFlare f s).quality = s.quality := rfl
@[simp] theorem withFlare_normalizer (f : Flare → Flare) (s : State) :
    (withFlare f s).normalizer = s.normalizer := rfl
@[simp] theorem withFlare_holder (f : Flare → Flare) (s : State) : (withFlare f s).holder = s.holder := rfl
@[simp] theorem withFlare_claims (f : Flare → Flare) (s : State) : (withFlare f s).claims = s.claims := rfl
@[simp] theorem withFlare_stack (f : Flare → Flare) (s : State) : (withFlare f s).stack = s.stack := rfl
@[simp] theorem withFlare_balance (f : Flare → Flare) (s : State) : (withFlare f s).balance = s.balance := rfl
@[simp] theorem withFlare_flare (f : Flare → Flare) (s : State) : (withFlare f s).flare = f s.flare := rfl
@[simp] theorem withFlare_policy (f : Flare → Flare) (s : State) : (withFlare f s).policy = s.policy := rfl
@[simp] theorem withFlare_ports (f : Flare → Flare) (s : State) : (withFlare f s).ports = s.ports := rfl
@[simp] theorem withFlare_alerts (f : Flare → Flare) (s : State) : (withFlare f s).alerts = s.alerts := rfl
@[simp] theorem withFlare_totals (f : Flare → Flare) (s : State) : (withFlare f s).totals = s.totals := rfl
@[simp] theorem withFlare_restartPending (f : Flare → Flare) (s : State) :
    (withFlare f s).restartPending = s.restartPending := rfl
@[simp] theorem withFlare_moments (f : Flare → Flare) (s : State) : (withFlare f s).moments = s.moments := rfl
@[simp] theorem withFlare_pending (f : Flare → Flare) (s : State) : (withFlare f s).pending = s.pending := rfl

/-! ## `withPass` -/

@[simp] theorem withPass_supplied (p : Pass) (s : State) : (withPass p s).supplied = s.supplied := rfl
@[simp] theorem withPass_config (p : Pass) (s : State) : (withPass p s).config = s.config := rfl
@[simp] theorem withPass_store (p : Pass) (s : State) : (withPass p s).store = s.store := rfl
@[simp] theorem withPass_meters (p : Pass) (s : State) : (withPass p s).meters = s.meters := rfl
@[simp] theorem withPass_channels (p : Pass) (s : State) : (withPass p s).channels = s.channels := rfl
@[simp] theorem withPass_loops (p : Pass) (s : State) : (withPass p s).loops = s.loops := rfl
@[simp] theorem withPass_contacts (p : Pass) (s : State) : (withPass p s).contacts = s.contacts := rfl
@[simp] theorem withPass_quality (p : Pass) (s : State) : (withPass p s).quality = s.quality := rfl
@[simp] theorem withPass_normalizer (p : Pass) (s : State) : (withPass p s).normalizer = s.normalizer := rfl
@[simp] theorem withPass_holder (p : Pass) (s : State) : (withPass p s).holder = s.holder := rfl
@[simp] theorem withPass_claims (p : Pass) (s : State) : (withPass p s).claims = s.claims := rfl
@[simp] theorem withPass_stack (p : Pass) (s : State) : (withPass p s).stack = s.stack := rfl
@[simp] theorem withPass_balance (p : Pass) (s : State) :
    (withPass p s).balance = { s.balance with pass := some p } := rfl
@[simp] theorem withPass_flare (p : Pass) (s : State) : (withPass p s).flare = s.flare := rfl
@[simp] theorem withPass_policy (p : Pass) (s : State) : (withPass p s).policy = s.policy := rfl
@[simp] theorem withPass_ports (p : Pass) (s : State) : (withPass p s).ports = s.ports := rfl
@[simp] theorem withPass_alerts (p : Pass) (s : State) : (withPass p s).alerts = s.alerts := rfl
@[simp] theorem withPass_totals (p : Pass) (s : State) : (withPass p s).totals = s.totals := rfl
@[simp] theorem withPass_restartPending (p : Pass) (s : State) :
    (withPass p s).restartPending = s.restartPending := rfl
@[simp] theorem withPass_moments (p : Pass) (s : State) : (withPass p s).moments = s.moments := rfl
@[simp] theorem withPass_pending (p : Pass) (s : State) : (withPass p s).pending = s.pending := rfl

/-! ## `changeClaim` -/

@[simp] theorem changeClaim_supplied (c : Slot) (f : Claim → Claim) (s : State) :
    (changeClaim c f s).supplied = s.supplied := rfl
@[simp] theorem changeClaim_config (c : Slot) (f : Claim → Claim) (s : State) :
    (changeClaim c f s).config = s.config := rfl
@[simp] theorem changeClaim_store (c : Slot) (f : Claim → Claim) (s : State) :
    (changeClaim c f s).store = s.store := rfl
@[simp] theorem changeClaim_meters (c : Slot) (f : Claim → Claim) (s : State) :
    (changeClaim c f s).meters = s.meters := rfl
@[simp] theorem changeClaim_channels (c : Slot) (f : Claim → Claim) (s : State) :
    (changeClaim c f s).channels = s.channels := rfl
@[simp] theorem changeClaim_loops (c : Slot) (f : Claim → Claim) (s : State) :
    (changeClaim c f s).loops = s.loops := rfl
@[simp] theorem changeClaim_contacts (c : Slot) (f : Claim → Claim) (s : State) :
    (changeClaim c f s).contacts = s.contacts := rfl
@[simp] theorem changeClaim_quality (c : Slot) (f : Claim → Claim) (s : State) :
    (changeClaim c f s).quality = s.quality := rfl
@[simp] theorem changeClaim_normalizer (c : Slot) (f : Claim → Claim) (s : State) :
    (changeClaim c f s).normalizer = s.normalizer := rfl
@[simp] theorem changeClaim_holder (c : Slot) (f : Claim → Claim) (s : State) :
    (changeClaim c f s).holder = s.holder := rfl
@[simp] theorem changeClaim_claims (c : Slot) (f : Claim → Claim) (s : State) :
    (changeClaim c f s).claims = s.claims.set c (commit (s.claims.get c) (f (s.claims.get c))) := rfl
@[simp] theorem changeClaim_stack (c : Slot) (f : Claim → Claim) (s : State) :
    (changeClaim c f s).stack = s.stack := rfl
@[simp] theorem changeClaim_balance (c : Slot) (f : Claim → Claim) (s : State) :
    (changeClaim c f s).balance = s.balance := rfl
@[simp] theorem changeClaim_flare (c : Slot) (f : Claim → Claim) (s : State) :
    (changeClaim c f s).flare = s.flare := rfl
@[simp] theorem changeClaim_policy (c : Slot) (f : Claim → Claim) (s : State) :
    (changeClaim c f s).policy = s.policy := rfl
@[simp] theorem changeClaim_ports (c : Slot) (f : Claim → Claim) (s : State) :
    (changeClaim c f s).ports = s.ports := rfl
@[simp] theorem changeClaim_alerts (c : Slot) (f : Claim → Claim) (s : State) :
    (changeClaim c f s).alerts = s.alerts := rfl
@[simp] theorem changeClaim_totals (c : Slot) (f : Claim → Claim) (s : State) :
    (changeClaim c f s).totals = s.totals := rfl
@[simp] theorem changeClaim_restartPending (c : Slot) (f : Claim → Claim) (s : State) :
    (changeClaim c f s).restartPending = s.restartPending := rfl
@[simp] theorem changeClaim_moments (c : Slot) (f : Claim → Claim) (s : State) :
    (changeClaim c f s).moments = s.moments := rfl
@[simp] theorem changeClaim_pending (c : Slot) (f : Claim → Claim) (s : State) :
    (changeClaim c f s).pending = s.pending := rfl

/-! ## `changePurging` -/

@[simp] theorem changePurging_supplied (c : Slot) (f : Claim → Claim) (s : State) :
    (changePurging c f s).supplied = s.supplied := rfl
@[simp] theorem changePurging_config (c : Slot) (f : Claim → Claim) (s : State) :
    (changePurging c f s).config = s.config := rfl
@[simp] theorem changePurging_store (c : Slot) (f : Claim → Claim) (s : State) :
    (changePurging c f s).store = s.store := rfl
@[simp] theorem changePurging_meters (c : Slot) (f : Claim → Claim) (s : State) :
    (changePurging c f s).meters = s.meters := rfl
@[simp] theorem changePurging_channels (c : Slot) (f : Claim → Claim) (s : State) :
    (changePurging c f s).channels = s.channels := rfl
@[simp] theorem changePurging_loops (c : Slot) (f : Claim → Claim) (s : State) :
    (changePurging c f s).loops = s.loops := rfl
@[simp] theorem changePurging_contacts (c : Slot) (f : Claim → Claim) (s : State) :
    (changePurging c f s).contacts = s.contacts := rfl
@[simp] theorem changePurging_quality (c : Slot) (f : Claim → Claim) (s : State) :
    (changePurging c f s).quality = s.quality := rfl
@[simp] theorem changePurging_normalizer (c : Slot) (f : Claim → Claim) (s : State) :
    (changePurging c f s).normalizer = s.normalizer := rfl
@[simp] theorem changePurging_holder (c : Slot) (f : Claim → Claim) (s : State) :
    (changePurging c f s).holder = s.holder := rfl
@[simp] theorem changePurging_claims (c : Slot) (f : Claim → Claim) (s : State) :
    (changePurging c f s).claims =
      s.claims.set c (commit (s.claims.get c) (f (purged (slotSum c s.stack.records) (s.claims.get c)))) := rfl
@[simp] theorem changePurging_stack (c : Slot) (f : Claim → Claim) (s : State) :
    (changePurging c f s).stack = dropRecords (fun r => r.slot = c) s.stack := rfl
@[simp] theorem changePurging_balance (c : Slot) (f : Claim → Claim) (s : State) :
    (changePurging c f s).balance = s.balance := rfl
@[simp] theorem changePurging_flare (c : Slot) (f : Claim → Claim) (s : State) :
    (changePurging c f s).flare = s.flare := rfl
@[simp] theorem changePurging_policy (c : Slot) (f : Claim → Claim) (s : State) :
    (changePurging c f s).policy = s.policy := rfl
@[simp] theorem changePurging_ports (c : Slot) (f : Claim → Claim) (s : State) :
    (changePurging c f s).ports = s.ports := rfl
@[simp] theorem changePurging_alerts (c : Slot) (f : Claim → Claim) (s : State) :
    (changePurging c f s).alerts = s.alerts := rfl
@[simp] theorem changePurging_totals (c : Slot) (f : Claim → Claim) (s : State) :
    (changePurging c f s).totals = s.totals := rfl
@[simp] theorem changePurging_restartPending (c : Slot) (f : Claim → Claim) (s : State) :
    (changePurging c f s).restartPending = s.restartPending := rfl
@[simp] theorem changePurging_moments (c : Slot) (f : Claim → Claim) (s : State) :
    (changePurging c f s).moments = s.moments := rfl
@[simp] theorem changePurging_pending (c : Slot) (f : Claim → Claim) (s : State) :
    (changePurging c f s).pending = s.pending := rfl

/-! ## `popRecord` -/

@[simp] theorem popRecord_supplied (r : ShedRecord) (rest : List ShedRecord) (s : State) :
    (popRecord r rest s).supplied = s.supplied := rfl
@[simp] theorem popRecord_config (r : ShedRecord) (rest : List ShedRecord) (s : State) :
    (popRecord r rest s).config = s.config := rfl
@[simp] theorem popRecord_store (r : ShedRecord) (rest : List ShedRecord) (s : State) :
    (popRecord r rest s).store = s.store := rfl
@[simp] theorem popRecord_meters (r : ShedRecord) (rest : List ShedRecord) (s : State) :
    (popRecord r rest s).meters = s.meters := rfl
@[simp] theorem popRecord_channels (r : ShedRecord) (rest : List ShedRecord) (s : State) :
    (popRecord r rest s).channels = s.channels := rfl
@[simp] theorem popRecord_loops (r : ShedRecord) (rest : List ShedRecord) (s : State) :
    (popRecord r rest s).loops = s.loops := rfl
@[simp] theorem popRecord_contacts (r : ShedRecord) (rest : List ShedRecord) (s : State) :
    (popRecord r rest s).contacts = s.contacts := rfl
@[simp] theorem popRecord_quality (r : ShedRecord) (rest : List ShedRecord) (s : State) :
    (popRecord r rest s).quality = s.quality := rfl
@[simp] theorem popRecord_normalizer (r : ShedRecord) (rest : List ShedRecord) (s : State) :
    (popRecord r rest s).normalizer = s.normalizer := rfl
@[simp] theorem popRecord_holder (r : ShedRecord) (rest : List ShedRecord) (s : State) :
    (popRecord r rest s).holder = s.holder := rfl
@[simp] theorem popRecord_claims (r : ShedRecord) (rest : List ShedRecord) (s : State) :
    (popRecord r rest s).claims = s.claims.modify r.slot fun c => { c with withheld := c.withheld - r.amount } := rfl
@[simp] theorem popRecord_stack (r : ShedRecord) (rest : List ShedRecord) (s : State) :
    (popRecord r rest s).stack = { records := rest, changes := wrapSucc 255 s.stack.changes } := rfl
@[simp] theorem popRecord_balance (r : ShedRecord) (rest : List ShedRecord) (s : State) :
    (popRecord r rest s).balance = s.balance := rfl
@[simp] theorem popRecord_flare (r : ShedRecord) (rest : List ShedRecord) (s : State) :
    (popRecord r rest s).flare = s.flare := rfl
@[simp] theorem popRecord_policy (r : ShedRecord) (rest : List ShedRecord) (s : State) :
    (popRecord r rest s).policy = s.policy := rfl
@[simp] theorem popRecord_ports (r : ShedRecord) (rest : List ShedRecord) (s : State) :
    (popRecord r rest s).ports = s.ports := rfl
@[simp] theorem popRecord_alerts (r : ShedRecord) (rest : List ShedRecord) (s : State) :
    (popRecord r rest s).alerts = s.alerts := rfl
@[simp] theorem popRecord_totals (r : ShedRecord) (rest : List ShedRecord) (s : State) :
    (popRecord r rest s).totals = s.totals := rfl
@[simp] theorem popRecord_restartPending (r : ShedRecord) (rest : List ShedRecord) (s : State) :
    (popRecord r rest s).restartPending = s.restartPending := rfl
@[simp] theorem popRecord_moments (r : ShedRecord) (rest : List ShedRecord) (s : State) :
    (popRecord r rest s).moments = s.moments := rfl
@[simp] theorem popRecord_pending (r : ShedRecord) (rest : List ShedRecord) (s : State) :
    (popRecord r rest s).pending = s.pending := rfl

/-! ## `respond` -/

@[simp] theorem respond_supplied (l : Link) (code : Nat) (st : Status) (figures : List Byte) (s : State) :
    (respond l code st figures s).supplied = s.supplied := rfl
@[simp] theorem respond_config (l : Link) (code : Nat) (st : Status) (figures : List Byte) (s : State) :
    (respond l code st figures s).config = s.config := rfl
@[simp] theorem respond_store (l : Link) (code : Nat) (st : Status) (figures : List Byte) (s : State) :
    (respond l code st figures s).store = s.store := rfl
@[simp] theorem respond_meters (l : Link) (code : Nat) (st : Status) (figures : List Byte) (s : State) :
    (respond l code st figures s).meters = s.meters := rfl
@[simp] theorem respond_channels (l : Link) (code : Nat) (st : Status) (figures : List Byte) (s : State) :
    (respond l code st figures s).channels = s.channels := rfl
@[simp] theorem respond_loops (l : Link) (code : Nat) (st : Status) (figures : List Byte) (s : State) :
    (respond l code st figures s).loops = s.loops := rfl
@[simp] theorem respond_contacts (l : Link) (code : Nat) (st : Status) (figures : List Byte) (s : State) :
    (respond l code st figures s).contacts = s.contacts := rfl
@[simp] theorem respond_quality (l : Link) (code : Nat) (st : Status) (figures : List Byte) (s : State) :
    (respond l code st figures s).quality = s.quality := rfl
@[simp] theorem respond_normalizer (l : Link) (code : Nat) (st : Status) (figures : List Byte) (s : State) :
    (respond l code st figures s).normalizer = s.normalizer := rfl
@[simp] theorem respond_holder (l : Link) (code : Nat) (st : Status) (figures : List Byte) (s : State) :
    (respond l code st figures s).holder = s.holder := rfl
@[simp] theorem respond_claims (l : Link) (code : Nat) (st : Status) (figures : List Byte) (s : State) :
    (respond l code st figures s).claims = s.claims := rfl
@[simp] theorem respond_stack (l : Link) (code : Nat) (st : Status) (figures : List Byte) (s : State) :
    (respond l code st figures s).stack = s.stack := rfl
@[simp] theorem respond_balance (l : Link) (code : Nat) (st : Status) (figures : List Byte) (s : State) :
    (respond l code st figures s).balance = s.balance := rfl
@[simp] theorem respond_flare (l : Link) (code : Nat) (st : Status) (figures : List Byte) (s : State) :
    (respond l code st figures s).flare = s.flare := rfl
@[simp] theorem respond_policy (l : Link) (code : Nat) (st : Status) (figures : List Byte) (s : State) :
    (respond l code st figures s).policy = s.policy := rfl
@[simp] theorem respond_ports (l : Link) (code : Nat) (st : Status) (figures : List Byte) (s : State) :
    (respond l code st figures s).ports = s.ports.modify l (answered (buildAnswer l code st figures s)) := rfl
@[simp] theorem respond_alerts (l : Link) (code : Nat) (st : Status) (figures : List Byte) (s : State) :
    (respond l code st figures s).alerts = s.alerts := rfl
@[simp] theorem respond_totals (l : Link) (code : Nat) (st : Status) (figures : List Byte) (s : State) :
    (respond l code st figures s).totals = s.totals := rfl
@[simp] theorem respond_restartPending (l : Link) (code : Nat) (st : Status) (figures : List Byte) (s : State) :
    (respond l code st figures s).restartPending = s.restartPending := rfl
@[simp] theorem respond_moments (l : Link) (code : Nat) (st : Status) (figures : List Byte) (s : State) :
    (respond l code st figures s).moments = s.moments := rfl
@[simp] theorem respond_pending (l : Link) (code : Nat) (st : Status) (figures : List Byte) (s : State) :
    (respond l code st figures s).pending = s.pending := rfl

/-! ## `followFlow` -/

@[simp] theorem followFlow_supplied (a b : State) : (followFlow a b).supplied = b.supplied := rfl
@[simp] theorem followFlow_config (a b : State) : (followFlow a b).config = b.config := rfl
@[simp] theorem followFlow_store (a b : State) : (followFlow a b).store = b.store := rfl
@[simp] theorem followFlow_meters (a b : State) :
    (followFlow a b).meters =
      Tab.gen fun m => followMeter (flowExpected a m) (flowExpected b m) (b.meters.get m) := rfl
@[simp] theorem followFlow_channels (a b : State) : (followFlow a b).channels = b.channels := rfl
@[simp] theorem followFlow_loops (a b : State) : (followFlow a b).loops = b.loops := rfl
@[simp] theorem followFlow_contacts (a b : State) : (followFlow a b).contacts = b.contacts := rfl
@[simp] theorem followFlow_quality (a b : State) : (followFlow a b).quality = b.quality := rfl
@[simp] theorem followFlow_normalizer (a b : State) : (followFlow a b).normalizer = b.normalizer := rfl
@[simp] theorem followFlow_holder (a b : State) : (followFlow a b).holder = b.holder := rfl
@[simp] theorem followFlow_claims (a b : State) : (followFlow a b).claims = b.claims := rfl
@[simp] theorem followFlow_stack (a b : State) : (followFlow a b).stack = b.stack := rfl
@[simp] theorem followFlow_balance (a b : State) : (followFlow a b).balance = b.balance := rfl
@[simp] theorem followFlow_flare (a b : State) : (followFlow a b).flare = b.flare := rfl
@[simp] theorem followFlow_policy (a b : State) : (followFlow a b).policy = b.policy := rfl
@[simp] theorem followFlow_ports (a b : State) : (followFlow a b).ports = b.ports := rfl
@[simp] theorem followFlow_alerts (a b : State) :
    (followFlow a b).alerts = followAlerts (flowExpected a) (flowExpected b) b.alerts := rfl
@[simp] theorem followFlow_totals (a b : State) : (followFlow a b).totals = b.totals := rfl
@[simp] theorem followFlow_restartPending (a b : State) : (followFlow a b).restartPending = b.restartPending := rfl
@[simp] theorem followFlow_moments (a b : State) : (followFlow a b).moments = b.moments := rfl
@[simp] theorem followFlow_pending (a b : State) : (followFlow a b).pending = b.pending := rfl

/-! ## `followOverfill` -/

@[simp] theorem followOverfill_supplied (s : State) : (followOverfill s).supplied = s.supplied := rfl
@[simp] theorem followOverfill_config (s : State) : (followOverfill s).config = s.config := rfl
@[simp] theorem followOverfill_store (s : State) : (followOverfill s).store = s.store := rfl
@[simp] theorem followOverfill_meters (s : State) : (followOverfill s).meters = s.meters := rfl
@[simp] theorem followOverfill_channels (s : State) : (followOverfill s).channels = s.channels := rfl
@[simp] theorem followOverfill_loops (s : State) : (followOverfill s).loops = s.loops := rfl
@[simp] theorem followOverfill_contacts (s : State) : (followOverfill s).contacts = s.contacts := rfl
@[simp] theorem followOverfill_quality (s : State) : (followOverfill s).quality = s.quality := rfl
@[simp] theorem followOverfill_normalizer (s : State) : (followOverfill s).normalizer = s.normalizer := rfl
@[simp] theorem followOverfill_holder (s : State) :
    (followOverfill s).holder = { s.holder with overfill := overfillNow s } := rfl
@[simp] theorem followOverfill_claims (s : State) : (followOverfill s).claims = s.claims := rfl
@[simp] theorem followOverfill_stack (s : State) : (followOverfill s).stack = s.stack := rfl
@[simp] theorem followOverfill_balance (s : State) : (followOverfill s).balance = s.balance := rfl
@[simp] theorem followOverfill_flare (s : State) : (followOverfill s).flare = s.flare := rfl
@[simp] theorem followOverfill_policy (s : State) : (followOverfill s).policy = s.policy := rfl
@[simp] theorem followOverfill_ports (s : State) : (followOverfill s).ports = s.ports := rfl
@[simp] theorem followOverfill_alerts (s : State) :
    (followOverfill s).alerts = alertFollow .holderOverfill s.holder.overfill (overfillNow s) s.alerts := rfl
@[simp] theorem followOverfill_totals (s : State) : (followOverfill s).totals = s.totals := rfl
@[simp] theorem followOverfill_restartPending (s : State) :
    (followOverfill s).restartPending = s.restartPending := rfl
@[simp] theorem followOverfill_moments (s : State) : (followOverfill s).moments = s.moments := rfl
@[simp] theorem followOverfill_pending (s : State) : (followOverfill s).pending = s.pending := rfl

end Sys2Proof.Machine
end

