-- ==== Sys2Proof/Laws/Tab.lean ====
section
/-! SUPPORT. The small lemmas of fixed-length tables: what an entry reads as after each way of building a table,
and equality entry by entry. -/

namespace Sys2Proof

variable {n : Nat} {α : Type}

/-- Two tables that agree at every entry are equal. -/
theorem Tab.ext_get {t u : Tab n α} (h : ∀ i : Fin n, t.get i = u.get i) : t = u := by
  cases t with
  | mk l hl =>
    cases u with
    | mk k hk =>
      have e : l = k := by
        apply List.ext_get (hl.trans hk.symm)
        intro i h₁ h₂
        simpa [Tab.get] using h ⟨i, hl ▸ h₁⟩
      subst e
      rfl

@[simp] theorem Tab.get_fill (a : α) (i : Fin n) : (Tab.fill n a).get i = a := by
  simp [Tab.get, Tab.fill]

@[simp] theorem Tab.get_gen (f : Fin n → α) (i : Fin n) : (Tab.gen f).get i = f i := by
  show (List.ofFn f)[i.val]'(by simp) = f i
  simp

@[simp] theorem Tab.get_set_same (t : Tab n α) (i : Fin n) (a : α) : (t.set i a).get i = a := by
  show (t.list.set i.val a)[i.val]'_ = a
  exact List.getElem_set_self _

@[simp] theorem Tab.get_set_ne (t : Tab n α) {i j : Fin n} (a : α) (h : j ≠ i) : (t.set i a).get j = t.get j := by
  have h' : i.val ≠ j.val := fun e => h (Fin.ext e.symm)
  show (t.list.set i.val a)[j.val]'_ = t.list[j.val]'_
  exact List.getElem_set_ne h' _

theorem Tab.get_set (t : Tab n α) (i j : Fin n) (a : α) : (t.set i a).get j = if j = i then a else t.get j := by
  by_cases h : j = i
  · subst h; simp
  · simp [h]

@[simp] theorem Tab.get_modify_same (t : Tab n α) (i : Fin n) (f : α → α) : (t.modify i f).get i = f (t.get i) := by
  simp [Tab.modify]

@[simp] theorem Tab.get_modify_ne (t : Tab n α) {i j : Fin n} (f : α → α) (h : j ≠ i) :
    (t.modify i f).get j = t.get j := by
  simp [Tab.modify, h]

theorem Tab.get_modify (t : Tab n α) (i j : Fin n) (f : α → α) :
    (t.modify i f).get j = if j = i then f (t.get i) else t.get j := by
  simp [Tab.modify, Tab.get_set]

/-- Writing back what an entry holds changes nothing. -/
@[simp] theorem Tab.set_get_self (t : Tab n α) (i : Fin n) : t.set i (t.get i) = t := by
  apply Tab.ext_get
  intro j
  rw [Tab.get_set]
  split
  · next h => rw [h]
  · rfl

/-- A table built from a table's own entries is that table. -/
@[simp] theorem Tab.gen_get (t : Tab n α) : Tab.gen (fun i => t.get i) = t := by
  apply Tab.ext_get
  simp

end Sys2Proof
end

