-- ==== Sys2Proof/Laws/Ops.lean ====
section
/-! SUPPORT. For each shared operation, what it can do, said once: the provers cite these and never unfold the
operation itself. -/

namespace Sys2Proof.Machine

open Sys2Proof

/-! ## Arithmetic terms -/

theorem clampNat_eq {lo hi : Nat} (h : lo ≤ hi) (v : Nat) : clampNat lo hi v = Nat.max lo (Nat.min hi v) := by
  unfold clampNat
  simp only [Nat.max_def, Nat.min_def]
  split_ifs <;> omega

theorem clampNat_bounds {lo hi : Nat} (h : lo ≤ hi) (v : Nat) : lo ≤ clampNat lo hi v ∧ clampNat lo hi v ≤ hi := by
  unfold clampNat
  split_ifs <;> omega

theorem clampNat_self {lo hi v : Nat} (h₁ : lo ≤ v) (h₂ : v ≤ hi) : clampNat lo hi v = v := by
  unfold clampNat
  split_ifs <;> omega

@[simp] theorem clampNat_zero (hi v : Nat) : clampNat 0 hi v = Nat.min v hi := by
  unfold clampNat
  simp only [Nat.min_def]
  split_ifs <;> omega

theorem clampInt_eq {lo hi : Int} (h : lo ≤ hi) (v : Int) : clampInt lo hi v = max lo (min hi v) := by
  unfold clampInt
  split_ifs <;> omega

theorem clampInt_bounds {lo hi : Int} (h : lo ≤ hi) (v : Int) : within lo hi (clampInt lo hi v) := by
  unfold clampInt within
  split_ifs <;> omega

theorem wrapSucc_le (max v : Nat) : wrapSucc max v ≤ max := by
  exact Nat.le_of_lt_succ (Nat.mod_lt (v + 1) (Nat.succ_pos max))

theorem wrapSucc_of_lt {max v : Nat} (h : v < max) : wrapSucc max v = v + 1 :=
  Nat.mod_eq_of_lt (by omega)

@[simp] theorem wrapSucc_max (max : Nat) : wrapSucc max max = 0 := Nat.mod_self _

theorem saturate_le (max v : Nat) : saturate max v ≤ max := by
  unfold saturate
  split_ifs <;> omega

theorem saturate_eq_min (max v : Nat) : saturate max v = Nat.min max v := by
  unfold saturate
  simp only [Nat.min_def]
  split_ifs <;> omega

/-! ## Alerts -/

/-- The alert of a record number: the table of section 9.5 read backwards. -/
def alertAt (n : Fin 58) : Alert :=
  if h : n.val < 12 then .meterStall ⟨n.val, h⟩
  else if h : n.val < 24 then .counterOverrun ⟨n.val - 12, by omega⟩
  else if h : n.val < 29 then .channelFault ⟨n.val - 24, by omega⟩
  else if n = 29 then .qualityHeld
  else if n = 30 then .qualitySubstituted
  else if n = 31 then .sourGas
  else if n = 32 then .gasRoom
  else if n = 33 then .estop
  else if n = 34 then .holderOverfill
  else if n = 35 then .holderLow
  else if n = 36 then .pressureHigh
  else if n = 37 then .balanceMismatch
  else if h : n.val < 39 then .stackOverflow
  else if h : n.val < 44 then .startFail ⟨n.val - 39, by omega⟩
  else if h : n.val < 49 then .trip ⟨n.val - 44, by omega⟩
  else if h : n.val < 54 then .lapse ⟨n.val - 49, by omega⟩
  else if n = 54 then .flareRetry
  else if n = 55 then .flareFailed
  else if n = 56 then .configDefaulted
  else .totalsLost

theorem alertAt_alertNumber (a : Alert) : alertAt (alertNumber a) = a := by
  cases a with
  | meterStall m => revert m; decide
  | counterOverrun m => revert m; decide
  | channelFault m => revert m; decide
  | startFail c => revert c; decide
  | trip c => revert c; decide
  | lapse c => revert c; decide
  | _ => decide

/-- The alert record numbers of section 9.5 are distinct. -/
theorem alertNumber_injective {a b : Alert} (h : alertNumber a = alertNumber b) : a = b := by
  rw [← alertAt_alertNumber a, h, alertAt_alertNumber]

@[simp] theorem alertState_raise (a : Alert) (s : State) : alertState a (raise a s) = .active := by
  simp [alertState, alertOnset, onsetOf]

@[simp] theorem alertState_lower_ne_active (a : Alert) (s : State) : alertState a (lower a s) ≠ .active := by
  simp only [alertState, lower_alerts, alertEnd, Tab.get_set_same]
  cases s.alerts.get (alertNumber a) <;> simp [endOf]

/-- An onset touches its own record alone. -/
theorem raise_same_but (a : Alert) (s : State) : AlertsSameBut [a] s (raise a s) := by
  intro n hn
  simp only [List.map_cons, List.map_nil, List.mem_singleton] at hn
  simp [alertOnset, hn]

/-- An end touches its own record alone. -/
theorem lower_same_but (a : Alert) (s : State) : AlertsSameBut [a] s (lower a s) := by
  intro n hn
  simp only [List.map_cons, List.map_nil, List.mem_singleton] at hn
  simp [alertEnd, hn]

/-! ## Events and requests -/

@[simp] theorem event_supplied (f : State → State) {s : State} (h : s.supplied = true) :
    event f s = .next (f s) := by simp [event, h]

@[simp] theorem event_unsupplied (f : State → State) {s : State} (h : s.supplied = false) :
    event f s = .next s := by simp [event, h]

/-- All an event can do. -/
theorem event_next {f : State → State} {s t : State} (h : event f s = .next t) :
    (s.supplied = true ∧ t = f s) ∨ (s.supplied = false ∧ t = s) := by
  cases hs : s.supplied
  · exact .inr ⟨rfl, by simpa [event, hs] using h.symm⟩
  · exact .inl ⟨rfl, by simpa [event, hs] using h.symm⟩

/-- A request its link may make: the owning block serves it, the meter stage follows, and the answer is built. -/
theorem request_served {l : Link} {code : Nat} (serve : State → Served) {s : State}
    (hs : s.supplied = true) (ha : codeAllowed l code = true) :
    request l code serve s =
      .next (respond l code (serve s).status (serve s).figures (followFlow s (serve s).state)) := by
  simp [request, event, hs, ha]

/-- A request its link may not make (R157 check 2). -/
theorem request_notAllowed {l : Link} {code : Nat} (serve : State → Served) {s : State}
    (hs : s.supplied = true) (ha : codeAllowed l code = false) :
    request l code serve s = .next (respond l code .refusedAuthority [] s) := by
  simp [request, event, hs, ha]

/-- All a request can do. -/
theorem request_next {l : Link} {code : Nat} {serve : State → Served} {s t : State}
    (h : request l code serve s = .next t) :
    (s.supplied = false ∧ t = s) ∨
    (s.supplied = true ∧ codeAllowed l code = false ∧ t = respond l code .refusedAuthority [] s) ∨
    (s.supplied = true ∧ codeAllowed l code = true ∧
      t = respond l code (serve s).status (serve s).figures (followFlow s (serve s).state)) := by
  cases hs : s.supplied
  · exact .inl ⟨rfl, by simpa [request, event, hs] using h.symm⟩
  · cases ha : codeAllowed l code
    · exact .inr (.inl ⟨rfl, rfl, by simpa [request, event, hs, ha] using h.symm⟩)
    · exact .inr (.inr ⟨rfl, rfl, by simpa [request, event, hs, ha] using h.symm⟩)

/-- The consumer requests are allowed on the links that fix a slot (R157 check 2). -/
theorem codeAllowed_consumer {l : Link} {c : Slot} {code : Nat} (h : linkSlot l = some c)
    (h₁ : 0x10 ≤ code) (h₂ : code ≤ 0x14) : codeAllowed l code = true := by
  have hl : l ≠ 0 ∧ l ≠ 6 := by
    constructor <;> rintro rfl <;> simp [linkSlot] at h
  simp [codeAllowed, hl, h₁, h₂]

/-- A consumer request on its slot's link. -/
theorem consumerRequest_served {l : Link} {c : Slot} {code : Nat} (serve : Slot → State → Served) {s : State}
    (hs : s.supplied = true) (hc : linkSlot l = some c) (h₁ : 0x10 ≤ code) (h₂ : code ≤ 0x14) :
    consumerRequest l code serve s =
      .next (respond l code (serve c s).status (serve c s).figures (followFlow s (serve c s).state)) := by
  simp [consumerRequest, request_served _ hs (codeAllowed_consumer hc h₁ h₂), hc]

/-- The answer a request leaves on its own link. -/
@[simp] theorem answerStatus_respond (l : Link) (code : Nat) (st : Status) (figures : List Byte) (s : State) :
    answerStatus l (respond l code st figures s) = some st := by
  simp only [answerStatus, respond_ports, Tab.get_modify_same, answered]
  split <;> simp [buildAnswer]

@[simp] theorem answerPayload_respond (l : Link) (code : Nat) (st : Status) (figures : List Byte) (s : State) :
    answerPayload l (respond l code st figures s) = some (summaryOf l s ++ figures) := by
  simp only [answerPayload, respond_ports, Tab.get_modify_same, answered]
  split <;> simp [buildAnswer]

/-- Answering touches the request's own port alone. -/
theorem respond_ports_same_but (l : Link) (code : Nat) (st : Status) (figures : List Byte) (s : State) :
    PortsSameBut l s (respond l code st figures s) := by
  intro k hk
  simp [hk]

/-! ## Flow expectation -/

@[simp] theorem followMeter_same (b : Bool) (r : MeterRec) : followMeter b b r = r := by simp [followMeter]

@[simp] theorem followAlerts_same (f : Meter → Bool) (t : Tab 58 AlertState) : followAlerts f f t = t := by
  apply Tab.ext_get
  intro n
  simp [followAlerts]

/-- Where no flow expectation changes, the meter stage has nothing to follow. -/
theorem followFlow_same {a b : State} (h : ∀ m, flowExpected b m = flowExpected a m) : followFlow a b = b := by
  have hf : flowExpected b = flowExpected a := funext h
  simp [followFlow, hf]

@[simp] theorem followFlow_self (s : State) : followFlow s s = s := followFlow_same fun _ => rfl

/-- Flow expectation reads the line-in-use flags, the claims and the flare state, and nothing else (R5). -/
theorem flowExpected_congr {s t : State} (h₁ : t.config.inUse = s.config.inUse) (h₂ : t.claims = s.claims)
    (h₃ : t.flare.state = s.flare.state) (m : Meter) : flowExpected t m = flowExpected s m := by
  simp [flowExpected, h₁, h₂, h₃]

/-- A meter whose expectation does not change is left alone. -/
theorem followFlow_meter {a b : State} {m : Meter} (h : flowExpected b m = flowExpected a m) :
    (followFlow a b).meters.get m = b.meters.get m := by
  simp [h]

/-- The alert records of meters whose flow goes on being expected, and all records past METER_STALL, are left
alone. -/
theorem followFlow_alert {a b : State} {n : Fin 58}
    (h : ∀ m : Meter, n = alertNumber (.meterStall m) → flowExpected b m = flowExpected a m) :
    (followFlow a b).alerts.get n = b.alerts.get n := by
  simp only [followFlow_alerts, followAlerts, Tab.get_gen]
  split
  · next hn => simp [h ⟨n.val, hn⟩ rfl]
  · rfl

/-- A METER_STALL record whose meter's flow stops being expected is reported ended (R7). -/
theorem followFlow_alert_end {a b : State} {m : Meter} (h₁ : flowExpected a m = true)
    (h₂ : flowExpected b m = false) :
    alertState (.meterStall m) (followFlow a b) = endOf (alertState (.meterStall m) b) := by
  simp [alertState, followAlerts, alertNumber, h₁, h₂]

/-- What the meter stage makes of a change that moves no meter and no METER_STALL record itself (R5, R7). -/
theorem followFlow_flowFollowed {s t : State} (hm : t.meters = s.meters)
    (ha : ∀ m, alertState (.meterStall m) t = alertState (.meterStall m) s) : FlowFollowed s (followFlow s t) := by
  have ht : ∀ m, flowExpected (followFlow s t) m = flowExpected t m := fun m => flowExpected_congr rfl rfl rfl m
  intro m
  have same : flowExpected t m = flowExpected s m →
      alertState (.meterStall m) (followFlow s t) = alertState (.meterStall m) t := fun h =>
    followFlow_alert fun k hk => by
      obtain rfl : m = k := Fin.ext (by simpa [alertNumber] using hk)
      exact h
  refine ⟨fun h => ?_, fun h₁ h₂ => ?_, fun h₁ h₂ h₃ => ?_⟩ <;> rw [ht] at *
  · exact ⟨by rw [followFlow_meter h, hm], by rw [same h, ha]⟩
  · refine ⟨by simp [followMeter, h₁, h₂, hm], ?_⟩
    rw [AlertEnded, followFlow_alert_end h₁ h₂, ha]
    cases alertState (.meterStall m) s <;> simp [endOf]
  · refine ⟨by simp [followMeter, h₁, h₂, hm, h₃], ?_⟩
    rw [show alertState (.meterStall m) (followFlow s t) = alertState (.meterStall m) t by
      simp [alertState, followAlerts, alertNumber, h₁], ha]

/-! ## Line-in-use flags and the pass in flight -/

@[simp] theorem noteLineChange_timer (l : Line) (b : Balance) : (noteLineChange l b).timer = b.timer := rfl
@[simp] theorem noteLineChange_period (l : Line) (b : Balance) : (noteLineChange l b).period = b.period := rfl
@[simp] theorem noteLineChange_passNumber (l : Line) (b : Balance) :
    (noteLineChange l b).passNumber = b.passNumber := rfl
@[simp] theorem noteLineChange_spacing (l : Line) (b : Balance) : (noteLineChange l b).spacing = b.spacing := rfl
@[simp] theorem noteLineChange_results (l : Line) (b : Balance) : (noteLineChange l b).results = b.results := rfl
@[simp] theorem noteLineChange_pass (l : Line) (b : Balance) :
    (noteLineChange l b).pass = b.pass.map fun p =>
      { p with sampled := { p.sampled with lineChanged := p.sampled.lineChanged.set l true } } := rfl

/-- When the pass writes a meter's carry and held line rate (R10, R33, R41). -/
theorem countStands_iff (p : Pass) (m : Meter) :
    countStands p m = true ↔
      passInUse p.settings.inUse m = true ∧ ∀ l : Line, m = lineMeter l → p.sampled.lineChanged.get l = false := by
  unfold countStands
  split
  · next h =>
    simp only [Bool.and_eq_true, Bool.not_eq_true', and_congr_right_iff]
    refine fun _ => ⟨fun e l hl => ?_, fun e => e ⟨m.val, h⟩ rfl⟩
    subst hl
    exact e
  · next h =>
    simp only [Bool.and_true, iff_self_and]
    intro _ l hl
    exact absurd (by rw [hl]; exact l.isLt) h

/-! ## The restart -/

/-- When an answer in sending holds the restart back (R156, R176). -/
theorem sendsRestart_iff (p : Port) :
    sendsRestart p = true ↔ p.state = .send ∧ ∃ a, p.answer = some a ∧ a.code = 0x46 ∧ a.status = .done := by
  cases h : p.answer <;> simp [sendsRestart, h]

/-- When a restart can take place (R156, R176). -/
theorem restartReady_iff (s : State) :
    restartReady s = true ↔
      s.restartPending = true ∧ s.store.saving = none ∧ sendsRestart (s.ports.get 0) = false := by
  simp [restartReady, isSaving, and_assoc]

/-! ## Stages of a pass -/

/-- A stage step in its own stage. -/
theorem inStage_at {stage : PassStage} (f : Pass → State → State) {s : State} {p : Pass}
    (hp : s.balance.pass = some p) (hs : p.stage = stage) : inStage stage f s = f p s := by
  simp [inStage, hp, hs]

/-- All a stage step can do. -/
theorem inStage_cases (stage : PassStage) (f : Pass → State → State) (s : State) :
    inStage stage f s = s ∨ ∃ p, s.balance.pass = some p ∧ p.stage = stage ∧ inStage stage f s = f p s := by
  unfold inStage
  split
  · next p hp =>
    split
    · next h => exact .inr ⟨p, hp, h, rfl⟩
    · exact .inl rfl
  · exact .inl rfl

/-! ## Claim records -/

/-- All a change of a claim can do: no counted field moved and the epoch stays, or one did and it goes up by one
(R59). -/
theorem commit_cases (old new : Claim) :
    (sameCounted old new = true ∧ commit old new = new) ∨
    (sameCounted old new = false ∧ commit old new = { new with epoch := wrapSucc 65535 old.epoch }) := by
  unfold commit
  cases h : sameCounted old new <;> simp

@[simp] theorem sameCounted_self (c : Claim) : sameCounted c c = true := by simp [sameCounted]

@[simp] theorem commit_self (c : Claim) : commit c c = c := by simp [commit]

/-- A claim that moves to another state moves its epoch. -/
theorem commit_of_state_ne {old new : Claim} (h : old.state ≠ new.state) :
    commit old new = { new with epoch := wrapSucc 65535 old.epoch } := by
  simp [commit, sameCounted, h]

theorem changeClaim_get_same (c : Slot) (f : Claim → Claim) (s : State) :
    (changeClaim c f s).claims.get c = commit (s.claims.get c) (f (s.claims.get c)) := by simp

theorem changeClaim_same_but (c : Slot) (f : Claim → Claim) (s : State) :
    ClaimsSameBut c s (changeClaim c f s) := by
  intro d hd
  simp [hd]

theorem changePurging_same_but (c : Slot) (f : Claim → Claim) (s : State) :
    ClaimsSameBut c s (changePurging c f s) := by
  intro d hd
  simp [hd]

/-- A purge takes every record of the slot off the stack, and no other (R115, R118). -/
theorem changePurging_purged (c : Slot) (f : Claim → Claim) (s : State) :
    PurgedStack c s (changePurging c f s) := by
  constructor <;> simp [dropRecords]

/-- With the accounts of R58 in order, a purged claim withholds nothing. -/
theorem purged_withheld {c : Slot} {s : State} (h : WithheldAccounted s) :
    purged (slotSum c s.stack.records) (s.claims.get c) = { s.claims.get c with withheld := 0, orphaned := 0 } := by
  have := h c
  simp only [purged, this]
  congr 1
  omega

/-! ## The shed stack -/

@[simp] theorem slotSum_nil (c : Slot) : slotSum c [] = 0 := rfl

theorem slotSum_cons (c : Slot) (r : ShedRecord) (rs : List ShedRecord) :
    slotSum c (r :: rs) = (if r.slot = c then r.amount else 0) + slotSum c rs := by
  unfold slotSum
  by_cases h : r.slot = c <;> simp [h]

theorem slotSum_append (c : Slot) (xs ys : List ShedRecord) :
    slotSum c (xs ++ ys) = slotSum c xs + slotSum c ys := by
  simp [slotSum]

/-- A purge of one slot leaves nothing of it. -/
theorem slotSum_purged_same (c : Slot) (rs : List ShedRecord) :
    slotSum c (rs.filter fun r => !(r.slot = c)) = 0 := by
  induction rs with
  | nil => rfl
  | cons r rs ih =>
    by_cases h : r.slot = c
    · simpa [h] using ih
    · simpa [h, slotSum_cons] using ih

/-- A purge of one slot leaves every other slot's sum. -/
theorem slotSum_purged_ne {c d : Slot} (h : d ≠ c) (rs : List ShedRecord) :
    slotSum d (rs.filter fun r => !(r.slot = c)) = slotSum d rs := by
  induction rs with
  | nil => rfl
  | cons r rs ih =>
    by_cases hr : r.slot = c
    · have hd : ¬r.slot = d := fun e => h (e ▸ hr)
      simpa [hr, hd, slotSum_cons, Ne.symm h] using ih
    · simp only [hr, decide_false, Bool.not_false, List.filter_cons_of_pos, slotSum_cons, ih]

/-- Below its depth the stack evicts nothing. -/
theorem evict_below {s : State} (h : s.stack.records.length < 16) : evict s = s := by simp [evict, stackDepth, h]

/-- A full stack evicts its bottom record into its slot's orphaned amount (R112). -/
theorem evict_full {s : State} {kept : List ShedRecord} {r : ShedRecord} (h : s.stack.records = kept ++ [r])
    (hl : 15 ≤ kept.length) :
    evict s =
      raise .stackOverflow
        { s with
          stack := { s.stack with records := kept }
          claims := s.claims.modify r.slot fun c => { c with orphaned := c.orphaned + r.amount } } := by
  have : ¬(kept.length + 1 < 16) := by omega
  simp [evict, stackDepth, h, this]

/-! ## The pending switch -/

/-- Setting the switch never names the active bank (R140). -/
theorem setSwitch_ne_active (active b : BankNo) : setSwitch active b ≠ some active := by
  unfold setSwitch
  split
  · simp
  · next h => simpa using h

/-- An onset of a binding source never leaves the switch on the active bank (R140, R150). -/
theorem fireBindings_ne_active (bindings : Tab 6 (Option Binding)) (active : BankNo) (source : Source)
    {switch : Option BankNo} (h : switch ≠ some active) :
    fireBindings bindings active source switch ≠ some active := by
  unfold fireBindings
  generalize bindings.list = l
  induction l generalizing switch with
  | nil => exact h
  | cons b l ih =>
    rw [List.foldl_cons]
    apply ih
    cases b with
    | none => exact h
    | some b =>
      simp only
      split
      · exact setSwitch_ne_active _ _
      · exact h

/-! ## Lock causes -/

/-- Adding a cause that stands already changes nothing (R70). -/
theorem addCause_present {cause : LockCause} {s : State} {c : Slot}
    (h : (s.claims.get c).locks.has cause = true) : addCause cause s c = s := by simp [addCause, h]

/-- A new cause on a claim that holds or waits locks it, with a purge (R70, R75). -/
theorem addCause_locks {cause : LockCause} {s : State} {c : Slot}
    (h : (s.claims.get c).locks.has cause = false) (hl : lockable (s.claims.get c).state = true) :
    addCause cause s c =
      changePurging c (fun cl => toLocked { cl with locks := cl.locks.put cause true }) s := by
  simp [addCause, h, hl]

/-- In VACANT, LOCKED and LAPSED only the lock cause set grows (R70). -/
theorem addCause_stays {cause : LockCause} {s : State} {c : Slot}
    (h : (s.claims.get c).locks.has cause = false) (hl : lockable (s.claims.get c).state = false) :
    addCause cause s c = changeClaim c (fun cl => { cl with locks := cl.locks.put cause true }) s := by
  simp [addCause, h, hl]

/-- Removing a cause that does not stand changes nothing (R71). -/
theorem removeCause_absent {cause : LockCause} {s : State} {c : Slot}
    (h : (s.claims.get c).locks.has cause = false) : removeCause cause s c = s := by simp [removeCause, h]

/-- Removing a cause that stands (R71). -/
theorem removeCause_present {cause : LockCause} {s : State} {c : Slot}
    (h : (s.claims.get c).locks.has cause = true) :
    removeCause cause s c =
      changeClaim c (fun cl => unlocked { cl with locks := cl.locks.put cause false }) s := by
  simp [removeCause, h]

theorem Locks.has_put_same (k : Locks) (cause : LockCause) (b : Bool) : (k.put cause b).has cause = b := by
  cases cause <;> rfl

theorem Locks.has_put_ne (k : Locks) {cause d : LockCause} (b : Bool) (h : d ≠ cause) :
    (k.put cause b).has d = k.has d := by
  cases cause <;> cases d <;> first | rfl | exact absurd rfl h

/-- A cause moves claims and the shed stack alone, and of the claims only its own slot's. -/
theorem addCause_frame (cause : LockCause) (s : State) (c : Slot) :
    ClaimsSameBut c s (addCause cause s c) ∧
      { addCause cause s c with claims := s.claims, stack := s.stack } = s := by
  cases h : (s.claims.get c).locks.has cause
  · cases hl : lockable (s.claims.get c).state
    · rw [addCause_stays h hl]
      exact ⟨changeClaim_same_but _ _ _, rfl⟩
    · rw [addCause_locks h hl]
      exact ⟨changePurging_same_but _ _ _, rfl⟩
  · rw [addCause_present h]
    exact ⟨fun _ _ => rfl, rfl⟩

/-- Removing a cause moves its own slot's claim alone. -/
theorem removeCause_frame (cause : LockCause) (s : State) (c : Slot) :
    ClaimsSameBut c s (removeCause cause s c) ∧ { removeCause cause s c with claims := s.claims } = s := by
  cases h : (s.claims.get c).locks.has cause
  · rw [removeCause_absent h]
    exact ⟨fun _ _ => rfl, rfl⟩
  · rw [removeCause_present h]
    exact ⟨changeClaim_same_but _ _ _, rfl⟩

/-! ## The flare sequencer -/

/-- The start conditions of R125 met in OFF. -/
theorem tryStart_lit {f : Flare} (h : f.state = .off) (hc : f.heldCall = true) (hp : f.permit = true)
    (hr : f.report.isReady = true) :
    tryStart f = { f with state := .called, attempts := 1, ignition := some 0, demand := f.heldDemand } := by
  simp [tryStart, h, hc, hp, hr]

/-- Anywhere else nothing starts. -/
theorem tryStart_unlit {f : Flare}
    (h : ¬(f.state = .off ∧ f.heldCall = true ∧ f.permit = true ∧ f.report.isReady = true)) : tryStart f = f := by
  simp only [tryStart]
  split
  · next h' => exact absurd (by simpa [and_assoc] using h') h
  · rfl

/-- The end of an attempt below the attempts setting (R127, R129). -/
theorem endAttempt_retry {s : State} (h : s.flare.attempts < s.config.flareAttempts) :
    endAttempt s =
      raise .flareRetry
        (withFlare (fun f => { f with state := .called, attempts := f.attempts + 1, ignition := some 0 }) s) := by
  simp [endAttempt, h]

/-- The end of the last attempt (R127, R132). -/
theorem endAttempt_fails {s : State} (h : s.config.flareAttempts ≤ s.flare.attempts) :
    endAttempt s =
      signal .flareFailed (raise .flareFailed (lower .flareRetry
        (withFlare (fun f => { f with state := .failed, ignition := none, demand := 0 }) s))) := by
  simp [endAttempt, Nat.not_lt.mpr h]

/-! ## Timers: an expiry acts where the timer has run for its setting, and nowhere else -/

theorem timerAtLeast_iff (t : Timer) (ms : Nat) : timerAtLeast t ms = true ↔ HasRun t ms := by
  cases t <;> simp [timerAtLeast, HasRun]

theorem stallOver_iff (m : Meter) (s : State) :
    stallOver m s = true ↔ HasRun (s.meters.get m).stallTimer (s.config.stallTime * 1000) := timerAtLeast_iff _ _

theorem holdOver_iff (s : State) :
    holdOver s = true ↔ s.quality.source = .held ∧ HasRun s.quality.hold (s.config.qualityHold * 1000) := by
  simp [holdOver, timerReached, timerAtLeast_iff]

theorem leaseOver_iff (c : Slot) (s : State) :
    leaseOver c s = true ↔
      leased (s.claims.get c).state = true ∧ HasRun (s.claims.get c).lease (s.config.lease * 1000) := by
  simp [leaseOver, timerReached, timerAtLeast_iff]

theorem startOver_iff (c : Slot) (s : State) :
    startOver c s = true ↔
      (s.claims.get c).state = .admitted ∧ HasRun (s.claims.get c).start (s.config.startTimeout * 1000) := by
  simp [startOver, timerReached, timerAtLeast_iff]

theorem ignitionOver_iff (s : State) :
    ignitionOver s = true ↔
      s.flare.state = .called ∧ HasRun s.flare.ignition (s.config.ignitionTimeout * 1000) := by
  simp [ignitionOver, timerReached, timerAtLeast_iff]

theorem minBurnOver_iff (s : State) :
    minBurnOver s = true ↔ s.flare.state = .holding ∧ HasRun s.flare.minBurn (s.config.minBurn * 1000) := by
  simp [minBurnOver, timerReached, timerAtLeast_iff]

theorem debounceOver_iff (k : Contact) (s : State) :
    debounceOver k s = true ↔ HasRun (s.contacts.get k).timer 200 := timerAtLeast_iff _ _

theorem passOver_iff (s : State) :
    passOver s = true ↔ s.balance.pass = none ∧ s.balance.period * 1000 ≤ s.balance.timer := by
  simp [passOver]

theorem gapOver_iff (p : Port) :
    gapOver p = true ↔ p.state = .receive ∧ frameComplete p.body = false ∧ HasRun p.gap 6 := by
  simp [gapOver, timerAtLeast_iff, and_assoc]

theorem stallExpires_early {m : Meter} {s : State} (h : stallOver m s = false) : stallExpires m s = s := by
  simp [stallExpires, h]

theorem holdExpires_early {s : State} (h : holdOver s = false) : holdExpires s = s := by simp [holdExpires, h]

theorem leaseExpires_early {c : Slot} {s : State} (h : leaseOver c s = false) : leaseExpires c s = s := by
  simp [leaseExpires, h]

theorem startExpires_early {c : Slot} {s : State} (h : startOver c s = false) : startExpires c s = s := by
  simp [startExpires, h]

theorem ignitionExpires_early {s : State} (h : ignitionOver s = false) : ignitionExpires s = s := by
  simp [ignitionExpires, h]

theorem minBurnExpires_early {s : State} (h : minBurnOver s = false) : minBurnExpires s = s := by
  simp [minBurnExpires, h]

/-- The stall timer's expiry: the meter is stalled and METER_STALL raised (R6). -/
theorem stallExpires_at {m : Meter} {s : State} (h : stallOver m s = true) :
    stallExpires m s =
      raise (.meterStall m)
        { s with meters := s.meters.modify m fun r =>
            { r with stallTimer := none, stalled := true, recovery := 0, hold := 0 } } := by
  simp [stallExpires, h]

theorem holdExpires_at {s : State} (h : holdOver s = true) : holdExpires s = enterSubstituted s := by
  simp [holdExpires, h]

theorem leaseExpires_at {c : Slot} {s : State} (h : leaseOver c s = true) :
    leaseExpires c s = raise (.lapse c) (changePurging c toLapsed s) := by simp [leaseExpires, h]

theorem startExpires_at {c : Slot} {s : State} (h : startOver c s = true) :
    startExpires c s = raise (.startFail c) (changePurging c toIdle s) := by simp [startExpires, h]

theorem ignitionExpires_at {s : State} (h : ignitionOver s = true) : ignitionExpires s = endAttempt s := by
  simp [ignitionExpires, h]

theorem minBurnExpires_at {s : State} (h : minBurnOver s = true) : minBurnExpires s = withFlare toOff s := by
  simp [minBurnExpires, h]

/-! ## The result of a pass on one claim (R105) -/

/-- A result equal to what the claim holds leaves it as it is. -/
theorem writeResult_same {w : WorkClaim} {allotment : Nat} {c : Claim} (hs : c.state = w.state)
    (ha : c.allotment = allotment) : writeResult w allotment c = c := by
  simp [writeResult, hs, ha]

/-- Any other result is written, soft and the start timer following. -/
theorem writeResult_changed {w : WorkClaim} {allotment : Nat} {c : Claim}
    (h : c.state ≠ w.state ∨ c.allotment ≠ allotment) :
    writeResult w allotment c =
      { c with state := w.state, allotment, soft := appliedSoft w allotment c.soft
               start := appliedStart c.state w.state c.start } := by
  rcases h with h | h <;> simp [writeResult, h]

/-! ## The passage of time -/

/-- A tie-break picks one of the events of a list that is not empty. -/
theorem pickOne_of_ne_nil {events : List Instr} (h : events ≠ []) (k : Nat) :
    ∃ i ∈ events, pickOne k events = [i] := by
  have hl : k % events.length < events.length := Nat.mod_lt _ (List.length_pos_iff.mpr h)
  exact ⟨events[k % events.length], List.getElem_mem hl, by simp [pickOne, hl]⟩

/-- Where nothing is due a millisecond passes. -/
theorem idle_of_none_due {s : State} (h : due s = []) : idle s = tick s := by simp [idle, h]

/-- Where events are due one of them is queued and the moments' count goes on; nothing else happens. -/
theorem idle_of_due {s : State} (h : due s ≠ []) :
    ∃ i ∈ due s, idle s = { s with pending := [i], moments := s.moments + 1 } := by
  obtain ⟨i, hi, e⟩ := pickOne_of_ne_nil h (Config.tieBreak s.moments 0)
  exact ⟨i, hi, by simp [idle, h, e]⟩

/-- On the backup cell the clock alone runs (R19, R168). -/
theorem tick_unsupplied {s : State} (h : s.supplied = false) :
    tick s = { s with totals := { s.totals with clockMs := s.totals.clockMs + 1 } } := by simp [tick, h]

end Sys2Proof.Machine
end

