-- ==== Sys2Proof/Laws/PerInstr.lean ====
section
/-! SUPPORT. The family of statements made per command: one lemma for each constructor of `Instr`. -/

namespace Sys2Proof.Laws.PayloadFits

open Sys2Proof

/-- A command that is a request of the code table is carried by a known one-byte code and a payload of at most 48
bytes (R153, R157, R166). -/
def Statement (i : Instr) : Prop :=
  ∀ (l : Link) (code : Nat) (payload : List Byte), encodeRequest i = some (l, code, payload) →
    code < 256 ∧ codeKnown code = true ∧ payload.length ≤ 48

theorem pulse (m : Meter) : Statement (.pulse m) := by
  rintro _ _ _ h
  cases h

theorem stallTimerExpiry (m : Meter) : Statement (.stallTimerExpiry m) := by
  rintro _ _ _ h
  cases h

theorem contactChange (k : Contact) (closed : Bool) : Statement (.contactChange k closed) := by
  rintro _ _ _ h
  cases h

theorem debounceExpiry (k : Contact) : Statement (.debounceExpiry k) := by
  rintro _ _ _ h
  cases h

theorem powerFail : Statement .powerFail := by
  rintro _ _ _ h
  cases h

theorem powerOnStart (amps : Currents) (cellLow totalsAgree configAgrees : Bool) :
    Statement (.powerOnStart amps cellLow totalsAgree configAgrees) := by
  rintro _ _ _ h
  cases h

theorem clockSecond : Statement .clockSecond := by
  rintro _ _ _ h
  cases h

theorem passTimerExpiry : Statement .passTimerExpiry := by
  rintro _ _ _ h
  cases h

theorem sampleStage (amps : Currents) : Statement (.sampleStage amps) := by
  rintro _ _ _ h
  cases h

theorem measureStage : Statement .measureStage := by
  rintro _ _ _ h
  cases h

theorem holderStage : Statement .holderStage := by
  rintro _ _ _ h
  cases h

theorem snapshotStage : Statement .snapshotStage := by
  rintro _ _ _ h
  cases h

theorem shortfallStage : Statement .shortfallStage := by
  rintro _ _ _ h
  cases h

theorem shedPush : Statement .shedPush := by
  rintro _ _ _ h
  cases h

theorem restoreStage : Statement .restoreStage := by
  rintro _ _ _ h
  cases h

theorem pop : Statement .pop := by
  rintro _ _ _ h
  cases h

theorem admissionStage : Statement .admissionStage := by
  rintro _ _ _ h
  cases h

theorem allotmentStage : Statement .allotmentStage := by
  rintro _ _ _ h
  cases h

theorem flareStage : Statement .flareStage := by
  rintro _ _ _ h
  cases h

theorem applyStage : Statement .applyStage := by
  rintro _ _ _ h
  cases h

theorem holdTimerExpiry : Statement .holdTimerExpiry := by
  rintro _ _ _ h
  cases h

theorem qualityResume (l : Link) : Statement (.qualityResume l) := by
  rintro _ _ _ h
  cases h
  exact ⟨by decide, by decide, Nat.le_of_ble_eq_true rfl⟩

theorem register (l : Link) (m x u : Nat) : Statement (.register l m x u) := by
  rintro _ _ _ h
  cases h
  exact ⟨by decide, by decide, Nat.le_of_ble_eq_true rfl⟩

theorem claim (l : Link) (r : Nat) : Statement (.claim l r) := by
  rintro _ _ _ h
  cases h
  exact ⟨by decide, by decide, Nat.le_of_ble_eq_true rfl⟩

theorem amend (l : Link) (r : Nat) : Statement (.amend l r) := by
  rintro _ _ _ h
  cases h
  exact ⟨by decide, by decide, Nat.le_of_ble_eq_true rfl⟩

theorem report (l : Link) (running : Bool) (rate : Nat) : Statement (.report l running rate) := by
  rintro _ _ _ h
  cases h
  exact ⟨by decide, by decide, Nat.le_of_ble_eq_true rfl⟩

theorem release (l : Link) : Statement (.release l) := by
  rintro _ _ _ h
  cases h
  exact ⟨by decide, by decide, Nat.le_of_ble_eq_true rfl⟩

theorem leaseTimerExpiry (c : Slot) : Statement (.leaseTimerExpiry c) := by
  rintro _ _ _ h
  cases h

theorem startTimerExpiry (c : Slot) : Statement (.startTimerExpiry c) := by
  rintro _ _ _ h
  cases h

theorem holdSlots (l : Link) (mask : Nat) (on : Bool) : Statement (.holdSlots l mask on) := by
  rintro _ _ _ h
  cases h
  exact ⟨by decide, by decide, Nat.le_of_ble_eq_true rfl⟩

theorem forceVacant (l : Link) (slot : Nat) : Statement (.forceVacant l slot) := by
  rintro _ _ _ h
  cases h
  exact ⟨by decide, by decide, Nat.le_of_ble_eq_true rfl⟩

theorem readClaim (l : Link) (slot : Nat) : Statement (.readClaim l slot) := by
  rintro _ _ _ h
  cases h
  exact ⟨by decide, by decide, Nat.le_of_ble_eq_true rfl⟩

theorem readStack (l : Link) (position : Nat) : Statement (.readStack l position) := by
  rintro _ _ _ h
  cases h
  exact ⟨by decide, by decide, Nat.le_of_ble_eq_true rfl⟩

theorem flareStatus (l : Link) (flame ready fault : Bool) : Statement (.flareStatus l flame ready fault) := by
  rintro _ _ _ h
  cases h
  exact ⟨by decide, by decide, Nat.le_of_ble_eq_true rfl⟩

theorem ignitionTimerExpiry : Statement .ignitionTimerExpiry := by
  rintro _ _ _ h
  cases h

theorem minimumBurnTimerExpiry : Statement .minimumBurnTimerExpiry := by
  rintro _ _ _ h
  cases h

theorem burnTimeSecond : Statement .burnTimeSecond := by
  rintro _ _ _ h
  cases h

theorem flareReset (l : Link) : Statement (.flareReset l) := by
  rintro _ _ _ h
  cases h
  exact ⟨by decide, by decide, Nat.le_of_ble_eq_true rfl⟩

theorem flarePermit (l : Link) (on : Bool) : Statement (.flarePermit l on) := by
  rintro _ _ _ h
  cases h
  exact ⟨by decide, by decide, Nat.le_of_ble_eq_true rfl⟩

theorem switchBank (l : Link) (bank : Nat) : Statement (.switchBank l bank) := by
  rintro _ _ _ h
  cases h
  exact ⟨by decide, by decide, Nat.le_of_ble_eq_true rfl⟩

theorem writeRow (l : Link) (bank row : Nat) (rec : RowRecord) : Statement (.writeRow l bank row rec) := by
  rintro _ _ _ h
  cases h
  exact ⟨by decide, by decide, Nat.le_of_ble_eq_true rfl⟩

theorem setRank (l : Link) (bank slot rank : Nat) : Statement (.setRank l bank slot rank) := by
  rintro _ _ _ h
  cases h
  exact ⟨by decide, by decide, Nat.le_of_ble_eq_true rfl⟩

theorem setLimits (l : Link) (mask max : Nat) : Statement (.setLimits l mask max) := by
  rintro _ _ _ h
  cases h
  exact ⟨by decide, by decide, Nat.le_of_ble_eq_true rfl⟩

theorem readBank (l : Link) (bank row : Nat) : Statement (.readBank l bank row) := by
  rintro _ _ _ h
  cases h
  exact ⟨by decide, by decide, Nat.le_of_ble_eq_true rfl⟩

theorem configure (l : Link) (item : Nat) (value : Int) : Statement (.configure l item value) := by
  rintro _ _ _ h
  cases h
  exact ⟨by decide, by decide, Nat.le_of_ble_eq_true rfl⟩

theorem configureBandGeometry (l : Link) (bank : Nat) (which : Geometry) (value : Int) :
    Statement (.configureBandGeometry l bank which value) := by
  rintro _ _ _ h
  cases h
  exact ⟨by decide, by decide, Nat.le_of_ble_eq_true rfl⟩

theorem configureEventBinding (l : Link) (number : Nat) (value : Int) :
    Statement (.configureEventBinding l number value) := by
  rintro _ _ _ h
  cases h
  exact ⟨by decide, by decide, Nat.le_of_ble_eq_true rfl⟩

theorem frameReceived (l : Link) : Statement (.frameReceived l) := by
  rintro _ _ _ h
  cases h

theorem gapTimerExpiry (l : Link) : Statement (.gapTimerExpiry l) := by
  rintro _ _ _ h
  cases h

theorem answerSent (l : Link) : Statement (.answerSent l) := by
  rintro _ _ _ h
  cases h

theorem unknownRequest (l : Link) (code : Nat) : Statement (.unknownRequest l code) := by
  rintro _ _ _ h
  cases h

theorem readStatus (l : Link) (group : Nat) : Statement (.readStatus l group) := by
  rintro _ _ _ h
  cases h
  exact ⟨by decide, by decide, by split <;> simp⟩

theorem ackAlerts (l : Link) : Statement (.ackAlerts l) := by
  rintro _ _ _ h
  cases h
  exact ⟨by decide, by decide, Nat.le_of_ble_eq_true rfl⟩

theorem setClock (l : Link) (d : DateTime) : Statement (.setClock l d) := by
  rintro _ _ _ h
  cases h
  exact ⟨by decide, by decide, Nat.le_of_ble_eq_true rfl⟩

theorem readTotals (l : Link) (record group : Nat) : Statement (.readTotals l record group) := by
  rintro _ _ _ h
  cases h
  exact ⟨by decide, by decide, Nat.le_of_ble_eq_true rfl⟩

theorem saveConfig (l : Link) : Statement (.saveConfig l) := by
  rintro _ _ _ h
  cases h
  exact ⟨by decide, by decide, Nat.le_of_ble_eq_true rfl⟩

theorem saveEnd : Statement .saveEnd := by
  rintro _ _ _ h
  cases h

theorem restart (l : Link) : Statement (.restart l) := by
  rintro _ _ _ h
  cases h
  exact ⟨by decide, by decide, Nat.le_of_ble_eq_true rfl⟩

theorem restartTakesPlace (amps : Currents) : Statement (.restartTakesPlace amps) := by
  rintro _ _ _ h
  cases h

theorem byteReceived (l : Link) (b : Byte) : Statement (.byteReceived l b) := by
  rintro _ _ _ h
  cases h

end Sys2Proof.Laws.PayloadFits
end

