-- ==== Sys2Proof/Tests/Slice0.lean ====
section
/-! SUPPORT. The model's own tests: ill-formed terms refused, frames of the manual's code table read, the manual's
worked values, one step of each command, and a witness for the hypotheses of every statement. Expected values come
from the manual's rules and worked tables, named at each test. -/

set_option Elab.async false

namespace Sys2Proof.Tests

open Sys2Proof Sys2Proof.Machine

/-! ## Small states -/

/-- The state after one command. -/
def after (i : Instr) (s : State) : State :=
  match exec i s with
  | .next t => t
  | .fault _ => s
  | .refused _ => s

/-- The states a claim can be in. -/
def claimStates : List ClaimState := [.vacant, .idle, .waiting, .admitted, .running, .shed, .locked, .lapsed]

/-- A claim in the given state with the figures of C2 in chapter 4's first worked sequence, its lease and its start
timer at their settings (10 s and 120 s). -/
def claimIn (st : ClaimState) : Claim :=
  { vacantClaim with
    state := st, limits := some ⟨400, 1200, 100⟩, request := some 1000, standing := true
    allotment := if st = .admitted ∨ st = .running then 400 else 0
    locks := { noLocks with estop := st = .locked }
    lease := if leased st then some 10000 else none, start := if st = .admitted then some 120000 else none
    epoch := 2 }

/-- The reset state with claim C1 in the given state. -/
def inState (st : ClaimState) : State := { State.reset with claims := State.reset.claims.set 0 (claimIn st) }

/-- The reset state with a pass in flight at the given stage. -/
def passAt (stage : PassStage) : State := withPass { beginPass defaultConfig 2 false with stage } State.reset

/-- The pass of `passAt`. -/
def passOf (stage : PassStage) : Pass := { beginPass defaultConfig 2 false with stage }

/-- The reset state with the flare sequencer in the given state, permit set, call held and its timers at their settings
(30 s, 300 s). -/
def flareIn (st : FlareState) (attempts : Nat) : State :=
  withFlare (fun f => { f with state := st, heldCall := true, heldDemand := 400, demand := 400, permit := true,
                               attempts, report := ⟨false, true, false⟩
                               ignition := if st = .called then some 30000 else none
                               minBurn := if st = .holding then some 300000 else none, burnMs := 1000 }) State.reset

/-- The reset state with a save in flight. -/
def saving : State := { State.reset with store := { State.reset.store with saving := some 0 } }

/-- The reset state with a port of link 1 changed. -/
def portOn (p : Port) : State := { State.reset with ports := State.reset.ports.set 1 p }

/-- The currents of chapter 1's scaling examples. -/
def sampleAmps : Currents := ⟨[3800, 6888, 11500, 13920, 4013], rfl⟩

/-- One shed record of C5 as chapter 5's worked sequence pushes it. -/
def trimC5 : ShedRecord :=
  { slot := 4, kind := .trim, amount := 200, band := .row 5, passNumber := 120, pending := true }

/-- C1 RUNNING with the epoch given and K4 about to close. -/
def withClaimEpoch (epoch : Nat) : State :=
  { inState .running with
    claims := (inState .running).claims.set 0 { claimIn .running with epoch }
    contacts := State.reset.contacts.set conK4 ⟨true, false, some 200⟩ }

/-- C1 RUNNING with the allotment given. -/
def withClaimAllotment (allotment : Nat) : State :=
  { inState .running with claims := (inState .running).claims.set 0 { claimIn .running with allotment } }

/-! ## Commands whose fields fit -/

theorem test_wellFormed_register : wellFormed (.register 1 0 0 65536) = false := by decide
theorem test_wellFormed_claim : wellFormed (.claim 1 65536) = false := by decide
theorem test_wellFormed_amend : wellFormed (.amend 1 65536) = false := by decide
theorem test_wellFormed_report : wellFormed (.report 1 true 65536) = false := by decide
theorem test_wellFormed_holdSlots : wellFormed (.holdSlots 0 256 true) = false := by decide
theorem test_wellFormed_forceVacant : wellFormed (.forceVacant 0 256) = false := by decide
theorem test_wellFormed_reads :
    wellFormed (.readClaim 0 256) = false ∧ wellFormed (.readStack 0 256) = false ∧
      wellFormed (.readBank 0 0 256) = false ∧ wellFormed (.readTotals 0 256 0) = false ∧
      wellFormed (.readStatus 0 256) = false ∧ wellFormed (.readStatus 1 1) = false := by decide
theorem test_wellFormed_switchBank : wellFormed (.switchBank 0 256) = false := by decide
theorem test_wellFormed_writeRow :
    wellFormed (.writeRow 0 0 256 defaultRow) = false ∧
      wellFormed (.writeRow 0 0 0 { defaultRow with trim := 32768 }) = false := by decide
theorem test_wellFormed_setRank : wellFormed (.setRank 0 0 0 256) = false := by decide
theorem test_wellFormed_setLimits : wellFormed (.setLimits 0 1 65536) = false := by decide
theorem test_wellFormed_configure :
    wellFormed (.configure 0 0x200 1) = false ∧ wellFormed (.configure 0 0x301 1) = false ∧
      wellFormed (.configure 0 1 2147483648) = false := by decide
theorem test_wellFormed_geometry : wellFormed (.configureBandGeometry 0 4 .count 8) = false := by decide
theorem test_wellFormed_binding : wellFormed (.configureEventBinding 0 7 (-1)) = false := by decide
theorem test_wellFormed_unknown : wellFormed (.unknownRequest 0 0x30) = false := by decide
theorem test_wellFormed_setClock : wellFormed (.setClock 0 ⟨65536, 1, 1, 0, 0, 0⟩) = false := by decide

/-! ## Frames, written out from the code table of section 9.5 -/

/-- The table gives no row bits, so no word spells a command. -/
theorem test_decode_no_word : decodeTableWord 8 0x30 = none := by decide

theorem test_decode_register :
    checkRequest 2 0x10 [0x01, 0x90, 0x04, 0xB0, 0x00, 0x64] = .request (.register 2 400 1200 100) := by decide
theorem test_decode_report : checkRequest 5 0x13 [0x01, 0x01, 0x8B] = .request (.report 5 true 395) := by decide
theorem test_decode_report_flag : checkRequest 5 0x13 [0x02, 0x01, 0x8B] = .badForm := by decide
theorem test_decode_flareStatus :
    checkRequest 6 0x20 [0x00, 0x01, 0x01] = .request (.flareStatus 6 false true true) := by decide
theorem test_decode_writeRow :
    checkRequest 0 0x31 [0x02, 0x10, 0xFF, 0x9C, 0x04, 0x05, 0x00, 0x64, 0x00, 0xC8, 0x01, 0x2C] =
      .request (.writeRow 0 2 16 ⟨-100, 4, true, false, true, false, 100, 200, 300⟩) := by decide
theorem test_decode_configure :
    checkRequest 0 0x30 [0x00, 0x09, 0xFF, 0xFF, 0xFF, 0xCE] = .request (.configure 0 9 (-50)) := by decide +kernel
theorem test_decode_geometry :
    checkRequest 0 0x30 [0x02, 0x11, 0x00, 0x00, 0x00, 0x64] =
      .request (.configureBandGeometry 0 1 .width 100) := by decide +kernel
theorem test_decode_binding :
    checkRequest 0 0x30 [0x03, 0x02, 0x00, 0x00, 0x06, 0x03] =
      .request (.configureEventBinding 0 2 0x603) := by decide +kernel
theorem test_decode_setClock :
    checkRequest 0 0x44 [0x07, 0xE9, 0x03, 0x05, 0x07, 0x1E, 0x00] =
      .request (.setClock 0 ⟨2025, 3, 5, 7, 30, 0⟩) := by decide
theorem test_decode_authority :
    checkRequest 1 0x31 [] = .notAllowed ∧ checkRequest 0 0x11 [] = .notAllowed ∧
      checkRequest 1 0x77 [] = .unknownCode := by decide

/-- R155: for the nine bytes 0x31 to 0x39 the remainder is 0x29B1. -/
theorem test_crc_of_R155 :
    crc16 [0x31, 0x32, 0x33, 0x34, 0x35, 0x36, 0x37, 0x38, 0x39] = 0x29B1 := by decide +kernel

/-! ## The manual's worked values -/

/-- Scaling examples of section 1.4. -/
theorem test_scaling_examples :
    classify (fullRanges.get chA3) 11500 = .good 175 ∧ classify (fullRanges.get chA3) 11510 = .good 176 ∧
      classify (fullRanges.get chA2) 6888 = .good 181 ∧ classify (fullRanges.get chA5) 4013 = .good 4 ∧
      classify (fullRanges.get chA1) 3800 = .clampLow 0 ∧ classify (fullRanges.get chA1) 20400 = .clampHigh 1000 ∧
      classify (fullRanges.get chA1) 21001 = .fault ∧ classify (fullRanges.get chA4) 3599 = .fault := by decide

/-- Section 1.4, a methane channel fault: passes 41 and 46. -/
theorem test_channel_fault_sequence :
    sampleChannel (classify (fullRanges.get chA4) 2150) ⟨620, false, 0, 620⟩ = ⟨620, true, 0, 620⟩ ∧
      sampleChannel (classify (fullRanges.get chA4) 13760) ⟨620, true, 2, 620⟩ = ⟨610, false, 0, 610⟩ := by decide

/-- Filter examples of section 2.5. -/
theorem test_filter_examples :
    filtered 2 880 903 = 885 ∧ filtered 2 901 903 = 902 ∧ filtered 2 926 903 = 921 ∧ filtered 2 904 903 = 903 ∧
      filtered 2 903 903 = 903 := by decide

/-- Section 2.6, first pass of the worked case. -/
theorem test_one_pass_on_one_line :
    microlitres 90 1000 10312 3082 = 81196683 ∧ microlitres 1 1000 10312 3082 = 902185 := by decide

/-- Section 3.3, band selection, with the empty end and the recompute. -/
theorem test_band_selection :
    selectBand defaultBank 830 (.row 6) = .fallThrough ∧ selectBand defaultBank 790 .fallThrough = .fallThrough ∧
      selectBand defaultBank 779 .fallThrough = .row 7 ∧ selectBand defaultBank 679 (.row 7) = .row 6 ∧
      selectBand defaultBank 110 (.row 0) = .row 0 ∧ selectBand defaultBank 120 (.row 0) = .row 1 ∧
      recomputeBand { defaultBank with width := 125, count := 6 } 779 = .fallThrough := by decide

/-- Section 8.4 (R147): W = 120 and H = 60 written W = 100 holds H = 50, answered CLAMPED; H = 70 holds 50. -/
theorem test_geometry_example :
    writeGeometry .width 100 { defaultBank with width := 120, hysteresis := 60 } =
        ({ defaultBank with width := 100, hysteresis := 50 }, true) ∧
      writeGeometry .hysteresis 70 { defaultBank with width := 100, hysteresis := 50 } =
        ({ defaultBank with width := 100, hysteresis := 50 }, true) := by decide +kernel

/-- Section 10.2, one slot over three passes: the first pass. -/
theorem test_one_slot_totals :
    wholeUnits 1000 500 81196 = 81 ∧ restUnits 1000 500 81196 = 696 ∧ wholeUnits 3600000 3000000 1806253 = 1 ∧
      restUnits 3600000 3000000 1806253 = 1206253 := by decide

/-! ## One step of each command -/

theorem test_pulse_counts : ((after (.pulse 6) State.reset).meters.get 6).count = 1 := by decide +kernel
theorem test_pulse_saturates :
    ((after (.pulse 0) { State.reset with
      meters := State.reset.meters.set 0 { startMeter (some 9) with count := 65535 } }).meters.get 0) =
        { startMeter (some 0) with count := 65535 } := by decide +kernel
/-- The reset state with M1's stall timer run for `ms`. -/
def stallingAt (ms : Nat) : State :=
  { State.reset with meters := State.reset.meters.set 0 (startMeter (some ms)) }

/-- R6: the timer expires at the stall time of 60 s, and not a millisecond before. -/
theorem test_stallTimerExpiry :
    ((after (.stallTimerExpiry 0) (stallingAt 60000)).meters.get 0).stalled = true ∧
      alertState (.meterStall 0) (after (.stallTimerExpiry 0) (stallingAt 60000)) = .active ∧
      after (.stallTimerExpiry 0) (stallingAt 59999) = stallingAt 59999 := by decide +kernel
theorem test_contactChange :
    (after (.contactChange conK2 true) State.reset).contacts.get conK2 = ⟨true, false, some 0⟩ := by decide +kernel
/-- Chapter 4, first worked sequence, the K4 onset: LOCKED, allotment 0, epoch 4 from 3. -/
theorem test_debounce_estop :
    let s := withClaimEpoch 3
    (after (.debounceExpiry conK4) s).claims.get 0 =
      { claimIn .running with state := .locked, allotment := 0, locks := { noLocks with estop := true }
                              epoch := 4 } := by decide +kernel
theorem test_powerFail_abandons_pass : (after .powerFail (passAt .snapped)).balance.pass = none := by decide +kernel
/-- R18, R27: a good start sample with K1 closed starts LIVE on CH4 620. -/
theorem test_powerOnStart_live :
    (after (.powerOnStart ⟨[9600, 6888, 11500, 13920, 4013], rfl⟩ false false false)
      { State.reset with contacts := State.reset.contacts.set conK1 ⟨true, false, none⟩ }).quality =
        { source := .live, ch4 := 620, h2s := 4, hold := none, sour := false, high := 0, low := 0 } := by
  decide +kernel
theorem test_clockSecond_rolls_over :
    let t := (after .clockSecond { State.reset with
      totals := { State.reset.totals with clock := ⟨2025, 3, 5, 5, 59, 59⟩ } }).totals
    t.clock = ⟨2025, 3, 5, 6, 0, 0⟩ ∧ t.current.start = some ⟨2025, 3, 5⟩ ∧
      t.previous.start = some ⟨2000, 1, 1⟩ := by decide +kernel
theorem test_clockSecond_leap_day :
    nextSecond ⟨2024, 2, 28, 23, 59, 59⟩ = ⟨2024, 2, 29, 0, 0, 0⟩ ∧
      nextSecond ⟨2025, 2, 28, 23, 59, 59⟩ = ⟨2025, 3, 1, 0, 0, 0⟩ := by decide
theorem test_passTimerExpiry_takes_switch :
    (after .passTimerExpiry { State.reset with
      policy := { State.reset.policy with switch := some 2 }
      balance := { State.reset.balance with timer := 2000 } }).policy =
      { State.reset.policy with active := 2, switch := none } := by decide +kernel
theorem test_sampleStage_reads :
    let t := after (.sampleStage ⟨[3800, 6888, 11500, 13920, 4013], rfl⟩)
      { passAt .banked with channels := Tab.fill 5 ⟨0, false, 0, 0⟩ }
    (t.channels.get chA2).reading = 181 ∧ (t.channels.get chA3).reading = 175 ∧
      (t.channels.get chA4).reading = 620 ∧
      -- R20, R21: a LIVE monitor takes good readings, and leaves for HELD with an A4 fault
      (∀ amps ∈ [sampleAmps, Tab.fill 5 0],
        (after (.sampleStage amps)
          { passAt .banked with
            quality := { State.reset.quality with source := .live }
            channels := (Tab.fill 5 ⟨0, false, 0, 0⟩ : Tab 5 ChannelRec) }).quality =
          if amps = sampleAmps then { State.reset.quality with source := .live, ch4 := 620, h2s := 4 }
          else { State.reset.quality with source := .held, hold := some 0 }) := by decide +kernel
/-- Section 2.6, first pass: 90 pulses give 81,196 mL, 1,806,253 J and 903 kW, and leave 683 µL. -/
theorem test_measureStage_worked_case :
    let p := passOf .sampled
    let s := withPass
      { p with sampled := { p.sampled with counts := p.sampled.counts.set 0 90, ch4 := 620 } }
      { State.reset with channels := ⟨[⟨0, false, 0, 0⟩, ⟨180, false, 0, 180⟩, ⟨350, false, 0, 350⟩,
                                       ⟨620, false, 0, 620⟩, ⟨0, false, 0, 0⟩], rfl⟩ }
    ((after .measureStage s).balance.pass.map fun q => q.measured.figures.get 0) = some ⟨81196, 1806253, 903⟩ ∧
      (after .measureStage s).normalizer.carries.get 0 = 683 := by decide +kernel
/-- R10, R33, R41: the same pass with M1's flag written since the sample stage leaves M1's held rate and carry at 0, and a
CONFIGURE of the flag tells the pass so. -/
theorem test_measureStage_leaves_a_changed_line :
    let p := passOf .sampled
    let s := withPass
      { p with sampled := { p.sampled with
          counts := p.sampled.counts.set 0 90, ch4 := 620, lineChanged := p.sampled.lineChanged.set 0 true } }
      { State.reset with channels := ⟨[⟨0, false, 0, 0⟩, ⟨180, false, 0, 180⟩, ⟨350, false, 0, 350⟩,
                                       ⟨620, false, 0, 620⟩, ⟨0, false, 0, 0⟩], rfl⟩ }
    ((after .measureStage s).meters.get 0).heldRate = 0 ∧ (after .measureStage s).normalizer.carries.get 0 = 0 ∧
      ((after (.configure 0 0x111 0) (passAt .sampled)).balance.pass.map fun q => q.sampled.lineChanged) =
        some ((Tab.fill 6 false).set 0 true) := by decide +kernel
/-- Section 3.3: 625 from band 5 selects band 6; section 3.4 (R44): a step of level is worth 44,491 kJ at 2,000 m³. -/
theorem test_holderStage_band_and_inventory :
    let p := passOf .measured
    let s := withPass { p with sampled := { p.sampled with ch4 := 620 } }
      { State.reset with
        channels := State.reset.channels.set chA1 ⟨625, false, 0, 625⟩
        config := { defaultConfig with capacity := 2000 }
        holder := { State.reset.holder with band := .row 5, prevLevel := 624 } }
    (after .holderStage s).holder.band = .row 6 ∧ (after .holderStage s).holder.deltaI = 44491 := by decide +kernel
theorem test_snapshotStage_forms_D :
    let p := passOf .held
    ((after .snapshotStage (withPass { p with measured := { p.measured with pF := 2660 } } State.reset)).balance.pass.map
      fun q => q.snapshot.distributable) = some 2660 := by decide +kernel

/-- The working copy of chapter 5's second worked sequence: C1, C2 and C3 at 1,000, 1,000 and 800, C5 at 600. -/
def sheddingWork : Tab 5 WorkClaim :=
  let w := { emptyWork with state := .running, u := 100 }
  ⟨[{ w with m := 300, x := 1000, request := some 1000, allotment := 1000 },
    { w with m := 400, x := 1000, request := some 1000, allotment := 1000 },
    { w with m := 300, x := 800, request := some 800, allotment := 800 }, emptyWork,
    { w with m := 200, x := 600, request := some 600, allotment := 600 }], rfl⟩

/-- The snapped pass of chapter 5's second worked sequence: D = 2,600 kW and four steps. -/
def sheddingPass : Pass :=
  let p := passOf .snapped
  { p with
    snapshot := { p.snapshot with claims := sheddingWork, distributable := 2600, ranks := ⟨[1, 2, 3, 5, 4], rfl⟩
                                  row := { defaultRow with steps := 4 } }
    decisions := { emptyDecisions with work := sheddingWork } }

/-- Chapter 5, a request during a shedding pass: the four records of pass 140. -/
theorem test_shortfallStage_four_steps :
    ((after .shortfallStage (withPass sheddingPass State.reset)).balance.pass.map fun q => q.decisions.toPush) =
      some [⟨4, .trim, 200⟩, ⟨4, .trim, 200⟩, ⟨4, .whole, 200⟩, ⟨2, .trim, 200⟩] := by decide +kernel

/-- A pass with one shed still to push. -/
def pushingPass : Pass :=
  let p := passOf .pushing
  { p with decisions := { emptyDecisions with toPush := [⟨4, .trim, 200⟩], shedMade := true } }

theorem test_shedPush_puts_on_top :
    let t := after .shedPush (withPass pushingPass { State.reset with
      stack := { records := [{ trimC5 with slot := 2 }], changes := 255 } })
    t.stack.records.map (fun r => (r.slot, r.amount, r.passNumber)) = [(4, 200, 1), (2, 200, 120)] ∧
      t.stack.changes = 0 ∧ (t.claims.get 4).withheld = 200 := by decide +kernel
/-- R112: the seventeenth record evicts the bottom one into its slot's orphaned amount. -/
theorem test_shedPush_evicts :
    let t := after .shedPush (withPass pushingPass { State.reset with
      stack := { records := List.replicate 15 { trimC5 with slot := 2 } ++ [trimC5], changes := 0 } })
    t.stack.records.length = 16 ∧ (t.claims.get 4).orphaned = 200 ∧
      alertState .stackOverflow t = .active := by decide +kernel

/-- A popping pass over D = 2,400 kW with C1 at 1,800 kW. -/
def poppingPass : Pass :=
  let p := passOf .popping
  { p with
    snapshot := { p.snapshot with distributable := 2400, row := defaultRow }
    decisions := { emptyDecisions with
      work := emptyDecisions.work.set 0
        { emptyWork with state := .running, x := 1800, request := some 1800 } } }

theorem test_restoreStage_goes_on_to_pop :
    let p := { passOf .pushing with snapshot := { (passOf .pushing).snapshot with row := defaultRow } }
    ((after .restoreStage (withPass p { State.reset with stack := ⟨[trimC5], 0⟩ })).balance.pass.map (·.stage)) =
      some .popping := by decide +kernel
/-- R98: 1,800 + 200 + 100 ≤ 2,400, so the record is popped. -/
theorem test_pop_fits :
    (after .pop (withPass poppingPass { State.reset with stack := ⟨[trimC5], 7⟩ })).stack = ⟨[], 8⟩ := by
  decide +kernel

/-- Chapter 5, pass 150: S_c 1,800, D 2,100; C2 (m 400) does not fit, C5 (m 200) does. -/
def admissionPass : Pass :=
  let p := passOf .restored
  let w := { emptyWork with state := .running, m := 100 }
  { p with
    snapshot := { p.snapshot with distributable := 2100, row := defaultRow, ranks := ⟨[1, 2, 3, 5, 4], rfl⟩ }
    decisions := { emptyDecisions with
      work := ⟨[{ w with x := 1000, request := some 1000 },
        { emptyWork with state := .waiting, m := 400, x := 1000, request := some 1000 },
        { w with x := 800, request := some 800 }, emptyWork,
        { emptyWork with state := .waiting, m := 200, x := 600, request := some 600 }], rfl⟩ } }

theorem test_admissionStage_on_the_minimum :
    ((after .admissionStage (withPass admissionPass State.reset)).balance.pass.map fun q =>
      (q.decisions.admitted, q.decisions.sumCeilings)) = some (some 4, 2400) := by decide +kernel

/-- Chapter 4, first worked sequence: RUNNING at 400 of 1,000, soft ramp 12 in C1 and ramp 100 in C2. -/
def allotmentPass : Pass :=
  let p := passOf .admitted
  let w := { emptyWork with state := .running, m := 400, x := 1200, u := 100, request := some 1000
                            allotment := 400 }
  { p with decisions := { emptyDecisions with
      work := (emptyDecisions.work.set 0 { w with soft := true }).set 1 w } }

theorem test_allotmentStage_ramps :
    ((after .allotmentStage (withPass allotmentPass State.reset)).balance.pass.map fun q =>
      (q.decisions.allotments.get 0, q.decisions.allotments.get 1, q.decisions.sumAllotments)) =
        some (412, 500, 912) := by decide +kernel

/-- A pass at its flare stage with 400 kW left over and a flare row. -/
def flarePass : Pass :=
  let p := passOf .allotted
  { p with
    snapshot := { p.snapshot with distributable := 1000, flareMin := 300, flareMax := 3000
                                  row := { defaultRow with flare := true } }
    decisions := { emptyDecisions with sumAllotments := 600 } }

/-- Chapter 7, pass 400: the pass demand of 400 calls a ready flare. -/
theorem test_flareStage_calls :
    let t := after .flareStage (withPass flarePass
      (withFlare (fun f => { f with permit := true, report := ⟨false, true, false⟩ }) State.reset))
    t.flare.state = .called ∧ t.flare.attempts = 1 ∧ t.flare.demand = 400 := by decide +kernel

/-- Chapter 4, an AMEND during a pass: a moved epoch discards the result of 800, an unmoved one takes it. -/
theorem test_applyStage_judges_the_epoch :
    let p := passOf .flared
    let d := { emptyDecisions with
      work := emptyDecisions.work.set 0 { emptyWork with state := .running, x := 1200, request := some 1000 }
      allotments := emptyDecisions.allotments.set 0 800 }
    let run := fun epoch => ((after .applyStage (withPass
      { p with decisions := d
               snapshot := { p.snapshot with claims := p.snapshot.claims.set 0 { emptyWork with epoch } } }
      (inState .running))).claims.get 0).allotment
    run 2 = 800 ∧ run 1 = 400 := by decide +kernel
theorem test_holdTimerExpiry :
    (after .holdTimerExpiry { State.reset with
      quality := { State.reset.quality with source := .held, ch4 := 700, hold := some 300000 } }).quality =
        { State.reset.quality with source := .substituted, ch4 := 600, h2s := 0 } := by decide +kernel
theorem test_qualityResume_refused :
    answerStatus 0 (after (.qualityResume 0) State.reset) = some .refusedState := by decide +kernel
/-- Chapter 4, first worked sequence: REGISTER(400, 1,200, 100) moves the epoch from 0 to 1. -/
theorem test_register :
    (after (.register 2 400 1200 100) State.reset).claims.get 1 =
      { vacantClaim with state := .idle, limits := some ⟨400, 1200, 100⟩, epoch := 1 } := by decide +kernel
theorem test_claim :
    ((after (.claim 1 1000) (inState .idle)).claims.get 0).state = .waiting ∧
      answerStatus 1 (after (.claim 1 2000) (inState .idle)) = some .clamped := by decide +kernel
/-- Chapter 4, an AMEND during a pass: the allotment falls to the new r and the epoch moves once. -/
theorem test_amend_lowers_allotment :
    let c := (after (.amend 1 400) (withClaimAllotment 700)).claims.get 0
    c.request = some 400 ∧ c.allotment = 400 ∧ c.epoch = 3 := by decide +kernel
/-- Chapter 4: REPORT(running, 380) in ADMITTED; a stopped report in RUNNING is a trip (R65). -/
theorem test_report :
    (after (.report 1 true 380) (inState .admitted)).claims.get 0 =
        { claimIn .admitted with state := .running, start := none, lastRate := 380, epoch := 3 } ∧
      alertState (.trip 0) (after (.report 1 false 0) (inState .running)) = .active := by decide +kernel
theorem test_release :
    ((after (.release 1) (inState .running)).claims.get 0).state = .idle ∧
      answerStatus 1 (after (.release 1) State.reset) = some .notRegistered := by decide +kernel
/-- Chapter 4, a lapse with a supervisor hold: r and standing stay. -/
theorem test_leaseTimerExpiry :
    let c := (after (.leaseTimerExpiry 0) (inState .locked)).claims.get 0
    c.state = .lapsed ∧ c.request = some 1000 ∧ c.standing = true ∧ c.epoch = 3 := by decide +kernel
theorem test_startTimerExpiry :
    ((after (.startTimerExpiry 0) (inState .admitted)).claims.get 0).state = .idle := by decide +kernel
theorem test_holdSlots :
    ((after (.holdSlots 0 1 true) (inState .waiting)).claims.get 0).state = .locked ∧
      answerStatus 0 (after (.holdSlots 0 32 true) State.reset) = some .refusedUnknown := by decide +kernel
theorem test_forceVacant :
    (after (.forceVacant 0 1) (inState .locked)).claims.get 0 =
      { vacantClaim with locks := { noLocks with estop := true }, epoch := 3 } := by decide +kernel
/-- R81: state 4 (RUNNING), kind 0, then m 400, x 1,200 and u 100. -/
theorem test_readClaim :
    ((answerPayload 0 (after (.readClaim 0 1) (inState .running))).map fun p => (p.head?, p.take 8)) =
      some (some 4, [4, 0, 0x01, 0x90, 0x04, 0xB0, 0x00, 0x64]) := by decide +kernel
/-- R119, R166: depth 1, no overflow, change count 1, no orphaned amount, then C5's TRIM of 200 kW. -/
theorem test_readStack :
    answerPayload 0 (after (.readStack 0 0) { State.reset with stack := ⟨[trimC5], 1⟩ }) =
      some ([1, 0, 1] ++ List.replicate 20 0 ++ [0, 5, 0, 0, 200, 5, 0, 120, 1]) := by decide +kernel
theorem test_readStack_refused :
    answerStatus 0 (after (.readStack 0 16) State.reset) = some .refusedUnknown := by decide +kernel
/-- Chapter 7: a fault report in CALLED ends the attempt; at the attempts setting it is FAILED. -/
theorem test_flareStatus :
    (after (.flareStatus 6 false true true) (flareIn .called 1)).flare.attempts = 2 ∧
      (after (.flareStatus 6 false true false) (flareIn .burning 3)).flare.state = .failed := by decide +kernel
theorem test_ignitionTimerExpiry :
    (after .ignitionTimerExpiry (flareIn .called 2)).flare.attempts = 3 := by decide +kernel
theorem test_minimumBurnTimerExpiry :
    (after .minimumBurnTimerExpiry (flareIn .holding 1)).flare.state = .off := by decide +kernel
theorem test_burnTimeSecond :
    (after .burnTimeSecond (flareIn .burning 1)).flare.burnSeconds = 1 := by decide +kernel
/-- Chapter 7: FLARE_RESET at 880.0 returns to CALLED with attempt 1 and the held demand. -/
theorem test_flareReset :
    let f := (after (.flareReset 0) (flareIn .failed 3)).flare
    f.state = .called ∧ f.attempts = 1 ∧ f.demand = 400 := by decide +kernel
theorem test_flarePermit_cleared :
    (after (.flarePermit 0 false) (flareIn .burning 1)).flare.state = .off := by decide +kernel
theorem test_switchBank :
    (after (.switchBank 0 3) State.reset).policy.switch = some 3 ∧
      (after (.switchBank 0 0) State.reset).policy.switch = none := by decide +kernel
theorem test_writeRow_active_refused :
    answerStatus 0 (after (.writeRow 0 0 0 defaultRow) State.reset) = some .bankActive ∧
      answerStatus 0 (after (.writeRow 0 1 8 defaultRow) State.reset) = some .refusedUnknown := by decide +kernel
theorem test_writeRow_clamps :
    let t := after (.writeRow 0 1 16 { defaultRow with trim := -6000, shedStep := 0 }) State.reset
    (t.config.banks.get 1).fall = { defaultRow with trim := -5000, shedStep := 1 } ∧
      answerStatus 0 t = some .clamped := by decide +kernel
theorem test_setRank :
    ((after (.setRank 0 1 5 9) State.reset).config.banks.get 1).ranks.get 4 = 8 := by decide +kernel
theorem test_setLimits :
    (after (.setLimits 0 1 300) (inState .running)).claims.get 0 =
      { claimIn .running with limits := some ⟨300, 300, 100⟩, request := some 300, allotment := 300
                              epoch := 3 } := by decide +kernel
theorem test_readBank :
    ((answerPayload 0 (after (.readBank 0 1 0) State.reset)).map fun p => p.take 10) =
      some [8, 0, 100, 0, 20, 1, 2, 3, 4, 5] := by decide +kernel
theorem test_configure_clamps_and_refuses :
    (after (.configure 0 1 0) State.reset).config.period = 1 ∧
      answerStatus 0 (after (.configure 0 1 0) State.reset) = some .clamped ∧
      answerStatus 0 (after (.configure 0 0x12 1000) State.reset) = some .refusedState := by decide +kernel
theorem test_configureBandGeometry :
    ((after (.configureBandGeometry 0 2 .count 20) State.reset).config.banks.get 2).count = 16 := by decide +kernel
theorem test_configureEventBinding :
    (after (.configureEventBinding 0 1 0x603) State.reset).config.bindings.get 0 =
      some ⟨.flareFailed, 3⟩ := by decide +kernel

/-- The body of a RELEASE frame on link 1, closed by its CRC. -/
def releaseBody : List Byte := withCrc [0x01, 0x14, 0x00]

theorem test_frameReceived_holds_or_discards :
    ((after (.frameReceived 1) (portOn { huntPort with state := .receive, body := releaseBody })).ports.get 1).held =
        some ⟨0x14, []⟩ ∧
      ((after (.frameReceived 1)
        (portOn { huntPort with state := .receive, body := [0x01, 0x14, 0x00, 0, 0] })).ports.get 1) = huntPort := by
  decide +kernel
theorem test_gapTimerExpiry :
    (after (.gapTimerExpiry 1) (portOn { huntPort with state := .receive, body := [1], gap := some 6 })).ports.get 1 =
      huntPort := by decide +kernel
theorem test_answerSent :
    (after (.answerSent 1) (portOn { huntPort with state := .send })).ports.get 1 = huntPort := by decide +kernel
theorem test_unknownRequest :
    answerStatus 1 (after (.unknownRequest 1 0x77) State.reset) = some .refusedUnknown := by decide +kernel
/-- Section 9.5: the slot summary is 11 bytes, and link 1 answers with it alone. -/
theorem test_readStatus_summary :
    answerPayload 1 (after (.readStatus 1 0) (inState .running)) =
      some [4, 0x01, 0x90, 0x03, 0xE8, 0, 0, 0, 0, 0, 0] := by decide +kernel
theorem test_ackAlerts :
    alertState (.trip 0) (after (.ackAlerts 0) { State.reset with
      alerts := State.reset.alerts.set (alertNumber (.trip 0)) .latched }) = .clear ∧
      alertState .totalsLost (after (.ackAlerts 0) State.reset) = .active := by decide +kernel
theorem test_setClock :
    (after (.setClock 0 ⟨2025, 3, 5, 7, 30, 0⟩) State.reset).totals.clockUnset = false ∧
      answerStatus 0 (after (.setClock 0 ⟨2025, 2, 29, 0, 0, 0⟩) State.reset) = some .refusedUnknown := by
  decide +kernel
theorem test_readTotals_refused :
    answerStatus 0 (after (.readTotals 0 2 0) State.reset) = some .refusedUnknown := by decide +kernel
theorem test_saveConfig :
    (after (.saveConfig 0) State.reset).store.saving = some 0 ∧
      answerStatus 0 (after (.saveConfig 0) saving) = some .busy := by decide +kernel
theorem test_saveEnd :
    (after .saveEnd saving).store.checkAgrees = true ∧ (after .saveEnd saving).store.defaulted = false := by
  decide +kernel
theorem test_restart : (after (.restart 0) State.reset).restartPending = true := by decide +kernel
theorem test_restartTakesPlace :
    (after (.restartTakesPlace sampleAmps) { inState .running with restartPending := true }).claims.get 0 =
      vacantClaim := by decide +kernel
theorem test_byteReceived_start : ((after (.byteReceived 1 0xA5) State.reset).ports.get 1).state = .receive := by
  decide +kernel
theorem test_byteReceived_escape :
    ((after (.byteReceived 1 0x03) (portOn { huntPort with state := .receive, escaped := true, gap := some 1 })).ports.get
      1).body = [0x5A] := by decide +kernel
/-- The host's two questions (no row has bits): nothing is put in front of the queue. -/
theorem test_withFetchWord : State.reset.withFetchWord 8 0x30 = State.reset := by decide +kernel

/-! ## Witnesses: states and operands that meet the hypotheses of each statement, clause by clause -/

/-- A plant at work: C1 RUNNING with its stall timer running, one record of C5 on the stack, a pulse waiting. -/
def busy : State :=
  { inState .running with
    claims := (inState .running).claims.set 4 { claimIn .shed with withheld := 200 }
    stack := { records := [trimC5], changes := 1 }
    meters := State.reset.meters.set 6 (startMeter (some 0))
    pending := [.pulse 0] }

/-- A timer that has run for `ms`, and one that has not. -/
theorem hasRun {t : Timer} {ms : Nat} (h : timerAtLeast t ms = true) : HasRun t ms := (timerAtLeast_iff t ms).1 h
theorem notRun {t : Timer} {ms : Nat} (h : timerAtLeast t ms = false) : ¬HasRun t ms := fun e => by
  simp [(timerAtLeast_iff t ms).2 e] at h

theorem witness_StepRunsFrontCommand : busy.pending = Instr.pulse 0 :: [] := rfl
theorem witness_EmptyQueueLetsTimePass :
    (stallingAt 60000).pending = [] ∧ dueNow (stallingAt 60000) (.stallTimerExpiry 0) ∧
      State.reset.pending = [] ∧ State.reset.supplied = true ∧ ∀ i, ¬dueNow State.reset i := by
  refine ⟨rfl, ⟨rfl, hasRun (by decide)⟩, rfl, rfl, ?_⟩
  have ports : ∀ l : Link, State.reset.ports.get l = huntPort := by decide
  have stalls : ∀ m : Meter, ¬HasRun (State.reset.meters.get m).stallTimer (State.reset.config.stallTime * 1000) :=
    fun m => notRun (by revert m; decide)
  have rests : ∀ k : Contact, ¬HasRun (State.reset.contacts.get k).timer 200 := fun k => notRun (by revert k; decide)
  have vacant : ∀ c : Slot, State.reset.claims.get c = vacantClaim := by decide
  intro i
  cases i with
  | stallTimerExpiry m => exact fun h => stalls m h.2
  | debounceExpiry k => exact fun h => rests k h.2
  | _ => simp_all [dueNow, huntPort, vacantClaim, leased, State.reset, startFlare, resetTotals, HasRun]
theorem witness_EveryCommandAnswersANextState :
    ({ busy with supplied := false }).supplied = false ∧ (∀ k b, Instr.pulse 0 ≠ .contactChange k b) ∧
      Instr.pulse 0 ≠ .powerFail ∧ (∀ a x y z, Instr.pulse 0 ≠ .powerOnStart a x y z) ∧
      Instr.pulse 0 ≠ .clockSecond := ⟨rfl, nofun, nofun, nofun, nofun⟩
theorem witness_RefusedRequestsChangeNothing :
    encodeRequest (.release 0) = some (0, 0x14, []) ∧ codeAllowed 0 0x14 = false ∧ busy.supplied = true ∧
      encodeRequest (.readStack 0 16) = some (0, 0x41, [16]) ∧
      answerStatus 0 (after (.readStack 0 16) busy) = some .refusedUnknown := by decide +kernel
theorem witness_EveryRequestIsAnsweredAtOnce :
    encodeRequest (.release 1) = some (1, 0x14, []) ∧ busy.supplied = true ∧
      ((portOn { huntPort with state := .hold }).ports.get 1).state = .hold := by decide +kernel
theorem witness_RequestPayloadReadsBack :
    wellFormed (.claim 1 65535) = true ∧ encodeRequest (.claim 1 65535) = some (1, 0x11, [255, 255]) ∧
      codeAllowed 1 0x11 = true := by decide +kernel
theorem witness_FrameBytesReachHold :
    checkRequest 1 0x11 [0xA5, 0x5A] = .request (.claim 1 0xA55A) ∧ State.reset.supplied = true ∧
      (State.reset.ports.get 1).state = .hunt ∧
      ({ State.reset with pending := (requestFrame 1 0x11 [0xA5, 0x5A]).map (fun b => Instr.byteReceived 1 b) ++
        [Instr.frameReceived 1] }).pending.length = 11 := by decide +kernel

theorem busy_steps : ∃ t, step busy = .next t := ⟨_, rfl⟩
/-- The plant at work with a pass that has pushed C5's record and is about to be applied, no epoch having moved. -/
def applying : State :=
  let work : Tab 5 WorkClaim := Tab.gen fun c => copyClaim (busy.claims.get c)
  { withPass
      { passOf .flared with
        snapshot := { (passOf .flared).snapshot with claims := work }
        decisions := { emptyDecisions with work, allotments := Tab.gen fun c => (work.get c).allotment } } busy with
    pending := [.applyStage] }

theorem applying_sound : ApplyStageSound applying := fun _ _ =>
  ⟨by decide +kernel, by decide +kernel, by decide +kernel⟩
/-- R110, R116: before the apply stage the marked record is judged by the snapshot, after it by the live claim. -/
theorem test_applyStage_clears_the_mark :
    RecordsNamed applying ∧ RecordsNamed (after .applyStage applying) ∧
      (after .applyStage applying).stack.records = [{ trimC5 with pending := false }] := by decide +kernel
theorem witness_StackBoundAndWithheldKept :
    StackBounded busy ∧ WithheldAccounted busy ∧ RecordsNamed applying ∧ ApplyStageSound applying ∧
      applying.pending = .applyStage :: [] :=
  ⟨by decide +kernel, by decide +kernel, by decide +kernel, applying_sound, rfl⟩
theorem witness_StallTimersFollowFlowKept : StallTimersFollow busy := by decide +kernel
/-- The plant at work with a pass whose snapshot has just been taken. -/
def snapped : State := after .snapshotStage (withPass (passOf .held) busy)

theorem witness_NoAllotmentWithoutGasKept :
    AllotmentOnlyHolders busy ∧ ClaimsInOrder snapped ∧ EpochsTell snapped ∧
      (snapped.balance.pass.map (·.stage)) = some .snapped ∧ (snapped.claims.get 0).state = .running ∧
      busy.pending ≠ [] ∧ ∀ rest, busy.pending ≠ .applyStage :: rest :=
  ⟨by decide +kernel, ⟨by decide +kernel, by decide +kernel⟩, by decide +kernel, by decide +kernel, by decide +kernel,
    by decide, nofun⟩
/-- With the apply stage at the front of the queue, and a LOCKED claim with its cause where it is not. -/
theorem witness_LockCausesKeepGasAwayKept :
    LocksHold applying ∧ ApplyStageSound applying ∧ LocksHold (inState .locked) ∧
      ((inState .locked).claims.get 0).locks.empty = false ∧ ∀ rest, (inState .locked).pending ≠ .applyStage :: rest :=
  ⟨by decide +kernel, applying_sound, by decide +kernel, by decide +kernel, nofun⟩
theorem witness_config_in_range : ConfigInRange defaultConfig :=
  ⟨by decide +kernel, by decide, by decide, by decide +kernel, by decide +kernel, by decide +kernel⟩
theorem witness_FlareDemandInRangeKept : SettingsInRange busy ∧ FlareInRange busy :=
  ⟨⟨witness_config_in_range, witness_config_in_range⟩, by decide +kernel⟩
theorem witness_SettingsAndMeasuredValuesKept : SettingsInRange busy ∧ ReadingsInRange busy ∧ QualityInRange busy :=
  ⟨⟨witness_config_in_range, witness_config_in_range⟩, by decide +kernel, by decide +kernel⟩
theorem witness_CountsSwitchAndPortsKept : CountsInRange busy ∧ SwitchNotActive busy ∧ PortsBounded busy := by
  decide +kernel
theorem witness_TotalsInRangeKept : TotalsInRange busy := by decide +kernel

/-- M1 with the record given. -/
def withMeter (r : MeterRec) : State := { State.reset with meters := State.reset.meters.set 0 r }

theorem witness_PulsesAndStallTimerAct :
    ((withMeter { startMeter none with count := 65535 }).meters.get 0).count = 65535 ∧
      HasRun ((stallingAt 60000).meters.get 0).stallTimer ((stallingAt 60000).config.stallTime * 1000) ∧
      ¬HasRun ((stallingAt 59999).meters.get 0).stallTimer ((stallingAt 59999).config.stallTime * 1000) ∧
      lineCounted State.reset 0 = true ∧
      lineCounted { State.reset with config := { defaultConfig with inUse := Tab.fill 6 false } } 0 = false :=
  ⟨by decide +kernel, hasRun (by decide +kernel), notRun (by decide +kernel), by decide +kernel, by decide +kernel⟩
theorem witness_RawContactStartsOrStopsDebounce : State.reset.supplied = true := rfl

/-- Contact `k` about to take its raw state. -/
def debouncing (k : Contact) (raw : Bool) : State :=
  { State.reset with contacts := State.reset.contacts.set k ⟨raw, !raw, some 200⟩ }

theorem witness_DebouncedContactReachesReceivers :
    ∀ k : Contact, ∀ raw : Bool, (debouncing k raw).supplied = true ∧
      HasRun ((debouncing k raw).contacts.get k).timer 200 ∧ ((debouncing k raw).contacts.get k).raw = raw ∧
      ((debouncing k raw).contacts.get k).debounced = !raw :=
  fun k raw => ⟨rfl, hasRun (by revert k raw; decide +kernel), by revert k raw; decide +kernel,
    by revert k raw; decide +kernel⟩
/-- A debounce timer one millisecond short, and a LIVE monitor with either hold time (R22, R23). -/
theorem witness_debounce_early_and_live :
    ¬HasRun (({ State.reset with contacts := State.reset.contacts.set conK1 ⟨true, false, some 199⟩ } :
      State).contacts.get conK1).timer 200 ∧
    (∀ hold : Nat, ({ debouncing conK1 false with
      quality := { State.reset.quality with source := .live }
      config := { defaultConfig with qualityHold := hold } }).quality.source = .live) ∧
    State.reset.holder.overfill = false ∧ State.reset.holder.band ≠ .fallThrough :=
  ⟨notRun (by decide +kernel), fun _ => rfl, rfl, nofun⟩
theorem witness_LockCauseMovesClaim :
    ∀ st ∈ claimStates, WithheldAccounted (inState st) ∧ ((inState st).claims.get 0).state = st ∧
      ((inState st).claims.get 0).locks.has .sour = false ∧
      (((inState st).claims.get 0).locks.has .estop = true ↔ st = .locked) := by decide +kernel
theorem witness_SampleIsScaledClampedOrHeld :
    (fullRanges.get chA1).lo < (fullRanges.get chA1).hi ∧
      classify (fullRanges.get chA1) 4000 = .good 0 ∧ classify (fullRanges.get chA1) 20000 = .good 1000 ∧
      classify (fullRanges.get chA1) 3600 = .clampLow 0 ∧ classify (fullRanges.get chA1) 3999 = .clampLow 0 ∧
      classify (fullRanges.get chA1) 20001 = .clampHigh 1000 ∧ classify (fullRanges.get chA1) 21000 = .clampHigh 1000 ∧
      classify (fullRanges.get chA1) 3599 = .fault ∧ classify (fullRanges.get chA1) 21001 = .fault := by decide
/-- C1 RUNNING on 400 kW with a stalled Q1, and a sour condition one pass short of its persistence. -/
def souring : State :=
  { inState .running with
    balance := (passAt .banked).balance
    meters := State.reset.meters.set 6 { startMeter none with stalled := true, recovery := 2, count := 3 }
    quality := { State.reset.quality with h2s := 301, high := 4 } }

/-- R5, R7, R28, R70: the onset at this sample stage locks C1, so the stall of Q1 ends and no timer runs. -/
theorem test_sampleStage_sour_ends_a_stall :
    let t := after (.sampleStage sampleAmps) souring
    (t.claims.get 0).state = .locked ∧ t.meters.get 6 = startMeter none ∧ flowExpected souring 6 = true ∧
      flowExpected t 6 = false ∧ flowExpected souring 0 = flowExpected t 0 := by decide +kernel
theorem witness_SampleStageSnapshotsTheField :
    souring.supplied = true ∧ souring.balance.pass = some (passOf .banked) ∧ (passOf .banked).stage = .banked ∧
      (passAt .banked).balance.pass = some (passOf .banked) ∧ (souring.meters.get 6).stalled = true ∧
      0 < (souring.meters.get 6).count ∧ 2 ≤ (souring.meters.get 6).recovery := by decide +kernel
/-- K1 closed, no channel in fault and CH4 at the top of the plausible band. -/
def resumable : State :=
  { debouncing conK1 false with
    channels := (Tab.fill 5 ⟨0, false, 0, 0⟩ : Tab 5 ChannelRec).set chA4 ⟨900, false, 0, 900⟩ }

theorem witness_QualityLeavesHeldAsStated :
    (∀ q : QualitySource, q ∈ [QualitySource.live, .held, .substituted] →
      ({ State.reset with quality := { State.reset.quality with source := q } }).quality.source = q) ∧
    HasRun (some 300000) (State.reset.config.qualityHold * 1000) ∧
    ¬HasRun (some 299999) (State.reset.config.qualityHold * 1000) ∧
    (resumable.contacts.get conK1).debounced = true ∧ (resumable.channels.get chA4).fault = false ∧
    (resumable.channels.get chA5).fault = false ∧ within 300 900 (resumable.channels.get chA4).reading ∧
    (State.reset.channels.get chA4).fault = true :=
  ⟨by decide +kernel, hasRun (by decide), notRun (by decide), by decide +kernel, by decide +kernel,
    by decide +kernel, by decide +kernel, by decide +kernel⟩
theorem witness_SourConditionNeedsItsPersistence :
    State.reset.config.sourLimit < 301 ∧ (300 : Nat) ≤ State.reset.config.sourLimit ∧
      State.reset.quality.high + 1 < State.reset.config.sourPersistence ∧
      State.reset.config.sourPersistence ≤ 4 + 1 ∧ State.reset.quality.sour = false ∧
      249 < State.reset.config.sourLimit - State.reset.config.sourHysteresis := by decide +kernel
theorem witness_MeasureStageFormsThePassFigures :
    (passAt .sampled).supplied = true ∧ (passAt .sampled).balance.pass = some (passOf .sampled) ∧
      passInUse (passOf .sampled).settings.inUse 0 = true ∧ (passOf .sampled).sampled.lineChanged.get 0 = false ∧
      ((passOf .sampled).sampled.lineChanged.set 5 true).get 5 = true ∧ lineMeter 5 = 5 ∧
      passInUse (Tab.fill 6 false) 0 = false ∧ (passOf .sampled).sampled.substitutes.get 0 = none ∧
      1 ≤ (passOf .sampled).period ∧
      (after (.sampleStage sampleAmps) (withPass (passOf .banked)
        (withMeter { startMeter none with stalled := true, heldRate := 500 }))).balance.pass.map
          (fun q => q.sampled.substitutes.get 0) = some (some 500) := by
  decide +kernel
theorem witness_HolderStageFormsLevelAndOverrides :
    (passAt .measured).supplied = true ∧ (passAt .measured).balance.pass = some (passOf .measured) ∧
      (passOf .measured).switched = false ∧ (beginPass defaultConfig 2 true).switched = true ∧
      ((passAt .measured).channels.get chA1).fault = true ∧ (resumable.channels.get chA1).fault = false ∧
      (passOf .measured).sampled.a1Ended = false ∧
      (passAt .measured).holder.window + 1 < (passAt .measured).config.balanceWindow ∧
      (passAt .measured).config.balanceWindow ≤ 149 + 1 := by decide +kernel
/-- R53 to R55, R150: a full holder leaves band 0, overfills by its row, and a mismatch window that ends out of
tolerance fires its binding. -/
theorem test_holderStage_conditions :
    let s := withPass (passOf .measured)
      { State.reset with
        channels := State.reset.channels.set chA1 ⟨1000, false, 0, 1000⟩
        config := { defaultConfig with bindings := (Tab.fill 6 none).set 5 (some ⟨.mismatch, 3⟩) }
        holder := { State.reset.holder with accumulator := 180001, window := 149, prevLevel := 1000 } }
    let t := after .holderStage s
    t.holder.band = .fallThrough ∧ alertState .holderOverfill t = .active ∧ alertState .holderLow t ≠ .active ∧
      alertState .balanceMismatch t = .active ∧ t.policy.switch = some 3 ∧ t.holder.accumulator = 0 := by
  decide +kernel
theorem witness_FilterAndBandSettle :
    ((880 : Int) - 903).tdiv (2 ^ 2) ≠ 0 ∧ ((901 : Int) - 903).tdiv (2 ^ 2) = 0 ∧ BankInRange defaultBank ∧
      selectBand defaultBank 120 (.row 0) ≠ .row 0 ∧
      (0 : Nat) < Nat.min ((120 - defaultBank.hysteresis) / defaultBank.width) defaultBank.count ∧
      Nat.min ((779 + defaultBank.hysteresis) / defaultBank.width) defaultBank.count < defaultBank.count := by
  decide +kernel
/-- REGISTER, CLAIM, AMEND, REPORT and RELEASE on link 1, in every claim state. -/
theorem witness_consumer_requests :
    linkSlot 1 = some 0 ∧ ∀ st ∈ claimStates, (inState st).supplied = true ∧
      ((inState st).claims.get 0).state = st ∧ WithheldAccounted (inState st) := by decide +kernel
theorem witness_standing_clear :
    ({ claimIn .locked with standing := false }).state = .locked ∧
      ({ claimIn .locked with standing := false }).standing = false := by decide +kernel
theorem witness_LeaseAndStartExpiryEndTheClaim :
    leased ((inState .locked).claims.get 0).state = true ∧
      HasRun ((inState .locked).claims.get 0).lease (State.reset.config.lease * 1000) ∧
      ¬HasRun (some 9999) (State.reset.config.lease * 1000) ∧
      HasRun ((inState .admitted).claims.get 0).start (State.reset.config.startTimeout * 1000) ∧
      ¬HasRun (some 119999) (State.reset.config.startTimeout * 1000) ∧ WithheldAccounted (inState .admitted) ∧
      leased ((inState .idle).claims.get 0).state = false :=
  ⟨by decide +kernel, hasRun (by decide +kernel), notRun (by decide), hasRun (by decide +kernel), notRun (by decide),
    by decide +kernel, by decide +kernel⟩
theorem witness_SupervisorHoldsAndForcesVacant :
    busy.supplied = true ∧ WithheldAccounted busy ∧ (1 : Nat).testBit (0 : Slot).val = true ∧
      (31 : Nat).testBit (4 : Slot).val = true ∧ (1 : Nat).testBit (4 : Slot).val = false ∧
      (5 : Nat) = (4 : Slot).val + 1 ∧ (busy.claims.get 4).state ≠ .vacant ∧ (busy.claims.get 1).state = .vacant := by
  decide +kernel
theorem witness_EpochMovesOncePerCountedChange :
    exec (.release 1) busy = .next (after (.release 1) busy) ∧
      sameCounted (busy.claims.get 0) ((after (.release 1) busy).claims.get 0) = false ∧
      Instr.release 1 ≠ .applyStage ∧ Instr.release 1 ≠ .shedPush := ⟨rfl, by decide +kernel, nofun, nofun⟩
theorem witness_PassBeginsAtTimerExpiry :
    busy.supplied = true ∧ busy.balance.pass = none ∧ busy.policy.switch = none ∧
      busy.balance.timer < busy.balance.period * 1000 ∧ busy.balance.period * 1000 ≤ 2000 ∧
      (passAt .banked).balance.pass ≠ none ∧ (after (.switchBank 0 3) busy).policy.switch = some 3 := by
  decide +kernel
theorem witness_SnapshotCopiesClaimsAndFormsD :
    (passAt .held).supplied = true ∧ (passAt .held).balance.pass = some (passOf .held) ∧
      (passOf .held).stage = .held := by decide +kernel
/-- The pass of chapter 5's second worked sequence on a row with cut all as given, in a pressure-low state as given. -/
def cuttingPass (cutAll pressureLow : Bool) : Pass :=
  { sheddingPass with
    snapshot := { sheddingPass.snapshot with row := { sheddingPass.snapshot.row with cutAll } }
    handed := { sheddingPass.handed with pressureLow } }

/-- R92, R93: a cut-all pushes WHOLE records of the ceilings, the claim of lowest rank first. -/
theorem test_shortfallStage_cuts_all_from_the_lowest_rank :
    ((after .shortfallStage (withPass (cuttingPass true false) State.reset)).balance.pass.map fun q =>
      q.decisions.toPush) = some [⟨4, .whole, 600⟩, ⟨2, .whole, 800⟩, ⟨1, .whole, 1000⟩, ⟨0, .whole, 1000⟩] := by
  decide +kernel

/-- The shed kind the shortfall stage gives the pass. -/
def kindOf (p : Pass) : Option ShedReport :=
  (after .shortfallStage (withPass p State.reset)).balance.pass.map (·.decisions.kind)

/-- R108: with cut all and pressure-low together the pass reports cut-all, with nothing left to cut too; else the one
that cuts. -/
theorem test_shortfallStage_kind :
    kindOf (cuttingPass true true) = some .cutAll ∧ kindOf (cuttingPass true false) = some .cutAll ∧
      kindOf (cuttingPass false true) = some .pressureLow ∧ kindOf (cuttingPass false false) = some .steps ∧
      kindOf { cuttingPass true true with decisions := emptyDecisions } = some .cutAll := by decide +kernel

theorem witness_ShortfallStageCutsToFit :
    (∀ cutAll pressureLow : Bool,
      let p := cuttingPass cutAll pressureLow
      (withPass p busy).balance.pass = some p ∧ p.stage = .snapped ∧
        p.decisions = { emptyDecisions with work := p.snapshot.claims } ∧ p.snapshot.row.cutAll = cutAll ∧
        p.handed.pressureLow = pressureLow ∧ holdsGas (p.decisions.work.get 0) = true ∧
        (p.decisions.work.get 0).m ≤ (p.decisions.work.get 0).ceiling ∧ 0 < (p.decisions.work.get 0).ceiling) ∧
    busy.supplied = true ∧ ∀ c : Slot, holdsGas (emptyDecisions.work.get c) = false := by decide +kernel
theorem witness_VictimIsLowestRankAndKeepsItsMinimum :
    victim sheddingPass.snapshot.ranks sheddingWork = some 4 ∧
      victim sheddingPass.snapshot.ranks emptyDecisions.work = none ∧
      (sheddingWork.get 4).m < (sheddingWork.get 4).ceiling ∧
      ({ sheddingWork.get 4 with withheld := 400 }).ceiling ≤ (sheddingWork.get 4).m := by decide +kernel
theorem witness_PushRaisesWithheldAndEvictsTheOldest :
    (withPass pushingPass busy).balance.pass = some pushingPass ∧
      pushingPass.decisions.toPush = ⟨4, .trim, 200⟩ :: [] ∧ busy.stack.records.length < 16 ∧
      List.replicate 16 trimC5 = List.replicate 15 trimC5 ++ [trimC5] := by decide +kernel
theorem witness_RestorePopsOneRecordThatFits :
    (passAt .pushing).balance.pass = some (passOf .pushing) ∧ (passOf .pushing).decisions.toPush = [] ∧
      (withPass poppingPass busy).balance.pass = some poppingPass ∧ busy.stack.records = trimC5 :: [] ∧
      sumCeilings poppingPass.decisions.work + trimC5.amount + poppingPass.snapshot.row.restoreMargin ≤
        poppingPass.snapshot.distributable ∧
      poppingPass.snapshot.distributable <
        sumCeilings poppingPass.decisions.work + 501 + poppingPass.snapshot.row.restoreMargin := by decide +kernel
theorem witness_AdmissionTakesTheFirstThatFits :
    (withPass admissionPass State.reset).balance.pass = some admissionPass ∧
      admissionPass.decisions.shedMade = false ∧ admissionPass.snapshot.row.admits = true ∧
      State.reset.stack.records = [] ∧ (admissionPass.decisions.work.get 4).state = .waiting := by decide +kernel
theorem witness_AllotmentsRampAndNeverExceedCeilings :
    (withPass allotmentPass State.reset).balance.pass = some allotmentPass ∧
      (∀ c : Slot, (allotmentPass.decisions.work.get c).state = .admitted →
        (allotmentPass.decisions.work.get c).m ≤ (allotmentPass.decisions.work.get c).ceiling) ∧
      (allotmentPass.decisions.work.get 1).allotment < (allotmentPass.decisions.work.get 1).ceiling := by
  decide +kernel
theorem witness_FlareStageHandsOverTheCall :
    (∀ st ∈ [FlareState.off, .called, .burning, .holding, .failed],
      (withPass flarePass (flareIn st 1)).balance.pass = some flarePass ∧
        (withPass flarePass (flareIn st 1)).flare.state = st) ∧
      flarePass.snapshot.flareMin ≤ flarePass.snapshot.flareMax ∧
      State.reset.config.flareMin ≤ State.reset.config.flareMax ∧ State.reset.config.minBurn ≠ 0 ∧
      (passOf .allotted).snapshot.row.flare = true := by decide +kernel
theorem witness_ApplyStageWritesOnlyUnmovedClaims :
    (withPass (passOf .flared) busy).balance.pass = some (passOf .flared) ∧ (passOf .flared).stage = .flared ∧
      (busy.claims.get 0).epoch ≠ ((passOf .flared).snapshot.claims.get 0).epoch ∧
      (busy.claims.get 1).epoch = ((passOf .flared).snapshot.claims.get 1).epoch ∧
      (busy.claims.get 1).state = ((passOf .flared).decisions.work.get 1).state ∧
      (busy.claims.get 1).allotment = (passOf .flared).decisions.allotments.get 1 ∧
      (busy.claims.get 0).state ≠ ((passOf .flared).decisions.work.get 0).state := by decide +kernel
/-- R105: a result equal to what the claim holds leaves it as it is, its soft ramp included; a result that raises the
allotment to the ceiling clears soft. -/
theorem test_applyStage_leaves_an_equal_result :
    let soft := { claimIn .running with soft := true }
    let run := fun (request allotment : Nat) =>
      let w := { emptyWork with state := .running, x := 1200, request := some request, epoch := 2 }
      ((after .applyStage (withPass
        { passOf .flared with
          decisions := { emptyDecisions with work := emptyDecisions.work.set 0 w
                                             allotments := emptyDecisions.allotments.set 0 allotment }
          snapshot := { (passOf .flared).snapshot with claims := emptyDecisions.work.set 0 w } }
        { State.reset with claims := State.reset.claims.set 0 soft })).claims.get 0)
    run 400 400 = soft ∧ run 1000 1000 = { soft with allotment := 1000, soft := false } := by decide +kernel
theorem witness_flare_states :
    ∀ st ∈ [FlareState.off, .called, .burning, .holding, .failed], (flareIn st 3).supplied = true ∧
      (flareIn st 3).flare.state = st ∧ (flareIn st 3).flare.heldCall = true ∧ (flareIn st 3).flare.permit = true ∧
      State.reset.config.flareAttempts ≤ (flareIn st 3).flare.attempts ∧
      (flareIn st 2).flare.attempts < State.reset.config.flareAttempts ∧
      (after (.flarePermit 0 false) (flareIn st 3)).flare.permit = false := by decide +kernel
/-- A sequencer that has just failed: FLARE_FAILED is active, and a taken FLARE_RESET leaves it latched (R133). -/
theorem witness_ResetAndPermitAct :
    let s := after (.flareStatus 6 false true false) (flareIn .burning 3)
    s.flare.state = .failed ∧ alertState .flareFailed s = .active ∧
      alertState .flareFailed (after (.flareReset 0) s) = .latched := by decide +kernel
theorem witness_FlareTimersAct :
    HasRun (flareIn .called 2).flare.ignition (State.reset.config.ignitionTimeout * 1000) ∧
      ¬HasRun (some 29999) (State.reset.config.ignitionTimeout * 1000) ∧
      HasRun (flareIn .holding 2).flare.minBurn (State.reset.config.minBurn * 1000) ∧
      ¬HasRun (some 299999) (State.reset.config.minBurn * 1000) ∧ 1000 ≤ (flareIn .burning 2).flare.burnMs ∧
      State.reset.flare.burnMs < 1000 :=
  ⟨hasRun (by decide +kernel), notRun (by decide), hasRun (by decide +kernel), notRun (by decide), by decide +kernel,
    by decide +kernel⟩
theorem witness_BankWritesAreCheckedAndCounted :
    saving.store.saving ≠ none ∧ State.reset.store.saving = none ∧ (3 : Nat) = (3 : BankNo).val ∧
      State.reset.policy.active = 0 ∧ (after (.switchBank 0 3) State.reset).policy.switch = some 3 ∧
      7 < (State.reset.config.banks.get 3).count ∧ ¬8 < (State.reset.config.banks.get 3).count ∧
      BankInRange (State.reset.config.banks.get 3) ∧ RowInRange defaultRow ∧
      ¬RowInRange { defaultRow with trim := 5001 } ∧ within 10 250 (250 : Int) ∧ ¬within 10 250 (251 : Int) ∧
      (State.reset.config.banks.get 3).hysteresis ≤ (250 : Int).toNat / 2 ∧ ¬(50 : Nat) ≤ (99 : Int).toNat / 2 := by
  decide +kernel
theorem witness_BindingsAndLimitsAreWritten :
    bindingOf (-1) = some none ∧ bindingOf 0x100 = some (some ⟨.k2, 0⟩) ∧ bindingOf 0x703 = some (some ⟨.mismatch, 3⟩) ∧
      bindingOf 0x704 = none ∧ bindingOf 0x800 = none ∧ (busy.claims.get 0).limits = some ⟨400, 1200, 100⟩ ∧
      (busy.claims.get 0).state = .running ∧ (31 : Nat).testBit (0 : Slot).val = true := by decide +kernel
theorem witness_ReadsAnswerAndChangeNothing :
    busy.supplied = true ∧ 7 < (busy.config.banks.get 0).count ∧ (1 : Link) ≠ 0 := by decide +kernel
theorem witness_ConfigureWritesOneClampedSetting :
    geometryItem 0x12 = none ∧ bindingItem 0x12 = none ∧ settingOf 0x12 = some .pressureLow ∧
      pairHolds (putSetting defaultConfig 350 .pressureLow) .pressureLow = false ∧
      pairHolds (putSetting defaultConfig 349 .pressureLow) .pressureLow = true ∧
      itemOf 0x1C = none ∧ (0x10C : Nat) = 0x101 + (11 : Meter).val ∧ (0x135 : Nat) = 0x131 + (4 : Channel).val ∧
      (State.reset.config.ranges.get chA1).lo = 0 ∧ (State.reset.config.ranges.get chA1).hi = 1000 := by
  decide +kernel
/-- R11, R31, R175: a factor is clamped; a lo at the channel's hi is refused. R23: a shorter hold time ends a hold that
has already run for it, and no other (section 11.2). -/
theorem test_configure_acts :
    (after (.configure 0 0x101 200000) State.reset).config.factors.get 0 = 100000 ∧
      answerStatus 0 (after (.configure 0 0x121 1000) State.reset) = some .refusedState ∧
      ((after (.configure 0 0x132 300) State.reset).config.ranges.get chA2).hi = 300 ∧
      (∀ ran ∈ [59999, 60000],
        (after (.configure 0 6 60) { State.reset with
          quality := { State.reset.quality with source := .held, hold := some ran } }).quality.source =
            if ran = 60000 then .substituted else .held) := by decide +kernel
theorem witness_LineInUseFlagActsOnItsLine :
    State.reset.store.saving = none ∧ State.reset.config.inUse.get 0 = true ∧ State.reset.balance.pass = none ∧
      (passAt .sampled).balance.pass = some (passOf .sampled) ∧
      (after (.configure 0 0x111 0) State.reset).config.inUse.get 0 = false := by decide +kernel
theorem witness_SupplyFailureAndPowerOnStart :
    State.reset.store.checkAgrees = false ∧ (after .saveEnd saving).store.checkAgrees = true ∧
      State.reset.totals.checkAgrees = true := by decide +kernel
/-- A taken RESTART whose part sends an answer of the given code and status on link 0. -/
def restarting (code : Nat) (status : Status) : State :=
  { State.reset with
    restartPending := true
    ports := State.reset.ports.set 0 { huntPort with state := .send, answer := some ⟨code, status, 0, 0, []⟩ } }

/-- R156, R157, R176: the restart waits for the answer of a taken RESTART, and for no other: not for the refusal of a
malformed RESTART. -/
theorem test_restart_waits_for_its_answer :
    (after (.restartTakesPlace sampleAmps) (restarting 0x46 .done)).restartPending = true ∧
      (after (.restartTakesPlace sampleAmps) (restarting 0x46 .refusedUnknown)).restartPending = false ∧
      (after (.restartTakesPlace sampleAmps) (restarting 0x40 .done)).restartPending = false := by decide +kernel

theorem witness_SaveAndRestartAct :
    saving.store.saving ≠ none ∧ saving.supplied = true ∧ State.reset.restartPending = false ∧
      (restarting 0x46 .done).restartPending = true ∧ (restarting 0x46 .done).store.saving = none ∧
      sendsRestart ((restarting 0x46 .done).ports.get 0) = true ∧
      sendsRestart ((restarting 0x46 .refusedUnknown).ports.get 0) = false := by
  decide +kernel
theorem witness_BytesMoveThePortAsTabled :
    frameComplete [1, 0x14] = false ∧ frameComplete [1, 0x14, 48] = false ∧ frameComplete releaseBody = true ∧
      ((portOn { huntPort with state := .receive, body := [1, 0x14] }).ports.get 1).body.length = 2 ∧
      (48 : Byte).toNat ≤ 48 ∧ 48 < (49 : Byte).toNat := by decide +kernel
/-- A frame of link 1 with the given code and no payload. -/
def bodyOf (code : Byte) : List Byte := withCrc [0x01, code, 0x00]

theorem witness_FramesAreCheckedAndPortsReturn :
    frameComplete releaseBody = true ∧ frameValid 1 releaseBody = true ∧ frameValid 2 releaseBody = false ∧
      linkSlot 1 = some 0 ∧ leased ((inState .waiting).claims.get 0).state = true ∧
      ((inState .waiting).claims.get 0).lease ≠ none ∧ frameComplete [1] = false ∧
      (∀ code ∈ [(0x14 : Byte), 0x46, 0x11, 0x77], frameValid 1 (bodyOf code) = true ∧
        bodyOf code = [0x01, code, 0x00] ++ [] ++ [(bodyOf code).getD 3 0, (bodyOf code).getD 4 0]) ∧
      codeKnown 0x46 = true ∧ codeAllowed 1 0x46 = false ∧ codeAllowed 1 0x11 = true ∧
      parseRequest 1 0x11 [] = none ∧ parseRequest 1 0x14 [] ≠ none ∧ codeKnown 0x77 = false ∧
      timerAtLeast (some 6) 6 = true := by decide +kernel
/-- R157: RESTART on link 1 is answered REFUSED_AUTHORITY at once, a CLAIM without its rate REFUSED_UNKNOWN. -/
theorem test_frameReceived_refused :
    let got := fun code => answerStatus 1
      (after (.frameReceived 1) (portOn { huntPort with state := .receive, body := bodyOf code }))
    got 0x46 = some .refusedAuthority ∧ got 0x11 = some .refusedUnknown ∧ got 0x14 = none := by decide +kernel
theorem witness_AckClearsWhatIsNotActive :
    busy.supplied = true ∧ busy.stack.records.length < 16 ∧ 16 ≤ (List.replicate 16 trimC5).length := by decide +kernel
theorem witness_ClockCountsRollsOverAndIsSet :
    nextSecond ⟨2025, 3, 5, 5, 59, 59⟩ = ⟨2025, 3, 5, 6, 0, 0⟩ ∧ State.reset.totals.hourCopy = 6 ∧
      dateExists ⟨2024, 2, 29, 23, 59, 59⟩ ∧ ¬dateExists ⟨2025, 2, 29, 0, 0, 0⟩ ∧
      dateExists ⟨2099, 12, 31, 0, 0, 0⟩ ∧ ¬dateExists ⟨2100, 1, 1, 0, 0, 0⟩ ∧
      dateExists State.reset.totals.clock := by
  simp only [dateExists, monthLength]
  decide +kernel
/-- A power-on start over a bad stored copy and a bad totals store, with open loops, leaves the reset state (R173,
R177, R178; notes/assumptions/1.md), but for the bindings' switch, which passes the free tie-break. -/
theorem test_reset_is_a_power_on_start :
    { after (.powerOnStart (Tab.fill 5 0) true false false) State.reset with policy := State.reset.policy } =
      { State.reset with moments := 1 } := by
  decide +kernel

end Sys2Proof.Tests
end

section
/-! RELEASE by the claim's state (R66). The layer first says what a change of one claim does to the flow
expectations (R5), to the claim's record (R59) and to the rest of the state; the statement is then put together row
by row. -/

namespace Sys2Proof.Machine

open Sys2Proof

/-! ## A change of one claim and the flow expectations (R5) -/

/-- The claim draws gas: what R5 asks of a consumer meter. -/
def draws (cl : Claim) : Bool := cl.state = .running && 0 < cl.allotment

theorem flowExpected_slotMeter (c : Slot) (s : State) :
    flowExpected s (slotMeter c) = draws (s.claims.get c) := by
  have h : (c : Nat) + 6 < 11 := by omega
  simp [flowExpected, slotMeter, draws, h]

theorem draws_of_not_running {cl : Claim} (h : cl.state ≠ .running) : draws cl = false := by simp [draws, h]

/-- The epoch step of R59 leaves what flow expectation reads. -/
@[simp] theorem draws_commit (old new : Claim) : draws (commit old new) = draws new := by
  obtain ⟨-, h⟩ | ⟨-, h⟩ := commit_cases old new <;> simp [draws, h]

/-- Every meter but the slot's own reads its expectation from what a change of the claim leaves alone. -/
theorem flowExpected_ne_slotMeter {c : Slot} {s t : State} {m : Meter} (hi : t.config.inUse = s.config.inUse)
    (hc : ClaimsSameBut c s t) (hf : t.flare.state = s.flare.state) (hm : m ≠ slotMeter c) :
    flowExpected t m = flowExpected s m := by
  unfold flowExpected
  split
  · rw [hi]
  · next h₆ =>
    split
    · next h₁₁ =>
      have hne : (⟨m.val - 6, by omega⟩ : Slot) ≠ c := by
        rintro rfl
        exact hm (Fin.ext (show m.val = m.val - 6 + 6 by omega))
      simp only [hc _ hne]
    · rw [hf]

/-- A change that leaves the claim drawing gas as before leaves every flow expectation. -/
theorem flowExpected_changeClaim {c : Slot} {f : Claim → Claim} {s : State}
    (h : draws (f (s.claims.get c)) = draws (s.claims.get c)) (m : Meter) :
    flowExpected (changeClaim c f s) m = flowExpected s m := by
  by_cases hm : m = slotMeter c
  · subst hm
    rw [flowExpected_slotMeter, flowExpected_slotMeter, changeClaim_get_same, draws_commit, h]
  · exact flowExpected_ne_slotMeter rfl (changeClaim_same_but c f s) rfl hm

/-- The same with no gas drawn before or after. -/
theorem flowExpected_changeClaim_idle {c : Slot} {f : Claim → Claim} {s : State}
    (h : (s.claims.get c).state ≠ .running) (hf : (f (s.claims.get c)).state ≠ .running) (m : Meter) :
    flowExpected (changeClaim c f s) m = flowExpected s m :=
  flowExpected_changeClaim (by rw [draws_of_not_running h, draws_of_not_running hf]) m

/-! ## Alert records -/

/-- An end leaves a record that is not clear latched (R161). -/
theorem endOf_eq (a : AlertState) : endOf a = if a = .clear then .clear else .latched := by cases a <;> rfl

/-- The end of an alert's condition is reported as R161 has it. -/
theorem alertEnded_lower (a : Alert) (s : State) : AlertEnded a s (lower a s) := by
  rw [AlertEnded, ← endOf_eq]
  simp [alertState, alertEnd]

/-- The meter stage touches no alert record but the METER_STALL of the meters whose expectation changes. -/
theorem followFlow_same_but {s t : State} {m : Meter} (ha : t.alerts = s.alerts)
    (h : ∀ n, n ≠ m → flowExpected t n = flowExpected s n) :
    AlertsSameBut [.meterStall m] s (followFlow s t) := by
  intro n hn
  simp only [List.map_cons, List.map_nil, List.mem_singleton] at hn
  rw [followFlow_alert fun k hk => h k fun e => hn (e ▸ hk), ha]

/-! ## The frame of a change with a purge -/

/-- A claim change with a purge, followed by the meter stage and answered, moves nothing but the slot's claim and
meter, its METER_STALL record, the stack and the ports. -/
theorem claimFrame_changePurging (c : Slot) (f : Claim → Claim) (s : State) (l : Link) (code : Nat) (st : Status)
    (figures : List Byte) :
    ClaimFrame c [.meterStall (slotMeter c)] s (respond l code st figures (followFlow s (changePurging c f s))) := by
  have hclaims := changePurging_same_but c f s
  have hflow : ∀ m, m ≠ slotMeter c → flowExpected (changePurging c f s) m = flowExpected s m :=
    fun _ => flowExpected_ne_slotMeter rfl hclaims rfl
  have hfollowed : FlowFollowed s (followFlow s (changePurging c f s)) :=
    followFlow_flowFollowed rfl fun _ => rfl
  exact ⟨hclaims, fun m hm => followFlow_meter (hflow m hm), hfollowed, followFlow_same_but rfl hflow, rfl⟩

/-! ## The records that a release leaves (R59, R66, R75) -/

/-- The counted fields of R59. -/
theorem sameCounted_iff (a b : Claim) :
    sameCounted a b = true ↔
      a.state = b.state ∧ a.limits = b.limits ∧ a.request = b.request ∧ a.standing = b.standing ∧
        a.orphaned = b.orphaned ∧ a.soft = b.soft ∧ a.allotment = b.allotment ∧ a.locks = b.locks := by
  simp [sameCounted, and_assoc]

/-- Entry to IDLE without a purge keeps w and the orphaned amount. -/
theorem commit_toIdle {old : Claim} (h : old.state ≠ .idle) :
    commit old (toIdle old) = { idleRecord old with orphaned := old.orphaned, withheld := old.withheld } :=
  commit_of_state_ne h

/-- Entry to IDLE with a purge leaves nothing withheld. -/
theorem changePurging_toIdle_get {c : Slot} {s : State} (hw : WithheldAccounted s)
    (h : (s.claims.get c).state ≠ .idle) :
    (changePurging c toIdle s).claims.get c = idleRecord (s.claims.get c) := by
  rw [changePurging_claims, Tab.get_set_same, purged_withheld hw]
  exact commit_of_state_ne h

/-- A claim whose request is withdrawn where it stands: standing and r are cleared, and nothing else. -/
def withdrawn (cl : Claim) : Claim := { cl with standing := false, request := none }

/-- The epoch moves only where there was something to withdraw. -/
theorem commit_withdrawn (old : Claim) :
    commit old (withdrawn old) =
      { old with standing := false, request := none
                 epoch := if old.standing = false ∧ old.request = none then old.epoch
                          else wrapSucc 65535 old.epoch } := by
  have hsame : sameCounted old (withdrawn old) = true ↔ old.standing = false ∧ old.request = none := by
    simp [sameCounted_iff, withdrawn, and_comm]
  simp only [commit, hsame]
  by_cases h : old.standing = false ∧ old.request = none <;> simp [h, withdrawn]

/-- A claim that leaves VACANT or LAPSED without a claim to run: its state and lease follow the lock cause set. -/
theorem reopen_eq (cl : Claim) :
    reopen cl =
      { cl with
        state := if cl.locks.empty then .idle else .locked
        request := none, standing := false, soft := false, allotment := 0, start := none
        lease := if cl.locks.empty then none else some 0 } := by
  cases h : cl.locks.empty <;> simp [reopen, toIdle, h]

/-- It enters IDLE or LOCKED. -/
theorem reopen_state (cl : Claim) : (reopen cl).state = .idle ∨ (reopen cl).state = .locked := by
  rw [reopen_eq]
  cases cl.locks.empty <;> simp

/-! ## Serving RELEASE -/

/-- A consumer request that moves no flow expectation is answered on the state its block leaves. -/
theorem consumerRequest_flow_kept {l : Link} {c : Slot} {code : Nat} {serve : Slot → State → Served} {s : State}
    (hs : s.supplied = true) (hl : linkSlot l = some c) (h₁ : 0x10 ≤ code) (h₂ : code ≤ 0x14)
    (hf : ∀ m, flowExpected (serve c s).state m = flowExpected s m) :
    consumerRequest l code serve s =
      .next (respond l code (serve c s).status (serve c s).figures (serve c s).state) := by
  rw [consumerRequest_served serve hs hl h₁ h₂, followFlow_same hf]

theorem exec_release (l : Link) (s : State) : exec (.release l) s = consumerRequest l 0x14 serveRelease s := rfl

section Release

variable {l : Link} {c : Slot} {s : State}

/-- A RELEASE that moves no flow expectation. -/
theorem exec_release_flow_kept {v : Served} (hl : linkSlot l = some c) (hs : s.supplied = true)
    (hv : serveRelease c s = v) (hf : ∀ m, flowExpected v.state m = flowExpected s m) :
    exec (.release l) s = .next (respond l 0x14 v.status v.figures v.state) := by
  subst hv
  rw [exec_release, consumerRequest_flow_kept hs hl (by decide) (by decide) hf]

/-- A RELEASE for which the claim table does nothing. -/
theorem release_unchanged {st : Status} (hl : linkSlot l = some c) (hs : s.supplied = true)
    (hv : serveRelease c s = { state := s, status := st }) : AnsweredUnchanged (.release l) l st s :=
  ⟨_, exec_release_flow_kept hl hs hv fun _ => rfl, answerStatus_respond .., respond_ports_same_but _ _ _ _ _, rfl⟩

/-- A RELEASE that changes the claim alone, no gas being drawn before or after. -/
theorem release_changes_claim {f : Claim → Claim} (hl : linkSlot l = some c) (hs : s.supplied = true)
    (hv : serveRelease c s = { state := changeClaim c f s, status := .done })
    (hr : (s.claims.get c).state ≠ .running) (hf : (f (s.claims.get c)).state ≠ .running) :
    ∃ t, exec (.release l) s = .next t ∧ answerStatus l t = some .done ∧ PortsSameBut l s t ∧
      ClaimsSameBut c s t ∧ t.claims.get c = commit (s.claims.get c) (f (s.claims.get c)) ∧
      { t with claims := s.claims, ports := s.ports } = s :=
  ⟨_, exec_release_flow_kept hl hs hv (flowExpected_changeClaim_idle hr hf), answerStatus_respond ..,
    respond_ports_same_but _ _ _ _ _, changeClaim_same_but c f s, changeClaim_get_same c f s, rfl⟩

theorem release_vacant (hl : linkSlot l = some c) (hs : s.supplied = true)
    (h : (s.claims.get c).state = .vacant) : AnsweredUnchanged (.release l) l .notRegistered s :=
  release_unchanged hl hs (by simp [serveRelease, h])

theorem release_idle (hl : linkSlot l = some c) (hs : s.supplied = true)
    (h : (s.claims.get c).state = .idle) : AnsweredUnchanged (.release l) l .done s :=
  release_unchanged hl hs (by simp [serveRelease, h])

theorem release_waiting (hl : linkSlot l = some c) (hs : s.supplied = true)
    (h : (s.claims.get c).state = .waiting) :
    ∃ t, exec (.release l) s = .next t ∧ answerStatus l t = some .done ∧ PortsSameBut l s t ∧
      ClaimsSameBut c s t ∧
      t.claims.get c =
        { idleRecord (s.claims.get c) with
          orphaned := (s.claims.get c).orphaned, withheld := (s.claims.get c).withheld } ∧
      { t with claims := s.claims, ports := s.ports } = s := by
  rw [← commit_toIdle (by simp [h])]
  exact release_changes_claim hl hs (by simp [serveRelease, h]) (by simp [h]) (by simp [toIdle])

theorem release_purges (hl : linkSlot l = some c) (hs : s.supplied = true) (hw : WithheldAccounted s)
    (h : (s.claims.get c).state = .admitted ∨ (s.claims.get c).state = .running ∨ (s.claims.get c).state = .shed) :
    ∃ t, exec (.release l) s = .next t ∧ answerStatus l t = some .done ∧ PortsSameBut l s t ∧
      t.claims.get c = idleRecord (s.claims.get c) ∧ PurgedStack c s t ∧
      ClaimFrame c [.meterStall (slotMeter c)] s t := by
  have hidle : (s.claims.get c).state ≠ .idle := by
    obtain h | h | h := h <;> simp [h]
  have hv : serveRelease c s = { state := changePurging c toIdle s, status := .done } := by
    obtain h | h | h := h <;> simp [serveRelease, h]
  refine ⟨respond l 0x14 .done [] (followFlow s (changePurging c toIdle s)), ?_, answerStatus_respond ..,
    respond_ports_same_but _ _ _ _ _, changePurging_toIdle_get hw hidle, changePurging_purged c toIdle s,
    claimFrame_changePurging ..⟩
  rw [exec_release, consumerRequest_served _ hs hl (by decide) (by decide), hv]

theorem release_locked (hl : linkSlot l = some c) (hs : s.supplied = true)
    (h : (s.claims.get c).state = .locked) :
    ∃ t, exec (.release l) s = .next t ∧ answerStatus l t = some .done ∧ PortsSameBut l s t ∧
      ClaimsSameBut c s t ∧ t.claims.get c = commit (s.claims.get c) (withdrawn (s.claims.get c)) ∧
      { t with claims := s.claims, ports := s.ports } = s :=
  release_changes_claim hl hs (by rw [serveRelease, h]; rfl) (by simp [h]) (by simp [withdrawn, h])

theorem release_lapsed (hl : linkSlot l = some c) (hs : s.supplied = true)
    (h : (s.claims.get c).state = .lapsed) :
    ∃ t, exec (.release l) s = .next t ∧ answerStatus l t = some .done ∧ PortsSameBut l s t ∧
      ClaimsSameBut c s t ∧
      t.claims.get c = { reopen (s.claims.get c) with epoch := wrapSucc 65535 (s.claims.get c).epoch } ∧
      AlertEnded (.lapse c) s t ∧ AlertsSameBut [.lapse c] s t ∧
      { t with claims := s.claims, alerts := s.alerts, ports := s.ports } = s := by
  have hv : serveRelease c s = { state := lower (.lapse c) (changeClaim c reopen s), status := .done } := by
    simp [serveRelease, h]
  have hrun : (reopen (s.claims.get c)).state ≠ .running := by
    obtain e | e := reopen_state (s.claims.get c) <;> simp [e]
  have hmoved : (s.claims.get c).state ≠ (reopen (s.claims.get c)).state := by
    obtain e | e := reopen_state (s.claims.get c) <;> simp [e, h]
  have hrecord : (changeClaim c reopen s).claims.get c =
      { reopen (s.claims.get c) with epoch := wrapSucc 65535 (s.claims.get c).epoch } := by
    rw [changeClaim_get_same, commit_of_state_ne hmoved]
  exact ⟨_, exec_release_flow_kept hl hs hv (flowExpected_changeClaim_idle (by simp [h]) hrun),
    answerStatus_respond .., respond_ports_same_but _ _ _ _ _, changeClaim_same_but c reopen s, hrecord,
    alertEnded_lower (.lapse c) s, lower_same_but (.lapse c) s, rfl⟩

end Release

/-- Settles O32: each of the eight states is one row of R66. -/
theorem releaseServedByState : Obligations.ReleaseServedByState := by
  intro l c s hl hs hw old
  refine ⟨fun h => ?vacant, fun h => ?idle, fun h => ?waiting, fun h => ?holding, fun h => ?locked,
    fun h => ?lapsed⟩
  case vacant => exact release_vacant hl hs h
  case idle => exact release_idle hl hs h
  case waiting => exact release_waiting hl hs h
  case holding => exact release_purges hl hs hw h
  case locked => rw [← commit_withdrawn old]; exact release_locked hl hs h
  case lapsed =>
    have hrow := release_lapsed hl hs h
    rwa [reopen_eq] at hrow

end Sys2Proof.Machine
end

section
/-! FLARE_RESET and FLARE_PERMIT by the sequencer's state (R133, R134). The layer first says which requests link 0
alone may make (R157) and what a change of the sequencer does to the flow expectations (R5) and to the rest of the
state; each operation then gets one equation per case. -/

namespace Sys2Proof.Machine

open Sys2Proof

/-! ## Requests of link 0 (R157, R158) -/

/-- The codes above the flare controller's belong to link 0. -/
theorem codeAllowed_ne_zero {l : Link} {code : Nat} (hl : l ≠ 0) (h : 0x20 < code) : codeAllowed l code = false := by
  simp only [codeAllowed, if_neg hl]
  split <;> simp <;> omega

/-- A request its link may not make is answered and changes nothing. -/
theorem answeredUnchanged_notAllowed {i : Instr} {l : Link} {code : Nat} {serve : State → Served} {s : State}
    (hi : exec i s = request l code serve s) (hs : s.supplied = true) (ha : codeAllowed l code = false) :
    AnsweredUnchanged i l .refusedAuthority s :=
  ⟨_, hi.trans (request_notAllowed serve hs ha), answerStatus_respond .., respond_ports_same_but _ _ _ _ _, rfl⟩

/-- A request whose block leaves the state alone is answered and changes nothing. -/
theorem answeredUnchanged_served {i : Instr} {l : Link} {code : Nat} {serve : State → Served} {st : Status}
    {s : State} (hi : exec i s = request l code serve s) (hs : s.supplied = true) (ha : codeAllowed l code = true)
    (hv : serve s = { state := s, status := st }) : AnsweredUnchanged i l st s := by
  have hnext := request_served serve hs ha
  rw [hv, followFlow_self] at hnext
  exact ⟨_, hi.trans hnext, answerStatus_respond .., respond_ports_same_but _ _ _ _ _, rfl⟩

theorem exec_flareReset (l : Link) (s : State) : exec (.flareReset l) s = request l 0x37 serveFlareReset s := rfl

theorem exec_flarePermit (l : Link) (on : Bool) (s : State) :
    exec (.flarePermit l on) s = request l 0x36 (fun s => { state := setPermit on s, status := .done }) s := rfl

/-! ## A change of the sequencer and the flow expectations (R5) -/

/-- Every meter but the flare's reads its expectation from what the sequencer leaves alone. -/
theorem flowExpected_ne_flareMeter {s t : State} {m : Meter} (hi : t.config.inUse = s.config.inUse)
    (hc : t.claims = s.claims) (hm : m ≠ flareMeter) : flowExpected t m = flowExpected s m := by
  have h : (m : Nat) < 11 := by
    have hne : (m : Nat) ≠ 11 := fun e => hm (Fin.ext e)
    omega
  simp [flowExpected, hi, hc, h]

/-- Off the burning flare no expectation changes. -/
theorem flowExpected_not_burning {s t : State} (hi : t.config.inUse = s.config.inUse) (hc : t.claims = s.claims)
    (hs : s.flare.state ≠ .burning) (ht : t.flare.state ≠ .burning) (m : Meter) :
    flowExpected t m = flowExpected s m := by
  simp [flowExpected, hi, hc, hs, ht]

/-! ## Alert records -/

/-- The meter stage touches the METER_STALL records alone. -/
theorem followFlow_alertState {a : Alert} (ha : ∀ m, a ≠ .meterStall m) (s t : State) :
    alertState a (followFlow s t) = alertState a t :=
  followFlow_alert fun m hm => absurd (alertNumber_injective hm) (ha m)

/-- The meter stage adds one METER_STALL record to those a change may touch, where one expectation changes. -/
theorem followFlow_alertsSameBut {as : List Alert} {s t : State} {m : Meter} (ha : AlertsSameBut as s t)
    (h : ∀ n, n ≠ m → flowExpected t n = flowExpected s n) :
    AlertsSameBut (as ++ [.meterStall m]) s (followFlow s t) := by
  intro n hn
  simp only [List.map_append, List.map_cons, List.map_nil, List.mem_append, List.mem_singleton, not_or] at hn
  obtain ⟨has, hm⟩ := hn
  rw [followFlow_alert fun k hk => h k fun e => hm (e ▸ hk), ha n has]

/-- A record that is not among those a change may touch reads as before. -/
theorem alertState_of_sameBut {as : List Alert} {a : Alert} {s t : State} (h : AlertsSameBut as s t) (ha : a ∉ as) :
    alertState a t = alertState a s :=
  h _ fun hmem => by
    obtain ⟨b, hb, hab⟩ := List.mem_map.mp hmem
    exact ha (alertNumber_injective hab ▸ hb)

/-- A latched FLARE_FAILED de-energizes the alarm relay (R164). -/
theorem not_relayHeld_of_flareFailed {s : State} (h : alertState .flareFailed s ≠ .clear) : ¬relayHeld s :=
  fun ⟨_, hclear⟩ => h (hclear .flareFailed (by simp))

/-! ## The frame of a change of the sequencer -/

/-- What a step of the sequencer leaves alone: every meter but the flare's, which follows the flow expectation, every
alert record but FLARE_RETRY and the flare's METER_STALL, and all of the state but the sequencer, the meters, the alert
register and the ports. -/
abbrev FlareFrame (s u : State) : Prop :=
  MetersSameBut flareMeter s u ∧ FlowFollowed s u ∧ AlertsSameBut [.flareRetry, .meterStall flareMeter] s u ∧
    { u with flare := s.flare, meters := s.meters, alerts := s.alerts, ports := s.ports } = s

/-- A change of the sequencer and the FLARE_RETRY record, followed by the meter stage and answered, keeps the frame. -/
theorem flareFrame_followed {s t : State} (l : Link) (code : Nat) (st : Status) (figures : List Byte)
    (hm : t.meters = s.meters) (ha : AlertsSameBut [.flareRetry] s t)
    (hrest : { t with flare := s.flare, meters := s.meters, alerts := s.alerts, ports := s.ports } = s) :
    FlareFrame s (respond l code st figures (followFlow s t)) := by
  have hi : t.config.inUse = s.config.inUse := congrArg (·.config.inUse) hrest
  have hc : t.claims = s.claims := congrArg (·.claims) hrest
  have hflow : ∀ m, m ≠ flareMeter → flowExpected t m = flowExpected s m :=
    fun _ => flowExpected_ne_flareMeter hi hc
  have hmeters : MetersSameBut flareMeter s (followFlow s t) :=
    fun m h => by rw [followFlow_meter (hflow m h), hm]
  have hfollowed : FlowFollowed s (followFlow s t) :=
    followFlow_flowFollowed hm fun _ => alertState_of_sameBut ha (by simp)
  exact ⟨hmeters, hfollowed, followFlow_alertsSameBut ha hflow, hrest⟩

/-! ## The start conditions (R125) -/

/-- A call waits for the flare and the burner is ready: the start conditions but for the permit. -/
def CallWaits (f : Flare) : Prop := f.heldCall = true ∧ f.report.ready = true ∧ f.report.fault = false

/-- What `tryStart` asks of a sequencer in OFF. -/
theorem callWaits_iff (f : Flare) : CallWaits f ↔ f.heldCall = true ∧ f.report.isReady = true := by
  simp [CallWaits, FlareReport.isReady]

theorem tryStart_callWaits {f : Flare} (h : f.state = .off) (hw : CallWaits f) (hp : f.permit = true) :
    tryStart f = { f with state := .called, attempts := 1, ignition := some 0, demand := f.heldDemand } := by
  obtain ⟨hcall, hready⟩ := (callWaits_iff f).mp hw
  exact tryStart_lit h hcall hp hready

theorem tryStart_not_callWaits {f : Flare} (h : ¬(f.state = .off ∧ CallWaits f ∧ f.permit = true)) :
    tryStart f = f :=
  tryStart_unlit fun ⟨hoff, hcall, hpermit, hready⟩ => h ⟨hoff, (callWaits_iff f).mpr ⟨hcall, hready⟩, hpermit⟩

/-- A start leads to CALLED: the flare burns after it only where it burned before. -/
theorem tryStart_not_burning {f : Flare} (h : f.state ≠ .burning) : (tryStart f).state ≠ .burning := by
  unfold tryStart
  split
  · simp
  · exact h

/-! ## FLARE_RESET (R133) -/

/-- The sequencer out of FAILED, before the start conditions are looked at. -/
def clearedFailure (f : Flare) : Flare := { f with state := .off, attempts := 0, demand := 0 }

theorem serveFlareReset_failed {s : State} (h : s.flare.state = .failed) :
    serveFlareReset s =
      { state := lower .flareFailed (withFlare (fun f => tryStart (clearedFailure f)) s), status := .done } := by
  simp [serveFlareReset, clearedFailure, h]

theorem serveFlareReset_not_failed {s : State} (h : s.flare.state ≠ .failed) :
    serveFlareReset s = { state := s, status := .refusedState } := by
  simp [serveFlareReset, h]

/-- A FLARE_RESET taken in FAILED: no gas burned before it or burns after it, so the meter stage has nothing to
follow. -/
theorem exec_flareReset_failed {s : State} (hs : s.supplied = true) (h : s.flare.state = .failed) :
    exec (.flareReset 0) s =
      .next (respond 0 0x37 .done []
        (lower .flareFailed (withFlare (fun f => tryStart (clearedFailure f)) s))) := by
  have hflow := flowExpected_not_burning (s := s)
    (t := lower .flareFailed (withFlare (fun f => tryStart (clearedFailure f)) s)) rfl rfl (by simp [h])
    (tryStart_not_burning (by simp [clearedFailure]))
  rw [exec_flareReset, request_served serveFlareReset hs rfl, serveFlareReset_failed h, followFlow_same hflow]

theorem flareReset_called {f : Flare} (hw : CallWaits f) (hp : f.permit = true) :
    tryStart (clearedFailure f) =
      { f with state := .called, attempts := 1, ignition := some 0, demand := f.heldDemand } :=
  tryStart_callWaits (f := clearedFailure f) rfl hw hp

theorem flareReset_off {f : Flare} (h : ¬(CallWaits f ∧ f.permit = true)) :
    tryStart (clearedFailure f) = { f with state := .off, attempts := 0, demand := 0 } :=
  tryStart_not_callWaits fun ⟨_, hlit⟩ => h hlit

/-- The end of a condition is a step of its record from there to not there (R161). -/
theorem alertFollows_of_ended {a : Alert} {s t : State} (h : AlertEnded a s t) : AlertFollows a true false s t :=
  ⟨by simp, by simp, fun _ _ => h⟩

/-- The end of FLARE_FAILED leaves its record latched, and so the relay de-energized. -/
theorem not_relayHeld_of_ended {s t : State} (he : AlertEnded .flareFailed s t)
    (h : alertState .flareFailed s ≠ .clear) : ¬relayHeld t :=
  not_relayHeld_of_flareFailed (by simp [he, h])

/-! ## FLARE_PERMIT (R134) -/

theorem setPermit_held (s : State) : setPermit s.flare.permit s = s := by simp [setPermit]

theorem setPermit_set {s : State} (h : s.flare.permit = false) :
    setPermit true s = withFlare (fun f => tryStart { f with permit := true }) s := by
  simp [setPermit, h, withFlare]

/-- The states a withdrawn permit ends: an ignition, a flame, or the rest of a minimum burn. -/
def Engaged (x : FlareState) : Prop := x = .called ∨ x = .burning ∨ x = .holding

theorem not_engaged_of_resting {x : FlareState} (h : x = .off ∨ x = .failed) : ¬Engaged x := by
  obtain rfl | rfl := h <;> simp [Engaged]

theorem setPermit_cleared_engaged {s : State} (hp : s.flare.permit = true) (h : Engaged s.flare.state) :
    setPermit false s = abandonFlare (withFlare (fun f => { f with permit := false }) s) := by
  obtain h | h | h := h <;> simp [setPermit, hp, h]

theorem setPermit_cleared_resting {s : State} (hp : s.flare.permit = true) (h : ¬Engaged s.flare.state) :
    setPermit false s = withFlare (fun f => { f with permit := false }) s := by
  cases hst : s.flare.state with
  | off | failed => simp [setPermit, hp, hst]
  | called | burning | holding => simp [Engaged, hst] at h

/-- A FLARE_PERMIT on link 0 is taken in every state. -/
theorem exec_flarePermit_zero {s : State} (hs : s.supplied = true) (on : Bool) :
    exec (.flarePermit 0 on) s = .next (respond 0 0x36 .done [] (followFlow s (setPermit on s))) :=
  request_served (fun s => { state := setPermit on s, status := .done }) hs rfl

/-- A permit that is set starts no flame yet: no flow expectation changes. -/
theorem followFlow_setPermit_set {s : State} (h : s.flare.permit = false) :
    followFlow s (setPermit true s) = withFlare (fun f => tryStart { f with permit := true }) s := by
  rw [setPermit_set h]
  by_cases hb : s.flare.state = .burning
  · have hstart : tryStart { s.flare with permit := true } = { s.flare with permit := true } :=
      tryStart_not_callWaits (by simp [hb])
    exact followFlow_same (flowExpected_congr rfl rfl (by simp [hstart]))
  · exact followFlow_same (flowExpected_not_burning rfl rfl hb (tryStart_not_burning hb))

/-- A permit that is cleared with the flare at rest changes no flow expectation. -/
theorem followFlow_setPermit_cleared_resting {s : State} (hp : s.flare.permit = true)
    (h : ¬Engaged s.flare.state) :
    followFlow s (setPermit false s) = withFlare (fun f => { f with permit := false }) s := by
  rw [setPermit_cleared_resting hp h]
  exact followFlow_same (flowExpected_congr rfl rfl rfl)

/-- With the flare engaged the sequencer enters OFF and FLARE_RETRY ends. -/
theorem setPermit_cleared_engaged_acts {s : State} (hp : s.flare.permit = true) (h : Engaged s.flare.state) :
    (setPermit false s).flare = toOff { s.flare with permit := false } ∧
      AlertEnded .flareRetry s (followFlow s (setPermit false s)) := by
  rw [setPermit_cleared_engaged hp h]
  refine ⟨rfl, ?_⟩
  rw [AlertEnded, followFlow_alertState (by simp)]
  exact alertEnded_lower .flareRetry (withFlare toOff (withFlare (fun f => { f with permit := false }) s))

theorem setPermit_cleared_ports {s : State} (hp : s.flare.permit = true) : (setPermit false s).ports = s.ports := by
  by_cases h : Engaged s.flare.state
  · rw [setPermit_cleared_engaged hp h]
    rfl
  · rw [setPermit_cleared_resting hp h]
    rfl

/-- What a permit that is cleared leaves alone. -/
theorem setPermit_cleared_frame {s : State} (hp : s.flare.permit = true) :
    FlareFrame s (respond 0 0x36 .done [] (followFlow s (setPermit false s))) := by
  by_cases h : Engaged s.flare.state
  · rw [setPermit_cleared_engaged hp h]
    exact flareFrame_followed _ _ _ _ rfl (lower_same_but .flareRetry _) rfl
  · rw [setPermit_cleared_resting hp h]
    exact flareFrame_followed _ _ _ _ rfl (fun _ _ => rfl) rfl

/-- Settles O48: a request of another link is refused; a FLARE_RESET goes by FAILED or not, a FLARE_PERMIT by the
permit held and by whether it is set or cleared. -/
theorem resetAndPermitAct : Obligations.ResetAndPermitAct := by
  intro s hs f lit
  refine ⟨fun l hl => ?otherLinks, fun h => ?resetRefused, fun h => ?resetTaken, ?permitHeld, fun h => ?permitSet,
    fun h => ?permitCleared⟩
  case otherLinks =>
    exact ⟨answeredUnchanged_notAllowed (exec_flareReset l s) hs (codeAllowed_ne_zero hl (by decide)),
      fun on => answeredUnchanged_notAllowed (exec_flarePermit l on s) hs (codeAllowed_ne_zero hl (by decide))⟩
  case resetRefused =>
    exact answeredUnchanged_served (exec_flareReset 0 s) hs rfl (serveFlareReset_not_failed h)
  case resetTaken =>
    have hended := alertEnded_lower .flareFailed (withFlare (fun f => tryStart (clearedFailure f)) s)
    exact ⟨_, exec_flareReset_failed hs h, answerStatus_respond .., respond_ports_same_but _ _ _ _ _,
      flareReset_called, flareReset_off, alertFollows_of_ended hended, lower_same_but .flareFailed _,
      not_relayHeld_of_ended (s := s) hended, rfl⟩
  case permitHeld =>
    exact answeredUnchanged_served (exec_flarePermit 0 f.permit s) hs rfl (by rw [setPermit_held s])
  case permitSet =>
    have hnext := exec_flarePermit_zero hs true
    rw [followFlow_setPermit_set h] at hnext
    refine ⟨_, hnext, answerStatus_respond .., respond_ports_same_but _ _ _ _ _, fun hoff hlit => ?starts,
      fun hunlit => ?waits, rfl⟩
    case starts => exact tryStart_callWaits (f := { f with permit := true }) hoff hlit rfl
    case waits =>
      exact tryStart_not_callWaits fun ⟨hoff, hlit, _⟩ => hunlit.elim (· hoff) (· hlit)
  case permitCleared =>
    have hports : PortsSameBut 0 s (respond 0 0x36 .done [] (followFlow s (setPermit false s))) := fun k hk => by
      rw [respond_ports_same_but _ _ _ _ _ k hk, followFlow_ports, setPermit_cleared_ports h]
    refine ⟨_, exec_flarePermit_zero hs false, answerStatus_respond .., hports, fun hengaged => ?engaged,
      fun hresting => ?resting, setPermit_cleared_frame h⟩
    case engaged => exact setPermit_cleared_engaged_acts h hengaged
    case resting =>
      rw [followFlow_setPermit_cleared_resting h (not_engaged_of_resting hresting)]
      exact ⟨rfl, rfl⟩

end Sys2Proof.Machine
end

section
/-! SWITCH_BANK (R140, R141). The layer first says which numbers name a bank; serving then has one equation per
case. -/

namespace Sys2Proof.Machine

open Sys2Proof

/-! ## Bank numbers -/

@[simp] theorem bankOf_val (b : BankNo) : bankOf b.val = some b := dif_pos b.isLt

theorem bankOf_above {bank : Nat} (h : 3 < bank) : bankOf bank = none := dif_neg (by omega)

/-! ## Serving SWITCH_BANK -/

/-- The state with its pending switch set to a bank, or cancelled where the bank is the active one (R140). -/
def switchedTo (b : BankNo) (s : State) : State :=
  { s with policy := { s.policy with switch := setSwitch s.policy.active b } }

theorem serveSwitchBank_val (b : BankNo) (s : State) :
    serveSwitchBank b.val s = { state := switchedTo b s, status := .done } := by
  simp [serveSwitchBank, switchedTo]

theorem serveSwitchBank_above {bank : Nat} (h : 3 < bank) (s : State) :
    serveSwitchBank bank s = { state := s, status := .refusedUnknown } := by
  simp [serveSwitchBank, bankOf_above h]

theorem exec_switchBank (l : Link) (bank : Nat) (s : State) :
    exec (.switchBank l bank) s = request l 0x33 (serveSwitchBank bank) s := rfl

/-- A pending switch is no flow expectation: a named bank is answered on the state with the switch alone written. -/
theorem exec_switchBank_val {s : State} (hs : s.supplied = true) (b : BankNo) :
    exec (.switchBank 0 b.val) s = .next (respond 0 0x33 .done [] (switchedTo b s)) := by
  have hflow : followFlow s (switchedTo b s) = switchedTo b s := followFlow_same (flowExpected_congr rfl rfl rfl)
  rw [exec_switchBank, request_served (serveSwitchBank b.val) hs rfl, serveSwitchBank_val, hflow]

/-- Settles O49: another link is refused, and link 0 by whether the number names a bank. No case asks whether a save is
in flight. -/
theorem switchBankSetsOrCancels : Obligations.SwitchBankSetsOrCancels := by
  intro bank s hs
  refine ⟨fun l hl => ?otherLinks, fun habove => ?unknownBank, fun b hb => ?namedBank⟩
  case otherLinks =>
    exact answeredUnchanged_notAllowed (exec_switchBank l bank s) hs (codeAllowed_ne_zero hl (by decide))
  case unknownBank =>
    exact answeredUnchanged_served (exec_switchBank 0 bank s) hs rfl (serveSwitchBank_above habove s)
  case namedBank =>
    subst hb
    exact ⟨_, exec_switchBank_val hs b, answerStatus_respond .., respond_ports_same_but _ _ _ _ _, rfl, rfl⟩

end Sys2Proof.Machine
end

section
/-! ACK_ALERTS (R113, R161, R162). The layer first says what the stack's examination of its depth and the
acknowledgement each do to the alert records and leave of the state; the request is their composition. -/

namespace Sys2Proof.Machine

open Sys2Proof

/-! ## The stack examines its depth (R113) -/

theorem examineDepth_below {s : State} (h : s.stack.records.length < 16) :
    examineDepth s = lower .stackOverflow s := if_pos h

theorem examineDepth_full {s : State} (h : 16 ≤ s.stack.records.length) : examineDepth s = s :=
  if_neg (Nat.not_lt.mpr h)

/-- The examination writes the alert register alone. -/
theorem examineDepth_frame (s : State) : { examineDepth s with alerts := s.alerts } = s := by
  obtain h | h := Nat.lt_or_ge s.stack.records.length 16
  · rw [examineDepth_below h]; rfl
  · rw [examineDepth_full h]

/-- The examination touches no record but STACK_OVERFLOW. -/
theorem examineDepth_same_but (s : State) : AlertsSameBut [.stackOverflow] s (examineDepth s) := by
  obtain h | h := Nat.lt_or_ge s.stack.records.length 16
  · rw [examineDepth_below h]; exact lower_same_but .stackOverflow s
  · rw [examineDepth_full h]; exact fun _ _ => rfl

/-! ## Acknowledgement (R161, R162) -/

/-- Acknowledgement keeps a record that is active and clears any other. -/
theorem ackOf_eq (a : AlertState) : ackOf a = if a = .active then .active else .clear := by cases a <;> rfl

/-- The state with every alert record acknowledged. -/
def acknowledged (s : State) : State := { s with alerts := ackAll s.alerts }

theorem acknowledged_get (s : State) (n : Fin 58) :
    (acknowledged s).alerts.get n = if s.alerts.get n = .active then .active else .clear := by
  rw [← ackOf_eq]
  exact Tab.get_gen _ n

/-- The acknowledged record of an alert, read by its active indication. -/
theorem alertState_acknowledged (a : Alert) (s : State) :
    alertState a (acknowledged s) = if isActive a s then .active else .clear :=
  (acknowledged_get s (alertNumber a)).trans (if_congr decide_eq_true_iff.symm rfl rfl)

/-! ## ACK_ALERTS served -/

theorem serveAckAlerts_eq (s : State) :
    serveAckAlerts s = { state := acknowledged (examineDepth s), status := .done } := rfl

theorem exec_ackAlerts (l : Link) (s : State) : exec (.ackAlerts l) s = request l 0x3A serveAckAlerts s := rfl

/-- Examination and acknowledgement together write the alert register alone. -/
theorem acknowledged_examineDepth_frame (s : State) :
    { acknowledged (examineDepth s) with alerts := s.alerts } = s := examineDepth_frame s

/-- No alert record is a flow expectation: link 0 is answered on the examined and acknowledged state. -/
theorem exec_ackAlerts_zero {s : State} (hs : s.supplied = true) :
    exec (.ackAlerts 0) s = .next (respond 0 0x3A .done [] (acknowledged (examineDepth s))) := by
  have hframe := acknowledged_examineDepth_frame s
  have hflow : followFlow s (acknowledged (examineDepth s)) = acknowledged (examineDepth s) :=
    followFlow_same (flowExpected_congr (congrArg (·.config.inUse) hframe) (congrArg (·.claims) hframe)
      (congrArg (·.flare.state) hframe))
  rw [exec_ackAlerts, request_served serveAckAlerts hs rfl, serveAckAlerts_eq, hflow]

/-- Settles O59: another link is refused; on link 0 each record reads as acknowledged, and STACK_OVERFLOW by the depth
its block examined before that. No case asks whether a save is in flight. -/
theorem ackClearsWhatIsNotActive : Obligations.AckClearsWhatIsNotActive := by
  intro s hs
  have hports : (acknowledged (examineDepth s)).ports = s.ports :=
    congrArg (·.ports) (acknowledged_examineDepth_frame s)
  refine ⟨fun l hl => ?otherLinks, _, exec_ackAlerts_zero hs, answerStatus_respond .., ?ports,
    fun n hn => ?otherRecords, fun hbelow => ?overflowBelow, fun hfull => ?overflowFull, ?frame⟩
  case otherLinks =>
    exact answeredUnchanged_notAllowed (exec_ackAlerts l s) hs (codeAllowed_ne_zero hl (by decide))
  case ports =>
    intro k hk
    rw [respond_ports_same_but _ _ _ _ _ k hk, hports]
  case otherRecords =>
    have hkept : (examineDepth s).alerts.get n = s.alerts.get n := examineDepth_same_but s n (by simpa using hn)
    rw [respond_alerts, acknowledged_get, hkept]
  case overflowBelow =>
    have hended : isActive .stackOverflow (examineDepth s) = false := by simp [isActive, examineDepth_below hbelow]
    exact (alertState_acknowledged .stackOverflow (examineDepth s)).trans (by rw [hended]; rfl)
  case overflowFull =>
    exact (alertState_acknowledged .stackOverflow (examineDepth s)).trans (by rw [examineDepth_full hfull])
  case frame => exact congrArg (fun u => { u with ports := s.ports }) (acknowledged_examineDepth_frame s)

end Sys2Proof.Machine
end

section
/-! What each command leaves alone. The blocks of the state are named once, each shared operation says which of them it
may touch, and a table gives for every command the blocks it may touch. An invariant of one block is then a matter of
the few commands that touch it. -/

namespace Sys2Proof.Machine

open Sys2Proof

/-! ## The flare sequencer's hand-over and report by state (R121, R123) -/

/-- The held figures of a hand-over taken (R121). -/
def takeCall (call : Bool) (demand : Nat) (s : State) : State :=
  withFlare (fun f => { f with
    heldCall := call, heldDemand := if call then clampNat s.config.flareMin s.config.flareMax demand else 0 }) s

section HandOver

variable {call : Bool} {demand : Nat} {s : State}

theorem handOver_off (h : s.flare.state = .off) :
    handOver call demand s = withFlare tryStart (takeCall call demand s) := by
  simp [handOver, takeCall, h]

theorem handOver_called (h : s.flare.state = .called) :
    handOver call demand s =
      if call then withFlare (fun f => { f with demand := (takeCall call demand s).flare.heldDemand })
        (takeCall call demand s)
      else abandonFlare (takeCall call demand s) := by
  simp [handOver, takeCall, h]

theorem handOver_burning (h : s.flare.state = .burning) :
    handOver call demand s =
      if call then withFlare (fun f => { f with demand := (takeCall call demand s).flare.heldDemand })
        (takeCall call demand s)
      else enterHolding (takeCall call demand s) := by
  simp [handOver, takeCall, h]

theorem handOver_holding (h : s.flare.state = .holding) :
    handOver call demand s =
      if call then withFlare (fun f => { f with
          state := .burning, minBurn := none, demand := (takeCall call demand s).flare.heldDemand })
        (takeCall call demand s)
      else withFlare (fun f => { f with demand := s.config.flareMin }) (takeCall call demand s) := by
  simp [handOver, takeCall, h]

theorem handOver_failed (h : s.flare.state = .failed) : handOver call demand s = takeCall call demand s := by
  simp [handOver, takeCall, h]

end HandOver

/-- A report recorded (R123). -/
def recordReport (r : FlareReport) (s : State) : State := withFlare (fun f => { f with report := r }) s

section TakeReport

variable {r : FlareReport} {s : State}

theorem takeReport_off (h : s.flare.state = .off) : takeReport r s = withFlare tryStart (recordReport r s) := by
  simp [takeReport, recordReport, h]

theorem takeReport_called (h : s.flare.state = .called) :
    takeReport r s = if r.proven then proveFlame (recordReport r s) else endAttempt (recordReport r s) := by
  simp [takeReport, recordReport, h]

theorem takeReport_burning (h : s.flare.state = .burning) :
    takeReport r s = if r.proven then recordReport r s else endAttempt (recordReport r s) := by
  simp [takeReport, recordReport, h]

theorem takeReport_holding (h : s.flare.state = .holding) :
    takeReport r s = if r.proven then recordReport r s else withFlare toOff (recordReport r s) := by
  simp [takeReport, recordReport, h]

theorem takeReport_failed (h : s.flare.state = .failed) : takeReport r s = recordReport r s := by
  simp [takeReport, recordReport, h]

end TakeReport

/-! ## A push (R111) -/

/-- The record put on top of a stack that has room for it, its slot's w raised (R111). -/
def putOnTop (r : ShedRecord) (s : State) : State :=
  { s with
    stack := { records := r :: s.stack.records, changes := wrapSucc 255 s.stack.changes }
    claims := s.claims.modify r.slot fun c => { c with withheld := c.withheld + r.amount } }

theorem pushRecord_eq (r : ShedRecord) (s : State) : pushRecord r s = putOnTop r (evict s) := rfl

/-! ## The quality monitor in HELD (R21, R22) -/

/-- HELD with the hold timer at zero and QUALITY_HELD raised. -/
def markHeld (s : State) : State :=
  raise .qualityHeld { s with quality := { s.quality with source := .held, hold := some 0 } }

theorem enterHeld_eq (s : State) :
    enterHeld s = if s.config.qualityHold = 0 then enterSubstituted (markHeld s) else markHeld s := rfl

/-! ## Blocks of the state -/

/-- The fields of `State`, by name. -/
inductive Block where
  | supplied | config | store | meters | channels | loops | contacts | quality | normalizer | holder | claims | stack
  | balance | flare | policy | ports | alerts | totals | restartPending | moments | pending
deriving DecidableEq

/-- The block written back. -/
def Block.copy : Block → State → State → State
  | .supplied, s, t => { t with supplied := s.supplied }
  | .config, s, t => { t with config := s.config }
  | .store, s, t => { t with store := s.store }
  | .meters, s, t => { t with meters := s.meters }
  | .channels, s, t => { t with channels := s.channels }
  | .loops, s, t => { t with loops := s.loops }
  | .contacts, s, t => { t with contacts := s.contacts }
  | .quality, s, t => { t with quality := s.quality }
  | .normalizer, s, t => { t with normalizer := s.normalizer }
  | .holder, s, t => { t with holder := s.holder }
  | .claims, s, t => { t with claims := s.claims }
  | .stack, s, t => { t with stack := s.stack }
  | .balance, s, t => { t with balance := s.balance }
  | .flare, s, t => { t with flare := s.flare }
  | .policy, s, t => { t with policy := s.policy }
  | .ports, s, t => { t with ports := s.ports }
  | .alerts, s, t => { t with alerts := s.alerts }
  | .totals, s, t => { t with totals := s.totals }
  | .restartPending, s, t => { t with restartPending := s.restartPending }
  | .moments, s, t => { t with moments := s.moments }
  | .pending, s, t => { t with pending := s.pending }

/-- The block reads as before. -/
def Block.same : Block → State → State → Prop
  | .supplied, s, t => t.supplied = s.supplied
  | .config, s, t => t.config = s.config
  | .store, s, t => t.store = s.store
  | .meters, s, t => t.meters = s.meters
  | .channels, s, t => t.channels = s.channels
  | .loops, s, t => t.loops = s.loops
  | .contacts, s, t => t.contacts = s.contacts
  | .quality, s, t => t.quality = s.quality
  | .normalizer, s, t => t.normalizer = s.normalizer
  | .holder, s, t => t.holder = s.holder
  | .claims, s, t => t.claims = s.claims
  | .stack, s, t => t.stack = s.stack
  | .balance, s, t => t.balance = s.balance
  | .flare, s, t => t.flare = s.flare
  | .policy, s, t => t.policy = s.policy
  | .ports, s, t => t.ports = s.ports
  | .alerts, s, t => t.alerts = s.alerts
  | .totals, s, t => t.totals = s.totals
  | .restartPending, s, t => t.restartPending = s.restartPending
  | .moments, s, t => t.moments = s.moments
  | .pending, s, t => t.pending = s.pending

theorem Block.same_refl (b : Block) (s : State) : b.same s s := by cases b <;> rfl

theorem Block.same_trans {b : Block} {s t u : State} (h₁ : b.same s t) (h₂ : b.same t u) : b.same s u := by
  cases b <;> exact Eq.trans h₂ h₁

theorem Block.same_copy_self (b : Block) (s t : State) : b.same s (b.copy s t) := by cases b <;> rfl

/-- Writing one block back leaves every other. -/
theorem Block.same_copy_ne {b d : Block} (h : b ≠ d) (s t : State) : b.same t (d.copy s t) := by
  cases d <;> cases b <;> simp_all [Block.same, Block.copy]

/-- The state with the blocks of a list written back. -/
def restore (bs : List Block) (s t : State) : State := bs.foldr (fun b u => b.copy s u) t

theorem restore_same_out {b : Block} {bs : List Block} (h : b ∉ bs) (s t : State) : b.same t (restore bs s t) := by
  induction bs with
  | nil => exact b.same_refl t
  | cons d ds ih =>
    rw [List.mem_cons, not_or] at h
    exact Block.same_trans (ih h.2) (Block.same_copy_ne h.1 s _)

theorem restore_same_in {b : Block} {bs : List Block} (h : b ∈ bs) (s t : State) : b.same s (restore bs s t) := by
  induction bs with
  | nil => exact absurd h List.not_mem_nil
  | cons d ds ih =>
    by_cases hd : b = d
    · subst hd
      exact b.same_copy_self s _
    · exact Block.same_trans (ih (List.mem_of_ne_of_mem hd h)) (Block.same_copy_ne hd s _)

/-- Two states that agree in every block are equal. -/
theorem eq_of_blocks_same {s t : State} (h : ∀ b : Block, b.same s t) : t = s := by
  have h₁ : t.supplied = s.supplied := h .supplied
  have h₂ : t.config = s.config := h .config
  have h₃ : t.store = s.store := h .store
  have h₄ : t.meters = s.meters := h .meters
  have h₅ : t.channels = s.channels := h .channels
  have h₆ : t.loops = s.loops := h .loops
  have h₇ : t.contacts = s.contacts := h .contacts
  have h₈ : t.quality = s.quality := h .quality
  have h₉ : t.normalizer = s.normalizer := h .normalizer
  have h₁₀ : t.holder = s.holder := h .holder
  have h₁₁ : t.claims = s.claims := h .claims
  have h₁₂ : t.stack = s.stack := h .stack
  have h₁₃ : t.balance = s.balance := h .balance
  have h₁₄ : t.flare = s.flare := h .flare
  have h₁₅ : t.policy = s.policy := h .policy
  have h₁₆ : t.ports = s.ports := h .ports
  have h₁₇ : t.alerts = s.alerts := h .alerts
  have h₁₈ : t.totals = s.totals := h .totals
  have h₁₉ : t.restartPending = s.restartPending := h .restartPending
  have h₂₀ : t.moments = s.moments := h .moments
  have h₂₁ : t.pending = s.pending := h .pending
  cases s
  cases t
  simp_all

/-- Every block outside the list reads as before. -/
def TouchesOnly (bs : List Block) (s t : State) : Prop := ∀ b, b ∉ bs → b.same s t

namespace TouchesOnly

variable {bs cs : List Block} {s t u : State}

theorem refl (bs : List Block) (s : State) : TouchesOnly bs s s := fun b _ => b.same_refl s

/-- A change that the named blocks, written back, undo. -/
theorem of_restore (h : restore bs s t = s) : TouchesOnly bs s t := fun b hb => by
  have hsame := restore_same_out hb s t
  rw [h] at hsame
  cases b <;> exact Eq.symm hsame

/-- The named blocks, written back, undo the change. -/
theorem restored (h : TouchesOnly bs s t) : restore bs s t = s :=
  eq_of_blocks_same fun b => by
    by_cases hb : b ∈ bs
    · exact restore_same_in hb s t
    · exact Block.same_trans (h b hb) (restore_same_out hb s t)

theorem trans (h₁ : TouchesOnly bs s t) (h₂ : TouchesOnly bs t u) : TouchesOnly bs s u :=
  fun b hb => Block.same_trans (h₁ b hb) (h₂ b hb)

theorem mono (h : TouchesOnly bs s t) (hsub : bs ⊆ cs) : TouchesOnly cs s t := fun b hb => h b fun hb' => hb (hsub hb')

/-- The same, the inclusion found by evaluation. -/
theorem weaken (h : TouchesOnly bs s t) (hsub : decide (bs ⊆ cs) = true) : TouchesOnly cs s t :=
  h.mono (of_decide_eq_true hsub)

/-- A block outside the list, which evaluation finds. -/
theorem same (h : TouchesOnly bs s t) (b : Block) (hb : decide (b ∉ bs) = true) : b.same s t :=
  h b (of_decide_eq_true hb)

/-- One operation after another. -/
theorem andThen (h₁ : TouchesOnly bs s t) (h₂ : TouchesOnly cs t u) : TouchesOnly (bs ++ cs) s u :=
  (h₁.mono (List.subset_append_left bs cs)).trans (h₂.mono (List.subset_append_right bs cs))

theorem ite {p : Prop} [Decidable p] (h₁ : p → TouchesOnly bs s t) (h₂ : ¬p → TouchesOnly bs s u) :
    TouchesOnly bs s (if p then t else u) := by
  split
  · next h => exact h₁ h
  · next h => exact h₂ h

/-- An operation repeated over a list. -/
theorem foldl {α : Type} {op : State → α → State} (h : ∀ s x, TouchesOnly bs s (op s x)) (xs : List α) (s : State) :
    TouchesOnly bs s (xs.foldl op s) := by
  induction xs generalizing s with
  | nil => exact refl bs s
  | cons x xs ih => exact (h s x).trans (ih _)

end TouchesOnly

/-! ## The shared operations -/

section Operations

variable (s : State)

theorem touches_raise (a : Alert) : TouchesOnly [.alerts] s (raise a s) := .of_restore rfl
theorem touches_lower (a : Alert) : TouchesOnly [.alerts] s (lower a s) := .of_restore rfl
theorem touches_signal (x : Source) : TouchesOnly [.policy] s (signal x s) := .of_restore rfl
theorem touches_withFlare (f : Flare → Flare) : TouchesOnly [.flare] s (withFlare f s) := .of_restore rfl
theorem touches_withPass (p : Pass) : TouchesOnly [.balance] s (withPass p s) := .of_restore rfl
theorem touches_changeClaim (c : Slot) (f : Claim → Claim) : TouchesOnly [.claims] s (changeClaim c f s) :=
  .of_restore rfl
theorem touches_changePurging (c : Slot) (f : Claim → Claim) :
    TouchesOnly [.claims, .stack] s (changePurging c f s) := .of_restore rfl
theorem touches_popRecord (r : ShedRecord) (rest : List ShedRecord) :
    TouchesOnly [.claims, .stack] s (popRecord r rest s) := .of_restore rfl
theorem touches_followOverfill : TouchesOnly [.holder, .alerts] s (followOverfill s) := .of_restore rfl
theorem touches_followPressure : TouchesOnly [.holder, .alerts] s (followPressure s) := .of_restore rfl
theorem touches_quality (q : Quality) : TouchesOnly [.quality] s { s with quality := q } := .of_restore rfl
theorem touches_enterSubstituted : TouchesOnly [.quality, .alerts, .policy] s (enterSubstituted s) :=
  ((((touches_quality s _).andThen (touches_lower _ _)).andThen (touches_raise _ _)).andThen
    (touches_signal _ _)).weaken rfl
theorem touches_enterLive : TouchesOnly [.quality, .alerts] s (enterLive s) :=
  (((touches_quality s _).andThen (touches_lower _ _)).andThen (touches_lower _ _)).weaken rfl
theorem touches_snapMeters : TouchesOnly [.meters, .alerts] s (snapMeters s) := .of_restore rfl
theorem touches_sampleAnalog (amps : Currents) : TouchesOnly [.loops, .channels, .alerts] s (sampleAnalog amps s) :=
  .of_restore rfl
theorem touches_abandonFlare : TouchesOnly [.flare, .alerts] s (abandonFlare s) := .of_restore rfl
theorem touches_proveFlame : TouchesOnly [.flare, .alerts] s (proveFlame s) := .of_restore rfl
theorem touches_respond (l : Link) (code : Nat) (st : Status) (figures : List Byte) :
    TouchesOnly [.ports] s (respond l code st figures s) := .of_restore rfl

/-- What the meter stage follows, it follows on the meters and the alert register. -/
theorem touches_followFlow (t : State) : TouchesOnly [.meters, .alerts] t (followFlow s t) := .of_restore rfl

theorem touches_evict : TouchesOnly [.claims, .stack, .alerts] s (evict s) := by
  unfold evict
  refine .ite (fun _ => .refl _ _) fun _ => ?_
  split
  · exact .refl _ _
  · exact .of_restore rfl

theorem touches_putOnTop (r : ShedRecord) : TouchesOnly [.claims, .stack] s (putOnTop r s) := .of_restore rfl
theorem touches_pushRecord (r : ShedRecord) : TouchesOnly [.claims, .stack, .alerts] s (pushRecord r s) := by
  rw [pushRecord_eq]
  exact ((touches_evict s).andThen (touches_putOnTop _ r)).weaken rfl

theorem touches_markHeld : TouchesOnly [.quality, .alerts] s (markHeld s) :=
  (touches_quality s _).andThen (touches_raise _ _)
theorem touches_enterHeld : TouchesOnly [.quality, .alerts, .policy] s (enterHeld s) := by
  rw [enterHeld_eq]
  exact .ite (fun _ => ((touches_markHeld s).andThen (touches_enterSubstituted _)).weaken rfl)
    fun _ => (touches_markHeld s).weaken rfl

theorem touches_addCause (cause : LockCause) (c : Slot) : TouchesOnly [.claims, .stack] s (addCause cause s c) :=
  .of_restore (addCause_frame cause s c).2

theorem touches_removeCause (cause : LockCause) (c : Slot) : TouchesOnly [.claims] s (removeCause cause s c) :=
  .of_restore (removeCause_frame cause s c).2

theorem touches_lockAll (cause : LockCause) : TouchesOnly [.claims, .stack] s (lockAll cause s) :=
  .foldl (fun s c => touches_addCause s cause c) _ s

theorem touches_unlockAll (cause : LockCause) : TouchesOnly [.claims] s (unlockAll cause s) :=
  .foldl (fun s c => touches_removeCause s cause c) _ s

theorem touches_endAttempt : TouchesOnly [.flare, .alerts, .policy] s (endAttempt s) :=
  .ite (fun _ => ((touches_withFlare s _).andThen (touches_raise _ _)).weaken rfl) fun _ =>
    ((((touches_withFlare s _).andThen (touches_lower _ _)).andThen (touches_raise _ _)).andThen
      (touches_signal _ _)).weaken rfl

theorem touches_enterHolding : TouchesOnly [.flare] s (enterHolding s) :=
  .ite (fun _ => .of_restore rfl) fun _ => .of_restore rfl

theorem touches_handOver (call : Bool) (demand : Nat) : TouchesOnly [.flare, .alerts] s (handOver call demand s) := by
  have changed (t) (f : Flare → Flare) : TouchesOnly [.flare, .alerts] t (withFlare f t) :=
    (touches_withFlare t f).weaken rfl
  have taken : TouchesOnly [.flare, .alerts] s (takeCall call demand s) := changed s _
  cases h : s.flare.state with
  | off => rw [handOver_off h]; exact taken.trans (changed _ _)
  | called =>
    rw [handOver_called h]
    exact .ite (fun _ => taken.trans (changed _ _)) fun _ => taken.trans (touches_abandonFlare _)
  | burning =>
    rw [handOver_burning h]
    exact .ite (fun _ => taken.trans (changed _ _)) fun _ => taken.trans ((touches_enterHolding _).weaken rfl)
  | holding =>
    rw [handOver_holding h]
    exact .ite (fun _ => taken.trans (changed _ _)) fun _ => taken.trans (changed _ _)
  | failed => rw [handOver_failed h]; exact taken

theorem touches_takeReport (r : FlareReport) : TouchesOnly [.flare, .alerts, .policy] s (takeReport r s) := by
  have changed (t) (f : Flare → Flare) : TouchesOnly [.flare, .alerts, .policy] t (withFlare f t) :=
    (touches_withFlare t f).weaken rfl
  have recorded : TouchesOnly [.flare, .alerts, .policy] s (recordReport r s) := changed s _
  cases h : s.flare.state with
  | off => rw [takeReport_off h]; exact recorded.trans (changed _ _)
  | called =>
    rw [takeReport_called h]
    exact .ite (fun _ => recorded.trans ((touches_proveFlame _).weaken rfl))
      fun _ => recorded.trans (touches_endAttempt _)
  | burning =>
    rw [takeReport_burning h]
    exact .ite (fun _ => recorded) fun _ => recorded.trans (touches_endAttempt _)
  | holding =>
    rw [takeReport_holding h]
    exact .ite (fun _ => recorded) fun _ => recorded.trans (changed _ _)
  | failed => rw [takeReport_failed h]; exact recorded

theorem touches_stallExpires (m : Meter) : TouchesOnly [.meters, .alerts] s (stallExpires m s) :=
  .ite (fun _ => .of_restore rfl) fun _ => .refl _ _

theorem touches_holdExpires : TouchesOnly [.quality, .alerts, .policy] s (holdExpires s) :=
  .ite (fun _ => touches_enterSubstituted s) fun _ => .refl _ _

theorem touches_leaseExpires (c : Slot) : TouchesOnly [.claims, .stack, .alerts] s (leaseExpires c s) :=
  .ite (fun _ => (touches_changePurging s c _).andThen (touches_raise _ _)) fun _ => .refl _ _

theorem touches_startExpires (c : Slot) : TouchesOnly [.claims, .stack, .alerts] s (startExpires c s) :=
  .ite (fun _ => (touches_changePurging s c _).andThen (touches_raise _ _)) fun _ => .refl _ _

theorem touches_ignitionExpires : TouchesOnly [.flare, .alerts, .policy] s (ignitionExpires s) :=
  .ite (fun _ => touches_endAttempt s) fun _ => .refl _ _

theorem touches_minBurnExpires : TouchesOnly [.flare] s (minBurnExpires s) :=
  .ite (fun _ => .of_restore rfl) fun _ => .refl _ _

theorem touches_setPermit (on : Bool) : TouchesOnly [.flare, .alerts] s (setPermit on s) := by
  have changed (t) (f : Flare → Flare) : TouchesOnly [.flare, .alerts] t (withFlare f t) :=
    (touches_withFlare t f).weaken rfl
  refine .ite (fun _ => .refl _ _) fun _ => .ite (fun _ => (changed _ _).trans (changed _ _)) fun _ => ?_
  split
  · exact (changed _ _).trans (touches_abandonFlare _)
  · exact (changed _ _).trans (touches_abandonFlare _)
  · exact (changed _ _).trans (touches_abandonFlare _)
  · exact changed _ _
  · exact changed _ _

theorem touches_examineQuality : TouchesOnly [.quality, .alerts, .policy] s (examineQuality s) :=
  .ite (fun _ => .ite (fun _ => .of_restore rfl) fun _ => touches_enterHeld s) fun _ => .refl _ _

/-- The blocks that the sour evaluation may touch (R28, R29). -/
def sourBlocks : List Block := [.quality, .claims, .stack, .alerts, .policy]

theorem touches_evaluateSour (h2s : Nat) : TouchesOnly sourBlocks s (evaluateSour h2s s) := by
  have hq (q) : TouchesOnly sourBlocks s { s with quality := q } := (touches_quality s q).weaken rfl
  unfold evaluateSour
  refine .ite (fun _ => .ite (fun _ => .ite (fun _ => ?_) fun _ => hq _) fun _ => hq _)
    fun _ => .ite (fun _ => .ite (fun _ => ?_) fun _ => hq _) fun _ => hq _
  · exact (hq _).trans (((touches_unlockAll _ .sour).andThen (touches_lower _ .sourGas)).weaken rfl)
  · exact (hq _).trans ((((touches_lockAll _ .sour).andThen (touches_raise _ .sourGas)).andThen
      (touches_signal _ .sour)).weaken rfl)

theorem touches_contactOnset (k : Contact) :
    TouchesOnly [.claims, .stack, .alerts, .policy, .holder] s (contactOnset k s) := by
  have locked (cause a x) :=
    ((touches_lockAll s cause).andThen (touches_raise _ a)).andThen (touches_signal _ x)
  have overfill := (touches_followOverfill s).andThen (touches_signal _ .k3)
  exact .ite (fun _ => (locked .gasRoom .gasRoom .k2).weaken rfl) fun _ =>
    .ite (fun _ => overfill.weaken rfl) fun _ =>
    .ite (fun _ => (locked .estop .estop .k4).weaken rfl) fun _ => .refl _ _

theorem touches_contactEnd (k : Contact) :
    TouchesOnly [.claims, .alerts, .policy, .holder, .quality] s (contactEnd k s) := by
  have unlocked (cause a) := (touches_unlockAll s cause).andThen (touches_lower _ a)
  exact .ite (fun _ => (unlocked .gasRoom .gasRoom).weaken rfl) fun _ =>
    .ite (fun _ => (touches_followOverfill s).weaken rfl) fun _ =>
    .ite (fun _ => (unlocked .estop .estop).weaken rfl) fun _ =>
    .ite (fun _ => (touches_enterHeld s).weaken rfl) fun _ => .refl _ _

theorem touches_balanceCheck (difference : Int) :
    TouchesOnly [.holder, .alerts, .policy] s (balanceCheck difference s) := by
  have hh (h) : TouchesOnly [.holder] s { s with holder := h } := .of_restore rfl
  exact .ite (fun _ => (hh _).weaken rfl) fun _ =>
    .ite (fun _ => (((hh _).andThen (touches_raise _ _)).andThen (touches_signal _ _)).weaken rfl) fun _ =>
    .ite (fun _ => ((hh _).andThen (touches_lower _ _)).weaken rfl) fun _ => (hh _).weaken rfl

theorem touches_stageHolderLow (old : Band) : TouchesOnly [.alerts] s (stageHolderLow old s) :=
  .ite (fun _ => .refl _ _) fun _ => .ite (fun _ => .of_restore rfl) fun _ => .of_restore rfl

theorem touches_startAlert (a : Alert) (found : Bool) : TouchesOnly [.alerts] s (startAlert a found s) :=
  .ite (fun _ => .of_restore rfl) fun _ => .refl _ _

/-- The blocks that a written setting may act on (R175). -/
def settingBlocks : List Block := [.meters, .quality, .claims, .stack, .flare, .policy, .alerts, .totals]

/-- A changed limit of the flare range acts on the sequencer (R122). -/
theorem settingEffect_flareRange {k : Setting} (h : k = .flareMin ∨ k = .flareMax) (s : State) :
    settingEffect k s = withFlare (refitFlare s.config.flareMin s.config.flareMax) s := by
  obtain rfl | rfl := h <;> rfl

/-- A changed default acts on the quality monitor (R24). -/
theorem settingEffect_default {k : Setting} (h : k = .defaultCh4 ∨ k = .defaultH2s) (s : State) :
    settingEffect k s = followDefaults s := by
  obtain rfl | rfl := h <;> rfl

theorem touches_followDefaults : TouchesOnly [.quality] s (followDefaults s) :=
  .ite (fun _ => touches_quality s _) fun _ => .refl _ _

/-- The blocks that each setting, once written, may act on. -/
def effectBlocks : Setting → List Block
  | .lease | .startTimeout => [.claims, .stack, .alerts]
  | .stallTime => [.meters, .alerts]
  | .qualityHold => [.quality, .alerts, .policy]
  | .defaultCh4 | .defaultH2s => [.quality]
  | .ignitionTimeout => [.flare, .alerts, .policy]
  | .flareMin | .flareMax | .minBurn => [.flare]
  | .gasDayHour => [.totals]
  | .period | .stallHold | .defaultTemp | .sourLimit | .sourHysteresis | .sourPersistence | .filterShift
  | .restoreSpacing | .balanceWindow | .balanceTolerance | .pressureHigh | .pressureLow | .flareAttempts
  | .siteLimit | .ambient | .capacity => []

theorem touches_effect (k : Setting) : TouchesOnly (effectBlocks k) s (settingEffect k s) := by
  cases k with
  | lease => exact .foldl (fun s c => touches_leaseExpires s c) allSlots s
  | startTimeout => exact .foldl (fun s c => touches_startExpires s c) allSlots s
  | stallTime => exact .foldl (fun s m => touches_stallExpires s m) allMeters s
  | qualityHold => exact touches_holdExpires s
  | defaultCh4 | defaultH2s =>
    rw [settingEffect_default (by simp)]
    exact touches_followDefaults s
  | flareMin | flareMax =>
    rw [settingEffect_flareRange (by simp)]
    exact touches_withFlare s _
  | ignitionTimeout => exact touches_ignitionExpires s
  | minBurn => exact touches_minBurnExpires s
  | gasDayHour => exact .of_restore rfl
  | _ => exact .refl _ _

theorem effectBlocks_subset (k : Setting) : effectBlocks k ⊆ settingBlocks := by
  cases k <;> exact of_decide_eq_true rfl

theorem touches_settingEffect (k : Setting) : TouchesOnly settingBlocks s (settingEffect k s) :=
  (touches_effect s k).mono (effectBlocks_subset k)

theorem touches_config (k : WorkingConfig) : TouchesOnly [.config] s { s with config := k } := .of_restore rfl

end Operations
end Sys2Proof.Machine
end

section
/-! The table of the blocks that each command may touch, and what a step can do. -/

namespace Sys2Proof.Machine

open Sys2Proof

/-! ## Relations that every event, request and stage keeps -/

section Relations

variable {R : State → State → Prop} {s t : State}

/-- What an event brings about, it brings about out of the state before it. -/
theorem event_rel {f : State → State} (h : event f s = .next t) (hrefl : R s s) (hf : s.supplied = true → R s (f s)) :
    R s t := by
  obtain ⟨hs, rfl⟩ | ⟨-, rfl⟩ := event_next h
  · exact hf hs
  · exact hrefl

theorem flowEvent_rel {f : State → State} (h : flowEvent f s = .next t) (hrefl : R s s)
    (hf : s.supplied = true → R s (followFlow s (f s))) : R s t := event_rel h hrefl hf

theorem request_rel {l : Link} {code : Nat} {serve : State → Served} (h : request l code serve s = .next t)
    (hrefl : R s s) (hrefused : s.supplied = true → R s (respond l code .refusedAuthority [] s))
    (hserved : s.supplied = true →
      R s (respond l code (serve s).status (serve s).figures (followFlow s (serve s).state))) : R s t := by
  obtain ⟨-, rfl⟩ | ⟨hs, -, rfl⟩ | ⟨hs, -, rfl⟩ := request_next h
  · exact hrefl
  · exact hrefused hs
  · exact hserved hs

theorem inStage_rel {stage : PassStage} {f : Pass → State → State} (hrefl : R s s)
    (hf : ∀ p, s.balance.pass = some p → p.stage = stage → R s (f p s)) : R s (inStage stage f s) := by
  obtain h | ⟨p, hp, hstage, h⟩ := inStage_cases stage f s
  · rw [h]; exact hrefl
  · rw [h]; exact hf p hp hstage

end Relations

/-! ## What the blocks make of their requests -/

section Served

variable (s : State)

theorem touches_serveRegister (m x u : Nat) (c : Slot) :
    TouchesOnly [.claims, .alerts] s (serveRegister m x u c s).state := by
  have changed (f) : TouchesOnly [.claims, .alerts] s (changeClaim c f s) :=
    (touches_changeClaim s c f).weaken rfl
  cases h : (s.claims.get c).state with
  | idle => simp only [serveRegister, h]; exact changed _
  | vacant => simp only [serveRegister, h]; exact changed _
  | lapsed => simp only [serveRegister, h]; exact (changed _).trans ((touches_lower _ _).weaken rfl)
  | _ => simp only [serveRegister, h]; exact .refl _ _

theorem touches_serveClaim (r : Nat) (c : Slot) : TouchesOnly [.claims, .alerts] s (serveClaim r c s).state := by
  have changed (f) : TouchesOnly [.claims, .alerts] s (changeClaim c f s) :=
    (touches_changeClaim s c f).weaken rfl
  cases h : (s.claims.get c).state with
  | idle => simp only [serveClaim, h]; exact changed _
  | lapsed => simp only [serveClaim, h]; exact (changed _).trans ((touches_lower _ _).weaken rfl)
  | locked =>
    simp only [serveClaim, h, apply_ite Served.state]
    exact .ite (fun _ => .refl _ _) fun _ => changed _
  | _ => simp only [serveClaim, h]; exact .refl _ _

theorem touches_serveAmend (r : Nat) (c : Slot) : TouchesOnly [.claims] s (serveAmend r c s).state := by
  cases h : (s.claims.get c).state with
  | vacant | idle | lapsed => simp only [serveAmend, h]; exact .refl _ _
  | locked =>
    simp only [serveAmend, h, apply_ite Served.state]
    exact .ite (fun _ => touches_changeClaim s c _) fun _ => .refl _ _
  | _ => simp only [serveAmend, h]; exact touches_changeClaim s c _

/-- A REPORT by state, its rate recorded first (R65). -/
theorem touches_serveReport (running : Bool) (rate : Nat) (c : Slot) :
    TouchesOnly [.claims, .stack, .alerts] s (serveReport running rate c s).state := by
  have recorded := touches_changeClaim s c fun cl => { cl with lastRate := clampNat 0 5000 rate }
  have runs := ((recorded.andThen (touches_changeClaim _ c toRunning)).andThen (touches_lower _ (.startFail c))).andThen
    (touches_lower _ (.trip c))
  have trips := (recorded.andThen (touches_changePurging _ c toIdle)).andThen (touches_raise _ (.trip c))
  cases h : (s.claims.get c).state with
  | vacant => simp only [serveReport, h]; exact .refl _ _
  | admitted =>
    cases running with
    | true => simp only [serveReport, h]; exact runs.weaken rfl
    | false => simp only [serveReport, h]; exact recorded.weaken rfl
  | running =>
    cases running with
    | true => simp only [serveReport, h]; exact recorded.weaken rfl
    | false => simp only [serveReport, h]; exact trips.weaken rfl
  | _ => simp only [serveReport, h]; exact recorded.weaken rfl

theorem touches_serveRelease (c : Slot) : TouchesOnly [.claims, .stack, .alerts] s (serveRelease c s).state := by
  have changed (f) : TouchesOnly [.claims, .stack, .alerts] s (changeClaim c f s) :=
    (touches_changeClaim s c f).weaken rfl
  cases h : (s.claims.get c).state with
  | vacant | idle => simp only [serveRelease, h]; exact .refl _ _
  | waiting | locked => simp only [serveRelease, h]; exact changed _
  | lapsed => simp only [serveRelease, h]; exact (changed _).trans ((touches_lower _ _).weaken rfl)
  | admitted | running | shed => simp only [serveRelease, h]; exact (touches_changePurging s c _).weaken rfl

theorem touches_serveHoldSlots (mask : Nat) (on : Bool) :
    TouchesOnly [.claims, .stack] s (serveHoldSlots mask on s).state := by
  simp only [serveHoldSlots, apply_ite Served.state]
  refine .ite (fun _ => ?_) fun _ => .refl _ _
  cases on with
  | true => exact .foldl (fun s c => touches_addCause s _ c) _ s
  | false => exact (TouchesOnly.foldl (fun s c => touches_removeCause s _ c) _ s).weaken rfl

theorem touches_serveForceVacant (slot : Nat) :
    TouchesOnly [.claims, .stack, .alerts] s (serveForceVacant slot s).state := by
  cases h : slotOfByte slot with
  | none => simp only [serveForceVacant, h]; exact .refl _ _
  | some c =>
    simp only [serveForceVacant, h, apply_ite Served.state]
    exact .ite (fun _ => .refl _ _) fun _ => ((((touches_changePurging s c toVacant).andThen
      (touches_lower _ (.startFail c))).andThen (touches_lower _ (.trip c))).andThen
        (touches_lower _ (.lapse c))).weaken rfl

theorem touches_limitSlot (x : Nat) (c : Slot) : TouchesOnly [.claims] s (limitSlot x s c) :=
  .ite (fun _ => .refl _ _) fun _ => touches_changeClaim s c _

theorem touches_serveSetLimits (mask max : Nat) : TouchesOnly [.claims] s (serveSetLimits mask max s).state := by
  simp only [serveSetLimits, apply_ite Served.state]
  exact .ite (fun _ => .refl _ _) fun _ => .ite (fun _ => .refl _ _)
    fun _ => .foldl (fun s c => touches_limitSlot s _ c) _ s

theorem touches_serveQualityResume : TouchesOnly [.quality, .alerts] s (serveQualityResume s).state := by
  simp only [serveQualityResume, apply_ite Served.state]
  exact .ite (fun _ => .refl _ _) fun _ => .ite (fun _ => touches_enterLive s) fun _ => .refl _ _

theorem touches_serveFlareReset : TouchesOnly [.flare, .alerts] s (serveFlareReset s).state := by
  simp only [serveFlareReset, apply_ite Served.state]
  exact .ite (fun _ => (touches_withFlare s _).andThen (touches_lower _ _)) fun _ => .refl _ _

theorem touches_serveSwitchBank (bank : Nat) : TouchesOnly [.policy] s (serveSwitchBank bank s).state := by
  cases h : bankOf bank with
  | none => simp only [serveSwitchBank, h]; exact .refl _ _
  | some b => simp only [serveSwitchBank, h]; exact .of_restore rfl

theorem touches_writeBank (bank : Nat) (known : Bank → Bool) (write : Bank → Bank × Bool) :
    TouchesOnly [.config, .policy] s (writeBank bank known write s).state := by
  cases h : bankOf bank with
  | none =>
    simp only [writeBank, h, apply_ite Served.state]
    exact .ite (fun _ => .refl _ _) fun _ => .refl _ _
  | some b =>
    simp only [writeBank, h, apply_ite Served.state]
    exact .ite (fun _ => .refl _ _) fun _ => .ite (fun _ => .refl _ _) fun _ => .ite (fun _ => .refl _ _)
      fun _ => .ite (fun _ => .refl _ _) fun _ => .of_restore rfl

theorem touches_serveBinding (number : Nat) (value : Int) :
    TouchesOnly [.config] s (serveBinding number value s).state := by
  simp only [serveBinding, apply_ite Served.state]
  refine .ite (fun _ => .refl _ _) fun _ => ?_
  split
  · exact touches_config s _
  · exact .refl _ _

/-- The blocks that a CONFIGURE may touch (R175). -/
def configureBlocks : List Block := .config :: .normalizer :: .balance :: settingBlocks

theorem touches_serveSetting (k : Setting) (value : Int) :
    TouchesOnly (.config :: settingBlocks) s (serveSetting k value s).state := by
  simp only [serveSetting, apply_ite Served.state]
  exact .ite (fun _ => .refl _ _) fun _ => .ite (fun _ => .refl _ _)
    fun _ => (touches_config s _).andThen (touches_settingEffect _ k)

/-- The line's records as a written line-in-use flag leaves them, before the alert records follow (R4). -/
def lineReset (l : Line) (inUse : Bool) (s : State) : State :=
  { s with
    config := { s.config with inUse := s.config.inUse.set l inUse }
    meters := s.meters.set (lineMeter l) (startMeter (if inUse then some 0 else none))
    normalizer := { s.normalizer with carries := s.normalizer.carries.set (lineMeter l) 0 }
    balance := noteLineChange l s.balance }

theorem changeLine_eq (l : Line) (inUse : Bool) (s : State) :
    changeLine l inUse s =
      lower (.counterOverrun (lineMeter l)) (lower (.meterStall (lineMeter l)) (lineReset l inUse s)) := rfl

theorem touches_lineReset (l : Line) (inUse : Bool) :
    TouchesOnly [.config, .meters, .normalizer, .balance] s (lineReset l inUse s) := .of_restore rfl

theorem touches_serveInUse (l : Line) (value : Int) :
    TouchesOnly [.config, .meters, .normalizer, .balance, .alerts] s (serveInUse l value s).state := by
  simp only [serveInUse, apply_ite Served.state, changeLine_eq]
  exact .ite (fun _ => .ite (fun _ => .refl _ _) fun _ => (((touches_lineReset s l _).andThen
    (touches_lower _ _)).andThen (touches_lower _ _)).weaken rfl) fun _ => .refl _ _

theorem touches_serveRange (a : Channel) (high : Bool) (value : Int) :
    TouchesOnly [.config] s (serveRange a high value s).state := by
  simp only [serveRange, apply_ite Served.state]
  exact .ite (fun _ => touches_config s _) fun _ => .refl _ _

theorem touches_serveItem (i : Item) (value : Int) : TouchesOnly configureBlocks s (serveItem i value s).state := by
  cases i with
  | setting k => exact (touches_serveSetting s k value).weaken rfl
  | factor m => exact (touches_config s _).weaken rfl
  | inUse l => exact (touches_serveInUse s l value).weaken rfl
  | range a high => exact (touches_serveRange s a high value).weaken rfl

theorem touches_serveConfigure (item : Nat) (value : Int) :
    TouchesOnly configureBlocks s (serveConfigure item value s).state := by
  simp only [serveConfigure, apply_ite Served.state]
  refine .ite (fun _ => .refl _ _) fun _ => ?_
  split
  · exact (touches_writeBank s _ _ _).weaken rfl
  · exact (touches_serveBinding s _ _).weaken rfl
  · exact touches_serveItem s _ _
  · exact .refl _ _

theorem touches_serveSetClock (d : DateTime) : TouchesOnly [.totals, .alerts] s (serveSetClock d s).state := by
  simp only [serveSetClock, apply_ite Served.state]
  have written (k) : TouchesOnly [.totals] s { s with totals := k } := .of_restore rfl
  exact .ite (fun _ => .ite (fun _ => (written _).andThen (touches_lower _ _)) fun _ => (written _).weaken rfl)
    fun _ => .refl _ _

theorem touches_serveSaveConfig : TouchesOnly [.store] s (serveSaveConfig s).state := by
  simp only [serveSaveConfig, apply_ite Served.state]
  exact .ite (fun _ => .refl _ _) fun _ => .of_restore rfl

theorem touches_serveAckAlerts : TouchesOnly [.alerts] s (serveAckAlerts s).state :=
  .of_restore (acknowledged_examineDepth_frame s)

/-- A read touches no block. -/
theorem serveReadClaim_state (slot : Nat) : (serveReadClaim slot s).state = s := by
  unfold serveReadClaim
  split <;> rfl

theorem serveReadStack_state (position : Nat) : (serveReadStack position s).state = s := by
  simp [serveReadStack, apply_ite Served.state]

theorem serveReadBank_state (bank row : Nat) : (serveReadBank bank row s).state = s := by
  unfold serveReadBank
  split
  · rfl
  · split <;> rfl

theorem serveReadTotals_state (record group : Nat) : (serveReadTotals record group s).state = s := by
  simp [serveReadTotals, apply_ite Served.state]

theorem serveReadStatus_state (l : Link) (group : Nat) : (serveReadStatus l group s).state = s := by
  simp [serveReadStatus, apply_ite Served.state]

end Served

/-! ## Stages, starts and frames -/

section Steps

variable (s : State)

/-- The blocks that the sample stage may touch (R87). -/
def sampleBlocks : List Block := [.meters, .channels, .loops, .balance] ++ sourBlocks

/-- The field sampled: counters, channels and quality (R3, R12, R20). -/
def fieldSampled (amps : Currents) (s : State) : State := examineQuality (sampleAnalog amps (snapMeters s))

/-- The field as it is evaluated for the sour condition (R28, R29). -/
def sourEvaluated (amps : Currents) (s : State) : State :=
  evaluateSour (fieldSampled amps s).quality.h2s (fieldSampled amps s)

/-- What the sample stage gives the pass (R87). -/
def sampledOf (amps : Currents) (p : Pass) (s : State) : Sampled :=
  { counts := Tab.gen fun m => (s.meters.get m).count
    substitutes := Tab.gen fun m =>
      substituteOf p.settings.stallHold s.claims s.flare.demand m ((snapMeters s).meters.get m)
    a1Ended := (s.channels.get chA1).fault && !((sampleAnalog amps (snapMeters s)).channels.get chA1).fault
    k3 := ((fieldSampled amps s).contacts.get conK3).debounced
    ch4 := (fieldSampled amps s).quality.ch4
    h2s := (fieldSampled amps s).quality.h2s
    source := (fieldSampled amps s).quality.source
    lineChanged := Tab.fill 6 false }

theorem sampleStep_eq (amps : Currents) (p : Pass) (s : State) :
    sampleStep amps p s =
      withPass { p with stage := .sampled, sampled := sampledOf amps p s } (sourEvaluated amps s) := rfl

theorem touches_fieldSampled (amps : Currents) :
    TouchesOnly [.meters, .channels, .loops, .quality, .alerts, .policy] s (fieldSampled amps s) :=
  (((touches_snapMeters s).andThen (touches_sampleAnalog _ amps)).andThen (touches_examineQuality _)).weaken rfl

/-- After the counters the stage leaves the meters. -/
theorem touches_sourEvaluated_snapped (amps : Currents) :
    TouchesOnly (.channels :: .loops :: sourBlocks) (snapMeters s) (sourEvaluated amps s) :=
  (((touches_sampleAnalog _ amps).andThen (touches_examineQuality _)).andThen (touches_evaluateSour _ _)).weaken rfl

theorem touches_sourEvaluated (amps : Currents) :
    TouchesOnly ([.meters, .channels, .loops] ++ sourBlocks) s (sourEvaluated amps s) :=
  ((touches_fieldSampled s amps).andThen (touches_evaluateSour _ _)).weaken rfl

theorem touches_sampleStep (amps : Currents) (p : Pass) : TouchesOnly sampleBlocks s (sampleStep amps p s) := by
  rw [sampleStep_eq]
  exact ((touches_sourEvaluated s amps).andThen (touches_withPass _ _)).weaken rfl

theorem touches_measureStep (p : Pass) : TouchesOnly [.meters, .normalizer, .balance] s (measureStep p s) := by
  have h (m n) : TouchesOnly [.meters, .normalizer] s { s with meters := m, normalizer := n } := .of_restore rfl
  exact ((h _ _).andThen (touches_withPass _ _)).weaken rfl

/-- The holder with the A1 reading taken: level, inventory, ΔI and band (R42 to R49). -/
def leveled (p : Pass) (s : State) : State :=
  let level := (s.channels.get chA1).reading.toNat
  { s with holder :=
      { s.holder with
        level, deltaI := inventoryChange s.config.capacity level s.holder.prevLevel p.sampled.ch4
        inventory := inventoryOf s.config.capacity level p.sampled.ch4, band := stageBand p level s
        prevLevel := if (s.channels.get chA1).fault then s.holder.prevLevel else level } }

/-- HOLDER_LOW and the overfill condition follow the band (R53, R54). -/
def bandFollowed (p : Pass) (s : State) : State := followOverfill (stageHolderLow s.holder.band (leveled p s))

/-- The balance check made, or suspended around a fault of A1 (R49 to R51). -/
def balanceChecked (p : Pass) (s : State) : State :=
  if (s.channels.get chA1).fault || p.sampled.a1Ended then bandFollowed p s
  else balanceCheck ((leveled p s).holder.deltaI - netMetered p.measured.figures) (bandFollowed p s)

/-- The pass with what the holder stage hands to it (R56). -/
def handedPass (p : Pass) (h : Holder) : Pass :=
  { p with
    stage := .held
    handed :=
      { band := h.band, overfill := p.sampled.k3 || h.band = .fallThrough
        pressureHigh := h.pressureHigh, pressureLow := h.pressureLow } }

theorem holderStep_eq (p : Pass) (s : State) :
    holderStep p s =
      withPass (handedPass p (followPressure (balanceChecked p s)).holder) (followPressure (balanceChecked p s)) := rfl

theorem touches_leveled (p : Pass) : TouchesOnly [.holder] s (leveled p s) := .of_restore rfl

theorem touches_bandFollowed (p : Pass) : TouchesOnly [.holder, .alerts] s (bandFollowed p s) :=
  (((touches_leveled s p).andThen (touches_stageHolderLow _ _)).andThen (touches_followOverfill _)).weaken rfl

theorem touches_balanceChecked (p : Pass) : TouchesOnly [.holder, .alerts, .policy] s (balanceChecked p s) :=
  .ite (fun _ => (touches_bandFollowed s p).weaken rfl)
    fun _ => ((touches_bandFollowed s p).andThen (touches_balanceCheck _ _)).weaken rfl

theorem touches_holderStep (p : Pass) : TouchesOnly [.holder, .alerts, .policy, .balance] s (holderStep p s) := by
  rw [holderStep_eq]
  exact (((touches_balanceChecked s p).andThen (touches_followPressure _)).andThen (touches_withPass _ _)).weaken rfl

theorem touches_shedPushStep (p : Pass) :
    TouchesOnly [.claims, .stack, .alerts, .balance] s (shedPushStep p s) := by
  unfold shedPushStep
  split
  · exact .refl _ _
  · exact ((touches_pushRecord s _).andThen (touches_withPass _ _)).weaken rfl

theorem touches_restoreStep (p : Pass) : TouchesOnly [.balance] s (restoreStep p s) :=
  .ite (fun _ => touches_withPass s _) fun _ => .refl _ _

theorem touches_popStep (p : Pass) : TouchesOnly [.claims, .stack, .balance] s (popStep p s) := by
  unfold popStep
  split
  · exact (touches_withPass s _).weaken rfl
  · exact .ite (fun _ => ((touches_popRecord s _ _).andThen (touches_withPass _ _)).weaken rfl)
      fun _ => (touches_withPass s _).weaken rfl

theorem touches_flareStep (p : Pass) : TouchesOnly [.flare, .alerts, .balance] s (flareStep p s) :=
  ((touches_handOver s _ _).andThen (touches_withPass _ _)).weaken rfl

theorem touches_applyStep (p : Pass) : TouchesOnly [.claims, .stack, .balance, .flare, .totals] s (applyStep p s) :=
  fun b hb => by
    cases b with
    | claims | stack | balance | flare | totals => exact absurd (by decide) hb
    | _ => rfl

/-- The blocks that both starts form anew (R178). -/
def startBlockList : List Block :=
  [.meters, .channels, .loops, .contacts, .quality, .normalizer, .holder, .claims, .stack, .balance, .flare, .policy,
    .ports, .alerts, .totals, .restartPending, .moments]

theorem touches_startBlocks : TouchesOnly startBlockList s (startBlocks s) := fun b hb => by
  cases b with
  | supplied | config | store | pending => rfl
  | _ => exact absurd (by decide) hb

theorem touches_startQuality : TouchesOnly [.quality, .alerts] s (startQuality s) :=
  .ite (fun _ => (touches_quality s _).weaken rfl) fun _ => (touches_quality s _).andThen (touches_raise _ _)

/-- The holder's record after a start, before its conditions are looked at (R57). -/
def startHolderRecord (s : State) : Holder :=
  let level := (s.channels.get chA1).reading.toNat
  { level, prevLevel := level, inventory := inventoryOf s.config.capacity level s.quality.ch4, deltaI := 0,
    band := recomputeBand (activeBank s) level, accumulator := 0, window := 0, mismatch := false,
    overfill := false, pressureHigh := false, pressureLow := false }

theorem startHolder_eq (s : State) :
    startHolder s =
      followPressure (followOverfill (followHolderLow { s with holder := startHolderRecord s })) := rfl

theorem touches_followHolderLow : TouchesOnly [.alerts] s (followHolderLow s) :=
  .ite (fun _ => touches_raise s _) fun _ => touches_lower s _

theorem touches_startHolder : TouchesOnly [.holder, .alerts] s (startHolder s) := by
  have h : TouchesOnly [.holder] s { s with holder := startHolderRecord s } := .of_restore rfl
  rw [startHolder_eq]
  exact (((h.andThen (touches_followHolderLow _)).andThen (touches_followOverfill _)).andThen
    (touches_followPressure _)).weaken rfl

theorem touches_startBindings : TouchesOnly [.policy, .moments] s (startBindings s) := .of_restore rfl

theorem touches_startOnsets : TouchesOnly [.alerts, .policy, .moments] s (startOnsets s) := by
  unfold startOnsets
  exact (((((touches_startAlert s _ _).andThen (touches_startAlert _ _ _)).andThen (touches_startAlert _ _ _)).andThen
    (touches_startAlert _ _ _)).andThen (touches_startBindings _)).weaken rfl

theorem touches_startBalance : TouchesOnly [.balance] s (startBalance s) := .of_restore rfl

/-- What the start sample, the start decisions and the start onsets form on the blocks' start states (R178). -/
theorem touches_startFormed (amps : Currents) :
    TouchesOnly [.loops, .channels, .alerts, .quality, .holder, .policy, .moments, .balance] (startBlocks s)
      (start amps s) :=
  (((((touches_sampleAnalog _ amps).andThen (touches_startQuality _)).andThen (touches_startHolder _)).andThen
    (touches_startOnsets _)).andThen (touches_startBalance _)).weaken rfl

theorem touches_start (amps : Currents) : TouchesOnly startBlockList s (start amps s) :=
  ((touches_startBlocks s).andThen (touches_startFormed s amps)).weaken rfl

theorem touches_loadConfig (configAgrees : Bool) :
    TouchesOnly [.config, .store, .policy] s (loadConfig configAgrees s) := .of_restore rfl

theorem touches_setLastGood : TouchesOnly [.channels] s (setLastGood s) := .of_restore rfl

theorem touches_judgeTotals (cellLow totalsAgree : Bool) :
    TouchesOnly [.totals] s (judgeTotals cellLow totalsAgree s) :=
  .ite (fun _ => .refl _ _) fun _ => .of_restore rfl

/-- A valid frame's port in HOLD, with its slot's running lease restarted (R61, R154). -/
def frameHeld (l : Link) (h : HeldRequest) (s : State) : State :=
  restartLease l { s with ports := s.ports.modify l fun p =>
    { p with state := .hold, body := [], escaped := false, gap := none, held := some h } }

theorem admitFrame_eq (l : Link) (h : HeldRequest) (s : State) :
    admitFrame l h s =
      match checkRequest l h.code h.payload with
      | .notAllowed => respond l h.code .refusedAuthority [] (frameHeld l h s)
      | .badForm => respond l h.code .refusedUnknown [] (frameHeld l h s)
      | .unknownCode | .request _ => frameHeld l h s := by
  unfold admitFrame frameHeld
  cases checkRequest l h.code h.payload <;> rfl

theorem touches_restartLease (l : Link) : TouchesOnly [.claims] s (restartLease l s) := by
  unfold restartLease
  split
  · exact .of_restore rfl
  · exact .refl _ _

theorem touches_ports (p : Tab 7 Port) : TouchesOnly [.ports] s { s with ports := p } := .of_restore rfl

theorem touches_frameHeld (l : Link) (h : HeldRequest) : TouchesOnly [.claims, .ports] s (frameHeld l h s) :=
  ((touches_ports s _).andThen (touches_restartLease _ l)).weaken rfl

theorem touches_admitFrame (l : Link) (h : HeldRequest) : TouchesOnly [.claims, .ports] s (admitFrame l h s) := by
  have answered (st) : TouchesOnly [.claims, .ports] s (respond l h.code st [] (frameHeld l h s)) :=
    ((touches_frameHeld s l h).andThen (touches_respond _ _ _ _ _)).weaken rfl
  rw [admitFrame_eq]
  split
  · exact answered _
  · exact answered _
  · exact touches_frameHeld s l h
  · exact touches_frameHeld s l h

end Steps

/-! ## The table -/

/-- The blocks that every served request may touch beside those of its owning block. -/
def answerBlocks : List Block := [.meters, .alerts, .ports]

/-- What follows a command's own changes: nothing, the meter stage (R5), or the meter stage and the answer (R158). -/
inductive Finish where
  | plain | followed | answered

/-- The blocks that what follows may touch. -/
def Finish.blocks : Finish → List Block
  | .plain => []
  | .followed => [.meters, .alerts]
  | .answered => answerBlocks

/-- The state `u` that the command's own changes leave is finished to `t`. -/
def Finished (s u t : State) : Finish → Prop
  | .plain => t = u
  | .followed => t = followFlow s u
  | .answered => (u = s ∧ t = s) ∨ ∃ l code st figures, t = respond l code st figures (followFlow s u)

theorem Finished.touches {s u t : State} {k : Finish} (h : Finished s u t k) : TouchesOnly k.blocks u t := by
  cases k with
  | plain =>
    cases h
    exact .refl _ _
  | followed =>
    cases h
    exact touches_followFlow s u
  | answered =>
    obtain ⟨rfl, rfl⟩ | ⟨l, code, st, figures, rfl⟩ := h
    · exact .refl _ _
    · exact ((touches_followFlow s u).andThen (touches_respond _ _ _ _ _)).weaken rfl

/-- How each command is finished. -/
def finish : Instr → Finish
  | .debounceExpiry _ | .sampleStage _ | .flareStage | .applyStage | .leaseTimerExpiry _ | .startTimerExpiry _
  | .ignitionTimerExpiry | .minimumBurnTimerExpiry => .followed
  | .qualityResume _ | .register _ _ _ _ | .claim _ _ | .amend _ _ | .report _ _ _ | .release _ | .holdSlots _ _ _
  | .forceVacant _ _ | .readClaim _ _ | .readStack _ _ | .flareStatus _ _ _ _ | .flareReset _ | .flarePermit _ _
  | .switchBank _ _ | .writeRow _ _ _ _ | .setRank _ _ _ _ | .setLimits _ _ _ | .readBank _ _ _ | .configure _ _ _
  | .configureBandGeometry _ _ _ _ | .configureEventBinding _ _ _ | .readStatus _ _ | .ackAlerts _ | .setClock _ _
  | .readTotals _ _ _ | .saveConfig _ | .restart _ => .answered
  | _ => .plain

/-- The blocks that each command's own changes may touch. -/
def acts : Instr → List Block
  | .pulse _ | .stallTimerExpiry _ => [.meters, .alerts]
  | .contactChange _ _ => [.contacts]
  | .debounceExpiry _ => [.contacts, .claims, .stack, .alerts, .policy, .holder, .quality]
  | .powerFail => [.supplied, .store, .meters, .contacts, .balance, .ports, .restartPending]
  | .powerOnStart _ _ _ _ => .supplied :: .config :: .store :: startBlockList
  | .clockSecond => [.totals]
  | .passTimerExpiry => [.policy, .balance]
  | .sampleStage _ => sampleBlocks
  | .measureStage => [.meters, .normalizer, .balance]
  | .holderStage => [.holder, .alerts, .policy, .balance]
  | .snapshotStage | .shortfallStage | .restoreStage | .admissionStage | .allotmentStage => [.balance]
  | .shedPush => [.claims, .stack, .alerts, .balance]
  | .pop => [.claims, .stack, .balance]
  | .flareStage => [.flare, .alerts, .balance]
  | .applyStage => [.claims, .stack, .balance, .flare, .totals]
  | .holdTimerExpiry => [.quality, .alerts, .policy]
  | .leaseTimerExpiry _ | .startTimerExpiry _ => [.claims, .stack, .alerts]
  | .ignitionTimerExpiry => [.flare, .alerts, .policy]
  | .minimumBurnTimerExpiry | .burnTimeSecond => [.flare]
  | .qualityResume _ => [.quality, .alerts]
  | .register _ _ _ _ | .claim _ _ => [.claims, .alerts]
  | .amend _ _ | .setLimits _ _ _ => [.claims]
  | .report _ _ _ | .release _ | .forceVacant _ _ => [.claims, .stack, .alerts]
  | .holdSlots _ _ _ => [.claims, .stack]
  | .flareStatus _ _ _ _ => [.flare, .alerts, .policy]
  | .flareReset _ | .flarePermit _ _ => [.flare, .alerts]
  | .switchBank _ _ => [.policy]
  | .writeRow _ _ _ _ | .setRank _ _ _ _ | .configureBandGeometry _ _ _ _ => [.config, .policy]
  | .configureEventBinding _ _ _ => [.config]
  | .configure _ _ _ => configureBlocks
  | .setClock _ _ => [.totals, .alerts]
  | .saveConfig _ => [.store]
  | .restart _ => [.restartPending]
  | .readClaim _ _ | .readStack _ _ | .readBank _ _ _ | .readStatus _ _ | .readTotals _ _ _ => []
  | .ackAlerts _ => [.alerts]
  | .frameReceived _ => [.claims, .ports]
  | .gapTimerExpiry _ | .answerSent _ | .unknownRequest _ _ | .byteReceived _ _ => [.ports]
  | .saveEnd => [.store, .alerts]
  | .restartTakesPlace _ => startBlockList

/-- The blocks that each command may touch. -/
def touched (i : Instr) : List Block := acts i ++ (finish i).blocks

section Keeping

variable {P : State → Prop} {s t : State}

theorem event_keeps {f : State → State} (h : event f s = .next t) (hs : P s) (hf : P (f s)) : P t :=
  event_rel (R := fun _ t => P t) h hs fun _ => hf

/-- A condition that the meter stage has no part in. -/
theorem flowEvent_keeps {f : State → State} (hP : ∀ s t, TouchesOnly [.meters, .alerts] s t → P s → P t)
    (h : flowEvent f s = .next t) (hs : P s) (hf : P (f s)) : P t :=
  event_keeps h hs (hP _ _ (touches_followFlow s _) hf)

/-- A condition that neither the meter stage nor the answer has a part in. -/
theorem request_keeps {l : Link} {code : Nat} {serve : State → Served}
    (hP : ∀ s t, TouchesOnly answerBlocks s t → P s → P t) (h : request l code serve s = .next t) (hs : P s)
    (hv : P (serve s).state) : P t :=
  request_rel (R := fun _ t => P t) h hs (fun _ => hP _ _ ((touches_respond s _ _ _ _).weaken rfl) hs) fun _ =>
    hP _ _ (((touches_followFlow s _).andThen (touches_respond _ _ _ _ _)).weaken rfl) hv

theorem consumerRequest_keeps {l : Link} {code : Nat} {serve : Slot → State → Served}
    (hP : ∀ s t, TouchesOnly answerBlocks s t → P s → P t) (h : consumerRequest l code serve s = .next t) (hs : P s)
    (hv : ∀ c, P (serve c s).state) : P t := by
  refine request_keeps hP h hs ?_
  split
  · exact hv _
  · exact hs

theorem inStage_keeps {stage : PassStage} {f : Pass → State → State} (hs : P s)
    (hf : ∀ p, s.balance.pass = some p → p.stage = stage → P (f p s)) : P (inStage stage f s) :=
  inStage_rel (R := fun _ t => P t) hs hf

/-- A stage of the pass. -/
theorem stage_keeps {stage : PassStage} {f : Pass → State → State} (h : event (inStage stage f) s = .next t)
    (hs : P s) (hf : ∀ p, s.balance.pass = some p → p.stage = stage → P (f p s)) : P t :=
  event_keeps h hs (inStage_keeps hs hf)

/-- A stage whose changes the meter stage follows. -/
theorem flowStage_keeps {stage : PassStage} {f : Pass → State → State} (hP : ∀ u, P u → P (followFlow s u))
    (h : flowEvent (inStage stage f) s = .next t) (hs : P s)
    (hf : ∀ p, s.balance.pass = some p → p.stage = stage → P (f p s)) : P t :=
  flowEvent_rel (R := fun _ t => P t) h hs fun _ => hP _ (inStage_keeps hs hf)

/-- What a CONFIGURE of a setting can do (R175). -/
theorem serveSetting_keeps {k : Setting} {value : Int} (hs : P s)
    (hw : ∀ v, v = clampInt (settingRange k).1 (settingRange k).2 value → pairHolds (putSetting s.config v k) k = true →
      v ≠ readSetting s.config k → P (settingEffect k { s with config := putSetting s.config v k })) :
    P (serveSetting k value s).state := by
  simp only [serveSetting, apply_ite Served.state]
  split
  · exact hs
  · next hpair =>
    split
    · exact hs
    · next hne => exact hw _ rfl (by simpa using hpair) hne

/-- What a CONFIGURE can do, by the kinds of items (R175). -/
theorem serveConfigure_keeps {item : Nat} {value : Int} (hs : P s)
    (hgeometry : ∀ bank which, P (serveGeometry bank which value s).state)
    (hbinding : ∀ number, P (serveBinding number value s).state)
    (hitem : ∀ i, P (serveItem i value s).state) : P (serveConfigure item value s).state := by
  simp only [serveConfigure, apply_ite Served.state]
  split
  · exact hs
  · split
    · exact hgeometry _ _
    · exact hbinding _
    · exact hitem _
    · exact hs

end Keeping

section Commands

variable {s t : State} {bs : List Block}

/-- Blocks that the command's own changes may touch, and how it is finished. -/
def ActsOn (bs : List Block) (k : Finish) (s t : State) : Prop := ∃ u, TouchesOnly bs s u ∧ Finished s u t k

theorem ActsOn.weaken {cs : List Block} {k : Finish} (h : ActsOn bs k s t) (hsub : decide (bs ⊆ cs) = true) :
    ActsOn cs k s t := by
  obtain ⟨u, hu, hf⟩ := h
  exact ⟨u, hu.weaken hsub, hf⟩

theorem ActsOn.direct (h : TouchesOnly bs s t) : ActsOn bs .plain s t := ⟨t, h, rfl⟩

theorem acts_event {f : State → State} (h : event f s = .next t) (hf : TouchesOnly bs s (f s)) :
    ActsOn bs .plain s t := ⟨t, event_rel h (.refl _ _) fun _ => hf, rfl⟩

theorem acts_flowEvent {f : State → State} (h : flowEvent f s = .next t) (hf : TouchesOnly bs s (f s)) :
    ActsOn bs .followed s t :=
  flowEvent_rel (R := ActsOn bs .followed) h ⟨s, .refl _ _, (followFlow_self s).symm⟩ fun _ => ⟨f s, hf, rfl⟩

theorem touches_inStage {stage : PassStage} {f : Pass → State → State} (hf : ∀ p, TouchesOnly bs s (f p s)) :
    TouchesOnly bs s (inStage stage f s) := inStage_rel (.refl _ _) fun p _ _ => hf p

theorem acts_request {l : Link} {code : Nat} {serve : State → Served} (h : request l code serve s = .next t)
    (hv : TouchesOnly bs s (serve s).state) : ActsOn bs .answered s t := by
  refine request_rel (R := ActsOn bs .answered) h ⟨s, .refl _ _, .inl ⟨rfl, rfl⟩⟩
    (fun _ => ⟨s, .refl _ _, .inr ⟨l, code, .refusedAuthority, [], ?_⟩⟩) fun _ => ⟨_, hv, .inr ⟨l, code, _, _, rfl⟩⟩
  rw [followFlow_self]

theorem acts_consumerRequest {l : Link} {code : Nat} {serve : Slot → State → Served}
    (h : consumerRequest l code serve s = .next t) (hv : ∀ c, TouchesOnly bs s (serve c s).state) :
    ActsOn bs .answered s t := by
  refine acts_request h ?_
  split
  · exact hv _
  · exact .refl _ _

/-- The contact's debounced state has taken its raw state (R15). -/
def settled (k : Contact) (s : State) : State :=
  { s with
    contacts := s.contacts.set k { s.contacts.get k with debounced := (s.contacts.get k).raw, timer := none } }

/-- A debounce timer's expiry (R15, R16). -/
def debounce (k : Contact) (s : State) : State :=
  if debounceOver k s then
    if (s.contacts.get k).raw && !(s.contacts.get k).debounced then contactOnset k (settled k s)
    else if (s.contacts.get k).debounced && !(s.contacts.get k).raw then contactEnd k (settled k s)
    else settled k s
  else s

theorem exec_debounceExpiry (k : Contact) (s : State) : exec (.debounceExpiry k) s = flowEvent (debounce k) s := rfl

theorem touches_settled (k : Contact) (s : State) : TouchesOnly [.contacts] s (settled k s) := .of_restore rfl

/-- What a contact that settles, an onset and an end bring about, a debounce timer's expiry brings about. -/
theorem debounce_keeps {P : State → Prop} {k : Contact} {s : State} (hs : P s) (hk : P (settled k s))
    (honset : P (contactOnset k (settled k s))) (hend : P (contactEnd k (settled k s))) : P (debounce k s) := by
  unfold debounce
  split_ifs
  · exact honset
  · exact hend
  · exact hk
  · exact hs

theorem exec_gapTimerExpiry (l : Link) (s : State) :
    exec (.gapTimerExpiry l) s =
      event (fun s => { s with ports := s.ports.modify l fun p => if gapOver p then toHunt p else p }) s := rfl

theorem exec_answerSent (l : Link) (s : State) :
    exec (.answerSent l) s =
      event (fun s => { s with ports := s.ports.modify l fun p => if p.state = .send then toHunt p else p }) s := rfl

theorem exec_byteReceived (l : Link) (b : Byte) (s : State) :
    exec (.byteReceived l b) s = event (fun s => { s with ports := s.ports.modify l (portByte b) }) s := rfl

theorem exec_restart (l : Link) (s : State) :
    exec (.restart l) s =
      request l 0x46 (fun s => { state := { s with restartPending := true }, status := .done }) s := rfl

theorem exec_acts {i : Instr} (h : exec i s = .next t) : ActsOn (acts i) (finish i) s t := by
  cases i with
  | pulse m =>
    refine acts_event h (.ite (fun _ => ?_) fun _ => .refl _ _)
    have hm (m) : TouchesOnly [.meters] s { s with meters := m } := .of_restore rfl
    exact .ite (fun _ => (hm _).weaken rfl) fun _ => (hm _).andThen (touches_raise _ _)
  | stallTimerExpiry m => exact acts_event h (touches_stallExpires s m)
  | contactChange k closed =>
    cases h
    exact .direct (.of_restore rfl)
  | debounceExpiry k =>
    rw [exec_debounceExpiry] at h
    have hk := touches_settled k s
    exact acts_flowEvent h (debounce_keeps (P := TouchesOnly (acts (.debounceExpiry k)) s) (.refl _ _) (hk.weaken rfl)
      ((hk.andThen (touches_contactOnset _ k)).weaken rfl) ((hk.andThen (touches_contactEnd _ k)).weaken rfl))
  | powerFail =>
    cases h
    exact .direct (.of_restore rfl)
  | powerOnStart amps cellLow totalsAgree configAgrees =>
    cases h
    have hs (b) : TouchesOnly [.supplied] (loadConfig configAgrees s)
      { loadConfig configAgrees s with supplied := b } := .of_restore rfl
    exact .direct ((((((touches_loadConfig s configAgrees).andThen (hs true)).andThen (touches_setLastGood _)).andThen
      (touches_judgeTotals _ _ _)).andThen (touches_start _ _)).weaken rfl)
  | clockSecond =>
    cases h
    exact .direct (.of_restore rfl)
  | passTimerExpiry => exact acts_event h (.ite (fun _ => .of_restore rfl) fun _ => .refl _ _)
  | sampleStage amps =>
    exact (acts_flowEvent h (touches_inStage fun p => touches_sampleStep s amps p)).weaken rfl
  | measureStage => exact acts_event h (touches_inStage fun p => touches_measureStep s p)
  | holderStage => exact acts_event h (touches_inStage fun p => touches_holderStep s p)
  | snapshotStage => exact acts_event h (touches_inStage fun p => touches_withPass s _)
  | shortfallStage => exact acts_event h (touches_inStage fun p => touches_withPass s _)
  | shedPush => exact acts_event h (touches_inStage fun p => touches_shedPushStep s p)
  | restoreStage => exact acts_event h (touches_inStage fun p => touches_restoreStep s p)
  | pop => exact acts_event h (touches_inStage fun p => touches_popStep s p)
  | admissionStage => exact acts_event h (touches_inStage fun p => touches_withPass s _)
  | allotmentStage => exact acts_event h (touches_inStage fun p => touches_withPass s _)
  | flareStage => exact (acts_flowEvent h (touches_inStage fun p => touches_flareStep s p)).weaken rfl
  | applyStage => exact acts_flowEvent h (touches_inStage fun p => touches_applyStep s p)
  | holdTimerExpiry => exact acts_event h (touches_holdExpires s)
  | qualityResume l => exact (acts_request h (touches_serveQualityResume s)).weaken rfl
  | register l m x u => exact (acts_consumerRequest h fun c => touches_serveRegister s m x u c).weaken rfl
  | claim l r => exact (acts_consumerRequest h fun c => touches_serveClaim s r c).weaken rfl
  | amend l r => exact acts_consumerRequest h fun c => touches_serveAmend s r c
  | report l running rate =>
    exact (acts_consumerRequest h fun c => touches_serveReport s running rate c).weaken rfl
  | release l => exact (acts_consumerRequest h fun c => touches_serveRelease s c).weaken rfl
  | leaseTimerExpiry c => exact (acts_flowEvent h (touches_leaseExpires s c)).weaken rfl
  | startTimerExpiry c => exact (acts_flowEvent h (touches_startExpires s c)).weaken rfl
  | holdSlots l mask on => exact acts_request h (touches_serveHoldSlots s mask on)
  | forceVacant l slot => exact (acts_request h (touches_serveForceVacant s slot)).weaken rfl
  | readClaim l slot => exact acts_request h (by rw [serveReadClaim_state]; exact .refl [] s)
  | readStack l position => exact acts_request h (by rw [serveReadStack_state]; exact .refl [] s)
  | flareStatus l flame ready fault =>
    exact (acts_request (serve := fun s => { state := takeReport ⟨flame, ready, fault⟩ s, status := .done }) h
      (touches_takeReport s _)).weaken rfl
  | ignitionTimerExpiry => exact (acts_flowEvent h (touches_ignitionExpires s)).weaken rfl
  | minimumBurnTimerExpiry => exact (acts_flowEvent h (touches_minBurnExpires s)).weaken rfl
  | burnTimeSecond => exact acts_event h (.ite (fun _ => touches_withFlare s _) fun _ => .refl _ _)
  | flareReset l => exact (acts_request h (touches_serveFlareReset s)).weaken rfl
  | flarePermit l on =>
    exact (acts_request (serve := fun s => { state := setPermit on s, status := .done }) h
      (touches_setPermit s on)).weaken rfl
  | switchBank l bank => exact acts_request h (touches_serveSwitchBank s bank)
  | writeRow l bank row rec => exact acts_request h (touches_writeBank s _ _ _)
  | setRank l bank slot rank => exact acts_request h (touches_writeBank s _ _ _)
  | setLimits l mask max => exact acts_request h (touches_serveSetLimits s mask max)
  | readBank l bank row => exact acts_request h (by rw [serveReadBank_state]; exact .refl [] s)
  | configure l item value => exact acts_request h (touches_serveConfigure s item value)
  | configureBandGeometry l bank which value => exact acts_request h (touches_writeBank s _ _ _)
  | configureEventBinding l number value => exact acts_request h (touches_serveBinding s number value)
  | frameReceived l =>
    exact acts_event h (.ite (fun _ => .ite (fun _ => touches_admitFrame s l _)
      fun _ => (touches_ports s _).weaken rfl) fun _ => .refl _ _)
  | gapTimerExpiry l =>
    rw [exec_gapTimerExpiry] at h
    exact acts_event h (touches_ports s _)
  | answerSent l =>
    rw [exec_answerSent] at h
    exact acts_event h (touches_ports s _)
  | unknownRequest l code => exact acts_event h (touches_respond s _ _ _ _)
  | readStatus l group => exact acts_request h (by rw [serveReadStatus_state]; exact .refl [] s)
  | ackAlerts l => exact (acts_request h (touches_serveAckAlerts s)).weaken rfl
  | setClock l d => exact (acts_request h (touches_serveSetClock s d)).weaken rfl
  | readTotals l record group => exact acts_request h (by rw [serveReadTotals_state]; exact .refl [] s)
  | saveConfig l => exact acts_request h (touches_serveSaveConfig s)
  | saveEnd =>
    have hk (k) : TouchesOnly [.store] s { s with store := k } := .of_restore rfl
    exact acts_event h (.ite (fun _ => (hk _).andThen (touches_lower _ _)) fun _ => .refl _ _)
  | restart l =>
    rw [exec_restart] at h
    exact acts_request (bs := [.restartPending]) h (.of_restore rfl)
  | restartTakesPlace amps => exact acts_event h (.ite (fun _ => touches_start s amps) fun _ => .refl _ _)
  | byteReceived l b =>
    rw [exec_byteReceived] at h
    exact acts_event h (touches_ports s _)

/-- What a command may touch in all. -/
theorem exec_touches {i : Instr} (h : exec i s = .next t) : TouchesOnly (touched i) s t := by
  obtain ⟨u, hu, hf⟩ := exec_acts h
  exact hu.andThen hf.touches

end Commands
end Sys2Proof.Machine
end

section
/-! What a step can do: every command completes, the front command runs on the rest of the queue, and on an empty queue
an event is queued or a millisecond passes. An invariant kept by each of these is kept by every step. -/

namespace Sys2Proof.Machine

open Sys2Proof

/-! ## Every command completes (R19) -/

/-- The commands that act on the backup cell too (R15, R19, R168, R177). -/
def actsUnsupplied : Instr → Bool
  | .contactChange _ _ | .powerFail | .powerOnStart _ _ _ _ | .clockSecond => true
  | _ => false

/-- Every other command is an event or a request. -/
theorem exec_event {i : Instr} (h : actsUnsupplied i = false) : ∃ f, exec i = event f := by
  cases i with
  | contactChange | powerFail | powerOnStart | clockSecond => simp [actsUnsupplied] at h
  | gapTimerExpiry l => exact ⟨_, funext (exec_gapTimerExpiry l)⟩
  | answerSent l => exact ⟨_, funext (exec_answerSent l)⟩
  | byteReceived l b => exact ⟨_, funext (exec_byteReceived l b)⟩
  | restart l => exact ⟨_, funext (exec_restart l)⟩
  | _ => exact ⟨_, rfl⟩

theorem exec_completes (i : Instr) (s : State) : ∃ t, exec i s = .next t := by
  cases i <;> exact ⟨_, rfl⟩

theorem exec_pending {i : Instr} {s t : State} (h : exec i s = .next t) : t.pending = s.pending := by
  refine exec_touches h .pending ?_
  cases i <;> exact of_decide_eq_true rfl

/-- Settles O3: a command is an event or a request unless it is one of the four that act on the backup cell. -/
theorem everyCommandAnswersANextState : Obligations.EveryCommandAnswersANextState := by
  intro i s
  obtain ⟨t, ht⟩ := exec_completes i s
  refine ⟨t, ht, exec_pending ht, fun hs hcontact hfail hstart hclock => ?_⟩
  have hi : actsUnsupplied i = false := by
    cases i with
    | contactChange k closed => exact absurd rfl (hcontact k closed)
    | powerFail => exact absurd rfl hfail
    | powerOnStart amps a b c => exact absurd rfl (hstart amps a b c)
    | clockSecond => exact absurd rfl hclock
    | _ => rfl
  obtain ⟨f, hf⟩ := exec_event hi
  rw [hf, event_unsupplied f hs] at ht
  exact (Host.Outcome.next.inj ht).symm

/-! ## The step (95_what_each_step_holds.md) -/

/-- Settles O1: the queue is the only thing a step reads before the command. -/
theorem stepRunsFrontCommand : Obligations.StepRunsFrontCommand := by
  intro s c rest h
  simp only [step, h]

theorem step_empty {s : State} (h : s.pending = []) : step s = .next (idle s) := by simp only [step, h]

/-- On an empty queue an event is queued or a millisecond passes. -/
theorem idle_cases (s : State) : (∃ i, idle s = { s with pending := [i], moments := s.moments + 1 }) ∨ idle s = tick s := by
  by_cases h : due s = []
  · exact .inr (idle_of_none_due h)
  · obtain ⟨i, -, hi⟩ := idle_of_due h
    exact .inl ⟨i, hi⟩

/-- All a step can do. -/
theorem step_cases {s t : State} (h : step s = .next t) :
    (∃ c rest, s.pending = c :: rest ∧ exec c { s with pending := rest } = .next t) ∨
    (∃ i, t = { s with pending := [i], moments := s.moments + 1 }) ∨ t = tick s := by
  cases hp : s.pending with
  | cons c rest => exact .inl ⟨c, rest, rfl, by rw [← h, stepRunsFrontCommand s c rest hp]⟩
  | nil =>
    rw [step_empty hp] at h
    cases h
    exact .inr (idle_cases s)

/-- A millisecond runs in the timers and the clock alone. -/
theorem touches_advanceBlocks (s : State) :
    TouchesOnly [.meters, .contacts, .quality, .claims, .flare, .balance, .ports, .store] s (advanceBlocks s) :=
  fun b hb => by
    cases b with
    | meters | contacts | quality | claims | flare | balance | ports | store => exact absurd (by decide) hb
    | _ => rfl

theorem tick_cases (s : State) :
    (s.supplied = true ∧ tick s =
      { advanceBlocks s with totals := { s.totals with clockMs := s.totals.clockMs + 1 } }) ∨
    (s.supplied = false ∧ tick s = { s with totals := { s.totals with clockMs := s.totals.clockMs + 1 } }) := by
  by_cases h : s.supplied = true
  · exact .inl ⟨h, by simp only [tick, if_pos h]; rfl⟩
  · exact .inr ⟨by simpa using h, tick_unsupplied (by simpa using h)⟩

theorem touches_totals (s : State) (k : Totals) : TouchesOnly [.totals] s { s with totals := k } := .of_restore rfl

theorem touches_tick (s : State) :
    TouchesOnly [.meters, .contacts, .quality, .claims, .flare, .balance, .ports, .store, .totals] s (tick s) := by
  obtain ⟨-, h⟩ | ⟨-, h⟩ := tick_cases s
  · rw [h]
    exact (touches_advanceBlocks s).andThen (touches_totals _ _)
  · rw [h]
    exact (touches_totals _ _).weaken rfl

/-- A condition that the queue has no part in, that every command keeps and that a millisecond keeps, every step
keeps. -/
theorem step_keeps {P : State → Prop} (hqueue : ∀ s q n, P s → P { s with pending := q, moments := n })
    (hexec : ∀ i s t, P s → exec i s = .next t → P t) (htick : ∀ s, P s → P (tick s)) {s t : State} (hs : P s)
    (h : step s = .next t) : P t := by
  obtain ⟨c, rest, -, hc⟩ | ⟨i, rfl⟩ | rfl := step_cases h
  · exact hexec c _ t (hqueue s rest s.moments hs) hc
  · exact hqueue s _ _ hs
  · exact htick s hs

end Sys2Proof.Machine
end

section
/-! The totals store and the clock (R167 to R171): the calendar, the rollover and the accumulation, and the range that
every step keeps. -/

namespace Sys2Proof.Machine

open Sys2Proof

/-! ## The calendar (R168) -/

theorem monthDays_eq {m : Nat} (y : Nat) (h₁ : 1 ≤ m) (h₂ : m ≤ 12) : monthDays y m = monthLength y m := by
  interval_cases m <;> simp [monthDays, monthLength, leapYear]

theorem dateValid_iff (d : DateTime) : dateValid d = true ↔ dateExists d := by
  by_cases hm : 1 ≤ d.month ∧ d.month ≤ 12
  · simp only [dateValid, dateExists, monthDays_eq d.year hm.1 hm.2, Bool.and_eq_true, decide_eq_true_eq]
    omega
  · simp only [dateValid, dateExists, Bool.and_eq_true, decide_eq_true_eq]
    omega

/-- Every month has at least 28 days. -/
theorem monthLength_pos (y m : Nat) : 1 ≤ monthLength y m := by
  unfold monthLength
  split_ifs <;> omega

/-- The next second of the calendar, written out (R168). -/
def secondAfter (d : DateTime) : DateTime :=
  if d.second < 59 then { d with second := d.second + 1 }
  else if d.minute < 59 then { d with minute := d.minute + 1, second := 0 }
  else if d.hour < 23 then { d with hour := d.hour + 1, minute := 0, second := 0 }
  else if d.day < monthLength d.year d.month then ⟨d.year, d.month, d.day + 1, 0, 0, 0⟩
  else if d.month < 12 then ⟨d.year, d.month + 1, 1, 0, 0, 0⟩
  else if d.year < 2099 then ⟨d.year + 1, 1, 1, 0, 0, 0⟩
  else ⟨2000, 1, 1, 0, 0, 0⟩

theorem nextSecond_eq {d : DateTime} (h : dateExists d) : nextSecond d = secondAfter d := by
  obtain ⟨-, -, hm₁, hm₂, -⟩ := h
  simp only [nextSecond, nextDay, secondAfter, monthDays_eq d.year hm₁ hm₂]

theorem dateExists_secondAfter {d : DateTime} (h : dateExists d) : dateExists (secondAfter d) := by
  obtain ⟨hy₁, hy₂, hm₁, hm₂, hd₁, hd₂, hh, hmin, hsec⟩ := h
  have hlen := monthLength_pos
  unfold secondAfter
  split_ifs <;> simp only [dateExists] <;> have h₁ := hlen d.year (d.month + 1) <;> have h₂ := hlen (d.year + 1) 1 <;>
    have h₃ := hlen 2000 1 <;> omega

/-! ## The range of the totals (R167) -/

theorem gasDayInRange_cleared (start : Option Date) : GasDayInRange (clearedDay start) := by
  simp [GasDayInRange, clearedDay]

/-- The range of the totals store, by the store alone. -/
abbrev TotalsFit (t : Totals) : Prop :=
  dateValid t.clock = true ∧ GasDayInRange t.current ∧ GasDayInRange t.previous ∧
    ∀ i : Fin 6, t.lineRemainders.get i ≤ 999 ∧ t.slotRemainders.get i ≤ 999 ∧ t.energyRemainders.get i ≤ 3599999

theorem totalsInRange_iff (s : State) : TotalsInRange s ↔ TotalsFit s.totals := Iff.rfl

theorem totalsFit_countSecond {t : Totals} (h : TotalsFit t) : TotalsFit (countSecond t) := by
  obtain ⟨hclock, hcur, hprev, hrem⟩ := h
  have hnext : dateValid (nextSecond t.clock) = true := by
    rw [dateValid_iff] at hclock ⊢
    rw [nextSecond_eq hclock]
    exact dateExists_secondAfter hclock
  simp only [countSecond]
  split
  · exact ⟨hnext, gasDayInRange_cleared _, hcur, hrem⟩
  · exact ⟨hnext, hcur, hprev, hrem⟩

theorem totalsFit_accumulate {t : Totals} (h : TotalsFit t) (lineMl slotMl slotJ : Tab 6 Nat) (seconds starts : Nat) :
    TotalsFit (accumulate lineMl slotMl slotJ seconds starts t) := by
  obtain ⟨hclock, -, hprev, -⟩ := h
  refine ⟨hclock, ⟨fun i => ?_, saturate_le _ _, saturate_le _ _, saturate_le _ _⟩, hprev, fun i => ?_⟩
  · simp [accumulate, addTotals, saturate_le]
  · simp only [accumulate, addRemainders, restUnits, Tab.get_gen]
    omega

theorem totalsFit_reset (hour : Nat) : TotalsFit (resetTotals hour) :=
  ⟨rfl, gasDayInRange_cleared _, gasDayInRange_cleared _, by simp [resetTotals]⟩

/-! ## The condition that every step keeps -/

/-- What leaves the store alone keeps its range. -/
theorem TotalsInRange.of_touches {bs : List Block} {s t : State} (hs : TotalsInRange s) (h : TouchesOnly bs s t)
    (hb : decide (Block.totals ∉ bs) = true) : TotalsInRange t := by
  have ht : t.totals = s.totals := h.same .totals hb
  rwa [totalsInRange_iff, ht]

/-- Neither start changes more of the store than the hour copy (R173, R178). -/
theorem start_totals (amps : Currents) (s : State) :
    (start amps s).totals = { s.totals with hourCopy := s.config.gasDayHour, checkAgrees := true } :=
  touches_startFormed s amps .totals (by decide)

theorem totalsInRange_serveSetClock {d : DateTime} {s : State} (hs : TotalsInRange s) :
    TotalsInRange (serveSetClock d s).state := by
  by_cases hd : dateValid d = true
  · cases hu : s.totals.clockUnset <;> simp only [serveSetClock, hd, hu] <;> exact ⟨hd, hs.2⟩
  · simp only [serveSetClock, hd]
    exact hs

theorem totalsInRange_serveConfigure {item : Nat} {value : Int} {s : State} (hs : TotalsInRange s) :
    TotalsInRange (serveConfigure item value s).state := by
  refine serveConfigure_keeps hs (fun bank which => hs.of_touches (touches_writeBank s bank _ _) rfl)
    (fun number => hs.of_touches (touches_serveBinding s number value) rfl) fun i => ?_
  cases i with
  | setting k =>
    refine serveSetting_keeps (s := s) hs fun v _ _ _ => ?_
    have hk : TotalsInRange { s with config := putSetting s.config v k } := hs
    cases k with
    | gasDayHour => exact hs
    | _ => exact hk.of_touches (touches_effect _ _) rfl
  | factor m => exact hs
  | inUse l => exact hs.of_touches (touches_serveInUse s l value) rfl
  | range a high => exact hs.of_touches (touches_serveRange s a high value) rfl

theorem totalsInRange_exec {i : Instr} {s t : State} (hs : TotalsInRange s) (h : exec i s = .next t) :
    TotalsInRange t := by
  cases i with
  | clockSecond =>
    cases h
    exact totalsFit_countSecond hs
  | powerOnStart amps cellLow totalsAgree configAgrees =>
    cases h
    rw [totalsInRange_iff, start_totals]
    have hjudged (u : State) (hu : u.totals = s.totals) : TotalsFit (judgeTotals cellLow totalsAgree u).totals := by
      unfold judgeTotals
      split
      · exact hu ▸ hs
      · exact totalsFit_reset _
    exact hjudged _ rfl
  | applyStage =>
    exact flowEvent_keeps (fun _ _ ht hs => hs.of_touches ht rfl) h hs
      (inStage_keeps hs fun p _ _ => totalsFit_accumulate hs _ _ _ _ _)
  | configure l item value =>
    exact request_keeps (fun _ _ ht hs => hs.of_touches ht rfl) h hs (totalsInRange_serveConfigure hs)
  | setClock l d =>
    exact request_keeps (fun _ _ ht hs => hs.of_touches ht rfl) h hs (totalsInRange_serveSetClock hs)
  | restartTakesPlace amps =>
    refine event_keeps h hs ?_
    split
    · rw [totalsInRange_iff, start_totals]
      exact hs
    · exact hs
  | _ => exact hs.of_touches (exec_touches h) rfl

/-- Settles O15: the clock's second, the apply stage, SET_CLOCK and the starts change the store, each within its
range. -/
theorem totalsInRangeKept : Obligations.TotalsInRangeKept := by
  intro s t hs h
  refine step_keeps (P := TotalsInRange) (fun _ _ _ h => h) (fun _ _ _ => totalsInRange_exec) (fun s hs => ?_) hs h
  show TotalsFit (tick s).totals
  have ht : (tick s).totals = { s.totals with clockMs := s.totals.clockMs + 1 } := by
    unfold tick
    cases s.supplied <;> rfl
  rw [ht]
  exact hs

end Sys2Proof.Machine
end

section
/-! The clock's second and SET_CLOCK (R168, R169). -/

namespace Sys2Proof.Machine

open Sys2Proof

/-! ## One second (R168, R169) -/

/-- The store one second further, before the gas day is looked at. -/
def clockAdvanced (t : Totals) : Totals := { t with clock := nextSecond t.clock, clockMs := 0, checkAgrees := true }

/-- The clock stands at the hour copy (R169). -/
def AtHourCopy (d : DateTime) (hour : Nat) : Prop := d.hour = hour ∧ d.minute = 0 ∧ d.second = 0

theorem countSecond_rolls {t : Totals} (h : AtHourCopy (nextSecond t.clock) t.hourCopy) :
    countSecond t = rollover (clockAdvanced t) := by
  obtain ⟨hh, hm, hs⟩ := h
  simp [countSecond, clockAdvanced, hh, hm, hs]

theorem countSecond_goes_on {t : Totals} (h : ¬AtHourCopy (nextSecond t.clock) t.hourCopy) :
    countSecond t = clockAdvanced t := by
  simp only [AtHourCopy, not_and] at h
  simp only [countSecond, clockAdvanced, Bool.and_eq_true, decide_eq_true_eq, and_assoc]
  exact if_neg fun ⟨hh, hm, hs⟩ => h hh hm hs

/-- A rollover changes the two records alone. -/
theorem countSecond_frame (t : Totals) :
    { countSecond t with current := t.current, previous := t.previous } = clockAdvanced t := by
  by_cases h : AtHourCopy (nextSecond t.clock) t.hourCopy
  · rw [countSecond_rolls h]; rfl
  · rw [countSecond_goes_on h]; rfl

theorem countSecond_clock (t : Totals) : (countSecond t).clock = nextSecond t.clock :=
  congrArg (·.clock) (countSecond_frame t)

/-- The state with one second counted. -/
def secondCounted (s : State) : State := { s with totals := countSecond s.totals }

@[simp] theorem secondCounted_totals (s : State) : (secondCounted s).totals = countSecond s.totals := rfl

theorem exec_clockSecond (s : State) : exec .clockSecond s = .next (secondCounted s) := rfl

/-! ## SET_CLOCK (R168) -/

theorem exec_setClock (l : Link) (d : DateTime) (s : State) :
    exec (.setClock l d) s = request l 0x44 (serveSetClock d) s := rfl

/-- The state with the clock written (R168). -/
def clockWritten (d : DateTime) (s : State) : State :=
  { s with totals := { s.totals with clock := d, clockMs := 0, clockUnset := false, checkAgrees := true } }

theorem serveSetClock_taken {d : DateTime} {s : State} (h : dateExists d) :
    serveSetClock d s =
      { state := if s.totals.clockUnset then lower .totalsLost (clockWritten d s) else clockWritten d s
        status := .done } := by
  simp [serveSetClock, clockWritten, (dateValid_iff d).mpr h]

theorem serveSetClock_refused {d : DateTime} {s : State} (h : ¬dateExists d) :
    serveSetClock d s = { state := s, status := .refusedUnknown } := by
  simp [serveSetClock, mt (dateValid_iff d).mp h]

/-- A SET_CLOCK on link 0 moves no flow expectation. -/
theorem exec_setClock_taken {d : DateTime} {s u : State} (hs : s.supplied = true)
    (hv : serveSetClock d s = { state := u, status := .done }) (hu : TouchesOnly [.totals, .alerts] s u) :
    exec (.setClock 0 d) s = .next (respond 0 0x44 .done [] u) := by
  have hc : u.config = s.config := hu.same .config rfl
  have hf : u.flare = s.flare := hu.same .flare rfl
  have hflow : followFlow s u = u :=
    followFlow_same (flowExpected_congr (congrArg (·.inUse) hc) (hu.same .claims rfl) (congrArg (·.state) hf))
  rw [exec_setClock, request_served _ hs rfl, hv, hflow]

/-- Settles O60: the second goes by the hour copy, SET_CLOCK by the date and by the clock-unset flag. -/
theorem clockCountsRollsOverAndIsSet : Obligations.ClockCountsRollsOverAndIsSet := by
  refine ⟨fun s => ?second, fun d s hs => ⟨fun hd => ?refused, fun hd => ?taken⟩⟩
  case second =>
    intro d
    refine ⟨_, exec_clockSecond s, fun hd => ?clock, ?rolls, ?goesOn, ?rest⟩
    case clock =>
      have hclock : (countSecond s.totals).clock = secondAfter d := by rw [countSecond_clock, nextSecond_eq hd]
      rw [secondCounted_totals, hclock]
      exact ⟨dateExists_secondAfter hd, rfl⟩
    case rolls =>
      rw [secondCounted_totals, countSecond_clock]
      intro hh hm hsec
      rw [countSecond_rolls ⟨hh, hm, hsec⟩]
      exact ⟨rfl, rfl⟩
    case goesOn =>
      rw [secondCounted_totals, countSecond_clock]
      intro h
      rw [countSecond_goes_on h]
      exact ⟨rfl, rfl⟩
    case rest =>
      have hframe := countSecond_frame s.totals
      exact ⟨congrArg (·.lineRemainders) hframe, congrArg (·.slotRemainders) hframe,
        congrArg (·.energyRemainders) hframe, congrArg (·.clockUnset) hframe, congrArg (·.hourCopy) hframe,
        congrArg (·.clockMs) hframe, congrArg (·.checkAgrees) hframe, rfl⟩
  case refused =>
    exact answeredUnchanged_served (exec_setClock 0 d s) hs rfl (serveSetClock_refused hd)
  case taken =>
    have hv := serveSetClock_taken (s := s) hd
    cases hu : s.totals.clockUnset with
    | true =>
      rw [hu, if_pos rfl] at hv
      exact ⟨_, exec_setClock_taken hs hv (.of_restore rfl), answerStatus_respond .., respond_ports_same_but _ _ _ _ _,
        rfl, fun _ => alertEnded_lower .totalsLost s, fun h => absurd h (by simp), lower_same_but .totalsLost s, rfl⟩
    | false =>
      rw [hu, if_neg (by simp)] at hv
      exact ⟨_, exec_setClock_taken hs hv (.of_restore rfl), answerStatus_respond .., respond_ports_same_but _ _ _ _ _,
        rfl, fun h => absurd h (by simp), fun _ => rfl, fun _ _ => rfl, rfl⟩

end Sys2Proof.Machine
end

section
/-! How commands move the claim table and the shed stack together (R59, R61 to R77). A claim changes by one of a few
transitions, with or without a purge of its records; outside the pushes, the pop, the apply stage and the starts, a
command is such a move of some slots, each slot once. -/

namespace Sys2Proof.Machine

open Sys2Proof

/-! ## Transitions of one claim -/

/-- A claim changes and keeps its records, of which it has `n`. -/
inductive Change (n : Nat) (old : Claim) : Claim → Prop
  /-- R63 in IDLE. -/
  | limits (m x u : Nat) (h : old.state = .idle) : Change n old { old with limits := some (registerLimits m x u) }
  /-- R63 in VACANT and LAPSED. -/
  | registered (m x u : Nat) (h : old.state = .vacant ∨ old.state = .lapsed) :
    Change n old (reopen { old with limits := some (registerLimits m x u) })
  /-- R64: CLAIM in IDLE and LAPSED. -/
  | stood (r : Nat) (h : old.state = .idle ∨ old.state = .lapsed) : Change n old (standAt (clampRequest old r) old)
  /-- R64: CLAIM in LOCKED. -/
  | stoodLocked (r : Nat) (h : old.state = .locked) :
    Change n old { old with request := some (clampRequest old r), standing := true }
  /-- R64: AMEND in WAITING, and in LOCKED with standing set. -/
  | amendedWaiting (r : Nat) (h : old.state = .waiting ∨ old.state = .locked ∧ old.standing = true) :
    Change n old { old with request := some (clampRequest old r) }
  /-- R64: AMEND in ADMITTED and RUNNING. -/
  | amendedHolding (r : Nat) (h : old.state = .admitted ∨ old.state = .running) :
    Change n old
      { amendTo (clampRequest old r) old with allotment := Nat.min old.allotment (clampRequest old r) }
  /-- R64: AMEND in SHED. -/
  | amendedShed (r : Nat) (h : old.state = .shed) :
    Change n old
      { amendTo (clampRequest old r) old with state := if n = 0 then .waiting else .shed }
  /-- R65: the rate alone. -/
  | reported (rate : Nat) (h : old.state ≠ .vacant) : Change n old { old with lastRate := clampNat 0 5000 rate }
  /-- R65: running in ADMITTED. -/
  | ran (rate : Nat) (h : old.state = .admitted) :
    Change n old (toRunning { old with lastRate := clampNat 0 5000 rate })
  /-- R66 in WAITING. -/
  | released (h : old.state = .waiting) : Change n old (toIdle old)
  /-- R66 in LOCKED. -/
  | withdrew (h : old.state = .locked) : Change n old (withdrawn old)
  /-- R66 in LAPSED. -/
  | reopened (h : old.state = .lapsed) : Change n old (reopen old)
  /-- R70 in VACANT, LOCKED and LAPSED. -/
  | causeAdded (cause : LockCause) (h : lockable old.state = false) :
    Change n old { old with locks := old.locks.put cause true }
  /-- R71. -/
  | causeRemoved (cause : LockCause) : Change n old (unlocked { old with locks := old.locks.put cause false })
  /-- R77. -/
  | limited (max : Nat) (h : old.state ≠ .vacant) : Change n old (limitClaim (clampNat 1 5000 max) old)

/-- A claim changes with a purge of its records: what the transition makes of the purged claim. -/
inductive Purge (old : Claim) : (Claim → Claim) → Prop
  /-- R66, R68. -/
  | idle (h : old.state = .admitted ∨ old.state = .running ∨ old.state = .shed) : Purge old toIdle
  /-- R65: a trip. -/
  | trip (rate : Nat) (h : old.state = .running) :
    Purge old fun cl => toIdle { cl with lastRate := clampNat 0 5000 rate }
  /-- R62. -/
  | lapsed (h : leased old.state = true) : Purge old toLapsed
  /-- R70. -/
  | locked (cause : LockCause) (h : lockable old.state = true) :
    Purge old fun cl => toLocked { cl with locks := cl.locks.put cause true }
  /-- R76. -/
  | vacant (h : old.state ≠ .vacant) : Purge old toVacant

/-! ## Moves of the claim table and the stack -/

/-- The claim table and the shed stack. -/
structure Book where
  claims : Tab 5 Claim
  stack : ShedStack

/-- The book of a state. -/
def book (s : State) : Book := ⟨s.claims, s.stack⟩

/-- The book with one claim changed, the epoch following (R59). -/
def Book.changed (b : Book) (c : Slot) (new : Claim) : Book :=
  { b with claims := b.claims.set c (commit (b.claims.get c) new) }

/-- The book with one claim changed and its records purged (R75, R115). -/
def Book.purged (b : Book) (c : Slot) (f : Claim → Claim) : Book :=
  { claims := b.claims.set c
      (commit (b.claims.get c) (f (Machine.purged (slotSum c b.stack.records) (b.claims.get c))))
    stack := dropRecords (fun r => r.slot = c) b.stack }

/-- The book with one claim's lease restarted (R61). -/
def Book.restarted (b : Book) (c : Slot) : Book :=
  { b with claims := b.claims.modify c fun cl =>
      if leased cl.state then { cl with lease := cl.lease.map fun _ => 0 } else cl }

/-- One slot moves, or stays as it is. -/
inductive Move (c : Slot) (b : Book) : Book → Prop
  | stays : Move c b b
  | changes {new : Claim} (h : Change (slotCount c b.stack.records) (b.claims.get c) new) : Move c b (b.changed c new)
  | purges {f : Claim → Claim} (h : Purge (b.claims.get c) f) : Move c b (b.purged c f)
  | restarted : Move c b (b.restarted c)

/-- Slots move one after the other. -/
inductive Moves : List Slot → Book → Book → Prop
  | none (b : Book) : Moves [] b b
  | cons {c : Slot} {cs : List Slot} {b b' b'' : Book} (h : Move c b b') (hs : Moves cs b' b'') : Moves (c :: cs) b b''

theorem Moves.one {c : Slot} {b b' : Book} (h : Move c b b') : Moves [c] b b' := .cons h (.none _)

/-- Some slots have moved, each once. -/
def SlotsMove (s t : State) : Prop := ∃ cs : List Slot, cs.Nodup ∧ Moves cs (book s) (book t)

/-- What every move of a slot keeps, moves of slots keep. -/
theorem Moves.keeps {Q : Book → Prop} (hQ : ∀ c b b', Move c b b' → Q b → Q b') {cs : List Slot} {b b' : Book}
    (h : Moves cs b b') (hb : Q b) : Q b' := by
  induction h with
  | none => exact hb
  | cons h _ ih => exact ih (hQ _ _ _ h hb)

theorem SlotsMove.keeps {Q : Book → Prop} (hQ : ∀ c b b', Move c b b' → Q b → Q b') {s t : State}
    (h : SlotsMove s t) (hs : Q (book s)) : Q (book t) := by
  obtain ⟨cs, -, hcs⟩ := h
  exact hcs.keeps hQ hs

theorem SlotsMove.refl (s : State) : SlotsMove s s := ⟨[], List.nodup_nil, .none _⟩

theorem SlotsMove.one {c : Slot} {s t : State} (h : Move c (book s) (book t)) : SlotsMove s t :=
  ⟨[c], List.nodup_singleton c, .one h⟩

/-- Blocks beside the book follow freely. -/
theorem SlotsMove.followed {s t u : State} {bs : List Block} (h : SlotsMove s t) (hu : TouchesOnly bs t u)
    (hb : decide (Block.claims ∉ bs ∧ Block.stack ∉ bs) = true) :
    SlotsMove s u := by
  have hclaims : u.claims = t.claims := hu .claims (of_decide_eq_true hb).1
  have hstack : u.stack = t.stack := hu .stack (of_decide_eq_true hb).2
  have hbook : book u = book t := by simp [book, hclaims, hstack]
  rwa [SlotsMove, hbook]

/-- A state formed before the moves, with the same book. -/
theorem SlotsMove.after {s t u : State} {bs : List Block} (hu : TouchesOnly bs s t) (h : SlotsMove t u)
    (hb : decide (Block.claims ∉ bs ∧ Block.stack ∉ bs) = true) :
    SlotsMove s u := by
  have hclaims : t.claims = s.claims := hu .claims (of_decide_eq_true hb).1
  have hstack : t.stack = s.stack := hu .stack (of_decide_eq_true hb).2
  have hbook : book t = book s := by simp [book, hclaims, hstack]
  rwa [SlotsMove, ← hbook]

theorem SlotsMove.of_touches {s t : State} {bs : List Block} (h : TouchesOnly bs s t)
    (hb : decide (Block.claims ∉ bs ∧ Block.stack ∉ bs) = true) :
    SlotsMove s t := (SlotsMove.refl s).followed h hb

/-- An operation on one slot, repeated over distinct slots. -/
theorem SlotsMove.foldl {op : State → Slot → State} (h : ∀ s c, Move c (book s) (book (op s c))) {cs : List Slot}
    (hcs : cs.Nodup) (s : State) : SlotsMove s (cs.foldl op s) := by
  refine ⟨cs, hcs, ?_⟩
  clear hcs
  induction cs generalizing s with
  | nil => exact .none _
  | cons c cs ih => exact .cons (h s c) (ih _)

/-! ## The shared operations as moves -/

section Operations

variable (s : State) (c : Slot)

theorem move_changeClaim {f : Claim → Claim}
    (h : Change (slotCount c s.stack.records) (s.claims.get c) (f (s.claims.get c))) :
    Move c (book s) (book (changeClaim c f s)) := .changes h

theorem move_changePurging {f : Claim → Claim} (h : Purge (s.claims.get c) f) :
    Move c (book s) (book (changePurging c f s)) := .purges h

theorem move_addCause (cause : LockCause) : Move c (book s) (book (addCause cause s c)) := by
  by_cases h : (s.claims.get c).locks.has cause = true
  · rw [addCause_present h]
    exact .stays
  · rw [Bool.not_eq_true] at h
    cases hl : lockable (s.claims.get c).state with
    | true =>
      rw [addCause_locks h hl]
      exact move_changePurging s c (.locked cause hl)
    | false =>
      rw [addCause_stays h hl]
      exact move_changeClaim s c (f := fun cl => { cl with locks := cl.locks.put cause true }) (.causeAdded cause hl)

theorem move_removeCause (cause : LockCause) : Move c (book s) (book (removeCause cause s c)) := by
  by_cases h : (s.claims.get c).locks.has cause = true
  · rw [removeCause_present h]
    exact move_changeClaim s c (f := fun cl => unlocked { cl with locks := cl.locks.put cause false })
      (.causeRemoved cause)
  · rw [Bool.not_eq_true] at h
    rw [removeCause_absent h]
    exact .stays

theorem causeSlots_nodup (cause : LockCause) : (causeSlots cause).Nodup := by cases cause <;> decide

theorem slotsMove_lockAll (cause : LockCause) : SlotsMove s (lockAll cause s) :=
  .foldl (fun s c => move_addCause s c cause) (causeSlots_nodup cause) s

theorem slotsMove_unlockAll (cause : LockCause) : SlotsMove s (unlockAll cause s) :=
  .foldl (fun s c => move_removeCause s c cause) (causeSlots_nodup cause) s

theorem move_leaseExpires : Move c (book s) (book (leaseExpires c s)) := by
  cases h : leaseOver c s with
  | true =>
    rw [leaseExpires_at h]
    exact move_changePurging s c (.lapsed ((leaseOver_iff c s).mp h).1)
  | false =>
    rw [leaseExpires_early h]
    exact .stays

theorem move_startExpires : Move c (book s) (book (startExpires c s)) := by
  cases h : startOver c s with
  | true =>
    rw [startExpires_at h]
    exact move_changePurging s c (.idle (.inl ((startOver_iff c s).mp h).1))
  | false =>
    rw [startExpires_early h]
    exact .stays

theorem move_restartLease (l : Link) : SlotsMove s (restartLease l s) := by
  cases h : linkSlot l with
  | some c =>
    have hl : restartLease l s = { s with claims := ((book s).restarted c).claims } := by simp [restartLease, h]; rfl
    rw [hl]
    exact .one (.restarted (c := c))
  | none =>
    simp only [restartLease, h]
    exact .refl s

end Operations

/-! ## The claim table's requests as moves -/

section Served

variable (s : State) (c : Slot)

/-- A change of an uncounted field first leaves the commitment as it is. -/
theorem commit_of_sameCounted {old mid new : Claim} (h : sameCounted old mid = true) (he : mid.epoch = old.epoch) :
    commit mid new = commit old new := by
  rw [sameCounted_iff] at h
  obtain ⟨h₁, h₂, h₃, h₄, h₅, h₆, h₇, h₈⟩ := h
  simp only [commit, sameCounted, h₁, h₂, h₃, h₄, h₅, h₆, h₇, h₈, he]

theorem commit_lastRate (old : Claim) (rate : Nat) :
    commit old { old with lastRate := rate } = { old with lastRate := rate } := by
  simp [commit, sameCounted]

theorem slotsMove_serveRegister (m x u : Nat) : SlotsMove s (serveRegister m x u c s).state := by
  cases h : (s.claims.get c).state with
  | idle =>
    simp only [serveRegister, h]
    exact .one (move_changeClaim s c (.limits m x u h))
  | vacant =>
    simp only [serveRegister, h]
    exact .one (move_changeClaim s c (f := fun cl => reopen { cl with limits := some (registerLimits m x u) })
      (.registered m x u (.inl h)))
  | lapsed =>
    simp only [serveRegister, h]
    exact (SlotsMove.one (move_changeClaim s c
      (f := fun cl => reopen { cl with limits := some (registerLimits m x u) })
      (.registered m x u (.inr h)))).followed (touches_lower _ _) rfl
  | _ => simp only [serveRegister, h]; exact .refl s

theorem slotsMove_serveClaim (r : Nat) : SlotsMove s (serveClaim r c s).state := by
  cases h : (s.claims.get c).state with
  | idle =>
    simp only [serveClaim, h]
    exact .one (move_changeClaim s c (.stood r (.inl h)))
  | lapsed =>
    simp only [serveClaim, h]
    exact (SlotsMove.one (move_changeClaim s c (.stood r (.inr h)))).followed (touches_lower _ _) rfl
  | locked =>
    simp only [serveClaim, h, apply_ite Served.state]
    split
    · exact .refl s
    · exact .one (move_changeClaim s c (.stoodLocked r h))
  | _ => simp only [serveClaim, h]; exact .refl s

theorem slotsMove_serveAmend (r : Nat) : SlotsMove s (serveAmend r c s).state := by
  cases h : (s.claims.get c).state with
  | vacant | idle | lapsed => simp only [serveAmend, h]; exact .refl s
  | waiting =>
    simp only [serveAmend, h]
    exact .one (move_changeClaim s c (.amendedWaiting r (.inl h)))
  | admitted =>
    simp only [serveAmend, h]
    exact .one (move_changeClaim s c (.amendedHolding r (.inl h)))
  | running =>
    simp only [serveAmend, h]
    exact .one (move_changeClaim s c (.amendedHolding r (.inr h)))
  | shed =>
    simp only [serveAmend, h]
    exact .one (move_changeClaim s c (.amendedShed r h))
  | locked =>
    simp only [serveAmend, h, apply_ite Served.state]
    split
    · next hs => exact .one (move_changeClaim s c (.amendedWaiting r (.inr ⟨h, hs⟩)))
    · exact .refl s

/-- The rate recorded and a further change are one change. -/
theorem book_changeClaim_reported (rate : Nat) (f : Claim → Claim) :
    book (changeClaim c f (changeClaim c (fun cl => { cl with lastRate := rate }) s)) =
      (book s).changed c (f { s.claims.get c with lastRate := rate }) := by
  have hold : commit { s.claims.get c with lastRate := rate } (f { s.claims.get c with lastRate := rate }) =
      commit (s.claims.get c) (f { s.claims.get c with lastRate := rate }) :=
    commit_of_sameCounted (by simp [sameCounted]) rfl
  have hset : (s.claims.set c { s.claims.get c with lastRate := rate }).set c
      (commit (s.claims.get c) (f { s.claims.get c with lastRate := rate })) =
      s.claims.set c (commit (s.claims.get c) (f { s.claims.get c with lastRate := rate })) :=
    Tab.ext_get fun d => by simp only [Tab.get_set]; split <;> rfl
  simp [book, Book.changed, commit_lastRate, hold, hset]

/-- The same with a purge. -/
theorem book_changePurging_reported (rate : Nat) (f : Claim → Claim) :
    book (changePurging c f (changeClaim c (fun cl => { cl with lastRate := rate }) s)) =
      (book s).purged c (fun cl => f { cl with lastRate := rate }) := by
  have hold (new : Claim) : commit { s.claims.get c with lastRate := rate } new = commit (s.claims.get c) new :=
    commit_of_sameCounted (by simp [sameCounted]) rfl
  have hset (new : Claim) :
      (s.claims.set c { s.claims.get c with lastRate := rate }).set c new = s.claims.set c new :=
    Tab.ext_get fun d => by simp only [Tab.get_set]; split <;> rfl
  simp [book, Book.purged, commit_lastRate, hold, hset, purged]

theorem slotsMove_serveReport (running : Bool) (rate : Nat) : SlotsMove s (serveReport running rate c s).state := by
  have recorded (h : (s.claims.get c).state ≠ .vacant) :
      SlotsMove s (changeClaim c (fun cl => { cl with lastRate := clampNat 0 5000 rate }) s) :=
    .one (move_changeClaim s c (.reported rate h))
  cases h : (s.claims.get c).state with
  | vacant => simp only [serveReport, h]; exact .refl s
  | admitted =>
    cases running with
    | true =>
      simp only [serveReport, h]
      have hran : SlotsMove s (changeClaim c toRunning
          (changeClaim c (fun cl => { cl with lastRate := clampNat 0 5000 rate }) s)) :=
        .one (c := c) (by rw [book_changeClaim_reported]; exact .changes (.ran rate h))
      exact (hran.followed (touches_lower _ _) rfl).followed (touches_lower _ _) rfl
    | false => simp only [serveReport, h]; exact recorded (by simp [h])
  | running =>
    cases running with
    | true => simp only [serveReport, h]; exact recorded (by simp [h])
    | false =>
      simp only [serveReport, h]
      have htrip : SlotsMove s (changePurging c toIdle
          (changeClaim c (fun cl => { cl with lastRate := clampNat 0 5000 rate }) s)) :=
        .one (c := c) (by rw [book_changePurging_reported]; exact .purges (.trip rate h))
      exact htrip.followed (touches_raise _ _) rfl
  | _ => simp only [serveReport, h]; exact recorded (by simp [h])

theorem slotsMove_serveRelease : SlotsMove s (serveRelease c s).state := by
  cases h : (s.claims.get c).state with
  | vacant | idle => simp only [serveRelease, h]; exact .refl s
  | waiting => simp only [serveRelease, h]; exact .one (move_changeClaim s c (.released h))
  | locked =>
    simp only [serveRelease, h]
    exact .one (move_changeClaim s c (f := withdrawn) (.withdrew h))
  | lapsed =>
    simp only [serveRelease, h]
    exact (SlotsMove.one (move_changeClaim s c (.reopened h))).followed (touches_lower _ _) rfl
  | admitted | running | shed =>
    simp only [serveRelease, h]
    exact .one (move_changePurging s c (.idle (by simp [h])))

theorem maskSlots_nodup (mask : Nat) : (maskSlots mask).Nodup := List.Nodup.filter _ (by decide)

theorem slotsMove_serveHoldSlots (mask : Nat) (on : Bool) : SlotsMove s (serveHoldSlots mask on s).state := by
  simp only [serveHoldSlots, apply_ite Served.state]
  split
  · cases on with
    | true => exact .foldl (fun s c => move_addCause s c _) (maskSlots_nodup mask) s
    | false => exact .foldl (fun s c => move_removeCause s c _) (maskSlots_nodup mask) s
  · exact .refl s

theorem slotsMove_serveForceVacant (slot : Nat) : SlotsMove s (serveForceVacant slot s).state := by
  cases h : slotOfByte slot with
  | none => simp only [serveForceVacant, h]; exact .refl s
  | some c =>
    simp only [serveForceVacant, h, apply_ite Served.state]
    split
    · exact .refl s
    · next hv =>
      exact (((SlotsMove.one (move_changePurging s c (.vacant hv))).followed (touches_lower _ _) rfl).followed
        (touches_lower _ _) rfl).followed (touches_lower _ _) rfl

theorem move_limitSlot (max : Nat) : Move c (book s) (book (limitSlot (clampNat 1 5000 max) s c)) := by
  unfold limitSlot
  split
  · exact .stays
  · next h => exact move_changeClaim s c (.limited max h)

theorem slotsMove_serveSetLimits (mask max : Nat) : SlotsMove s (serveSetLimits mask max s).state := by
  simp only [serveSetLimits, apply_ite Served.state]
  split
  · exact .refl s
  · split
    · exact .refl s
    · exact .foldl (fun s c => move_limitSlot s c max) (maskSlots_nodup mask) s

theorem slotsMove_settingEffect (k : Setting) : SlotsMove s (settingEffect k s) := by
  cases k with
  | lease => exact .foldl move_leaseExpires (by decide) s
  | startTimeout => exact .foldl move_startExpires (by decide) s
  | _ => exact .of_touches (touches_effect s _) rfl

theorem slotsMove_serveConfigure (item : Nat) (value : Int) : SlotsMove s (serveConfigure item value s).state := by
  refine serveConfigure_keeps (.refl s) (fun bank which => .of_touches (touches_writeBank s bank _ _) rfl)
    (fun number => .of_touches (touches_serveBinding s number value) rfl) fun i => ?_
  cases i with
  | setting k =>
    refine serveSetting_keeps (s := s) (.refl s) fun v _ _ _ => ?_
    exact .after (touches_config s _) (slotsMove_settingEffect _ k) rfl
  | factor m => exact .of_touches (touches_config s _) rfl
  | inUse l => exact .of_touches (touches_serveInUse s l value) rfl
  | range a high => exact .of_touches (touches_serveRange s a high value) rfl

end Served

/-! ## Commands as moves -/

theorem slotsMove_evaluateSour (h2s : Nat) (s : State) : SlotsMove s (evaluateSour h2s s) := by
  have hq (q : Quality) : SlotsMove s { s with quality := q } := .of_touches (touches_quality s q) rfl
  unfold evaluateSour
  dsimp only
  split
  · split
    · split
      · exact .after (touches_quality s _) ((slotsMove_unlockAll _ .sour).followed (touches_lower _ .sourGas) rfl) rfl
      · exact hq _
    · exact hq _
  · split
    · split
      · exact .after (touches_quality s _) (((slotsMove_lockAll _ .sour).followed (touches_raise _ .sourGas) rfl).followed
          (touches_signal _ .sour) rfl) rfl
      · exact hq _
    · exact hq _

theorem slotsMove_sampleStep (amps : Currents) (p : Pass) (s : State) : SlotsMove s (sampleStep amps p s) := by
  rw [sampleStep_eq]
  exact .after (touches_fieldSampled s amps) ((slotsMove_evaluateSour _ _).followed (touches_withPass _ _) rfl) rfl

theorem slotsMove_contactOnset (k : Contact) (s : State) : SlotsMove s (contactOnset k s) := by
  unfold contactOnset
  split
  · exact ((slotsMove_lockAll s .gasRoom).followed (touches_raise _ _) rfl).followed (touches_signal _ _) rfl
  · split
    · exact .of_touches ((touches_followOverfill s).andThen (touches_signal _ _)) rfl
    · split
      · exact ((slotsMove_lockAll s .estop).followed (touches_raise _ _) rfl).followed (touches_signal _ _) rfl
      · exact .refl s

theorem slotsMove_contactEnd (k : Contact) (s : State) : SlotsMove s (contactEnd k s) := by
  unfold contactEnd
  split
  · exact (slotsMove_unlockAll s .gasRoom).followed (touches_lower _ _) rfl
  · split
    · exact .of_touches (touches_followOverfill s) rfl
    · split
      · exact (slotsMove_unlockAll s .estop).followed (touches_lower _ _) rfl
      · split
        · exact .of_touches (touches_enterHeld s) rfl
        · exact .refl s

theorem slotsMove_admitFrame (l : Link) (h : HeldRequest) (s : State) : SlotsMove s (admitFrame l h s) := by
  have hheld : SlotsMove s (frameHeld l h s) := .after (touches_ports s _) (move_restartLease _ l) rfl
  rw [admitFrame_eq]
  split
  · exact hheld.followed (touches_respond _ _ _ _ _) rfl
  · exact hheld.followed (touches_respond _ _ _ _ _) rfl
  · exact hheld
  · exact hheld

/-- The commands that change claims or records otherwise: the pushes, the pop, the apply stage and the starts. -/
def recasts : Instr → Bool
  | .shedPush | .pop | .applyStage | .powerOnStart _ _ _ _ | .restartTakesPlace _ => true
  | _ => false

/-- Every other command moves slots, each once. -/
theorem exec_slotsMove {i : Instr} {s t : State} (hi : recasts i = false) (h : exec i s = .next t) :
    SlotsMove s t := by
  have answered (u v : State) (hv : TouchesOnly answerBlocks u v) (hu : SlotsMove s u) : SlotsMove s v :=
    hu.followed hv rfl
  have followed (u v : State) (hv : TouchesOnly [.meters, .alerts] u v) (hu : SlotsMove s u) : SlotsMove s v :=
    hu.followed hv rfl
  have stays := SlotsMove.refl s
  cases i with
  | shedPush | pop | applyStage | powerOnStart | restartTakesPlace => simp [recasts] at hi
  | debounceExpiry k =>
    rw [exec_debounceExpiry] at h
    have hk := touches_settled k s
    exact flowEvent_keeps followed h stays (debounce_keeps stays (.of_touches hk rfl)
      (.after hk (slotsMove_contactOnset k _) rfl) (.after hk (slotsMove_contactEnd k _) rfl))
  | sampleStage amps =>
    exact flowEvent_keeps followed h stays (inStage_keeps stays fun p _ _ => slotsMove_sampleStep amps p s)
  | register l m x u => exact consumerRequest_keeps answered h stays fun c => slotsMove_serveRegister s c m x u
  | claim l r => exact consumerRequest_keeps answered h stays fun c => slotsMove_serveClaim s c r
  | amend l r => exact consumerRequest_keeps answered h stays fun c => slotsMove_serveAmend s c r
  | report l running rate =>
    exact consumerRequest_keeps answered h stays fun c => slotsMove_serveReport s c running rate
  | release l => exact consumerRequest_keeps answered h stays fun c => slotsMove_serveRelease s c
  | leaseTimerExpiry c => exact flowEvent_keeps followed h stays (.one (move_leaseExpires s c))
  | startTimerExpiry c => exact flowEvent_keeps followed h stays (.one (move_startExpires s c))
  | holdSlots l mask on => exact request_keeps answered h stays (slotsMove_serveHoldSlots s mask on)
  | forceVacant l slot => exact request_keeps answered h stays (slotsMove_serveForceVacant s slot)
  | setLimits l mask max => exact request_keeps answered h stays (slotsMove_serveSetLimits s mask max)
  | configure l item value => exact request_keeps answered h stays (slotsMove_serveConfigure s item value)
  | frameReceived l =>
    refine event_keeps h stays ?_
    split
    · split
      · exact slotsMove_admitFrame l _ s
      · exact .of_touches (touches_ports s _) rfl
    · exact stays
  | _ => exact .of_touches (exec_touches h) rfl

end Sys2Proof.Machine
end

section
/-! What a move keeps of each claim: the epoch moves once where a counted field changes (R59). -/

namespace Sys2Proof.Machine

open Sys2Proof

/-! ## One slot of a move -/

section OneSlot

variable {c d : Slot} {b b' : Book}

/-- A move of one slot leaves every other claim. -/
theorem Move.claims_ne (h : Move c b b') (hd : d ≠ c) : b'.claims.get d = b.claims.get d := by
  cases h with
  | stays => rfl
  | changes => exact Tab.get_set_ne _ _ hd
  | purges => exact Tab.get_set_ne _ _ hd
  | restarted => exact Tab.get_modify_ne _ _ hd

theorem Moves.claims_notMem {cs : List Slot} (h : Moves cs b b') (hd : d ∉ cs) :
    b'.claims.get d = b.claims.get d := by
  induction h with
  | none => rfl
  | cons h _ ih =>
    rw [List.mem_cons, not_or] at hd
    rw [ih hd.2, h.claims_ne hd.1]

/-- What holds between a claim and its record after its own move, and of a claim that stays, holds for every claim. -/
theorem Moves.claim_rel {R : Claim → Claim → Prop} (hrefl : ∀ cl, R cl cl)
    (hR : ∀ c b b', Move c b b' → R (b.claims.get c) (b'.claims.get c)) {cs : List Slot} (hcs : cs.Nodup)
    (h : Moves cs b b') (d : Slot) : R (b.claims.get d) (b'.claims.get d) := by
  induction h with
  | none => exact hrefl _
  | @cons c cs b b₁ b₂ h hs ih =>
    obtain ⟨hc, hcs⟩ := List.nodup_cons.mp hcs
    by_cases hd : d = c
    · subst hd
      rw [hs.claims_notMem hc]
      exact hR _ _ _ h
    · rw [← h.claims_ne hd]
      exact ih hcs

/-- What each transition of a claim keeps, a move keeps of its own slot's claim. -/
theorem Move.claim_keeps {P : Claim → Prop} (h : Move c b b')
    (hchange : ∀ n old new, Change n old new → P old → P new)
    (hpurge : ∀ old f, Purge old f → P old → ∀ k, P (f (purged k old)))
    (hepoch : ∀ cl e, P cl → P { cl with epoch := e })
    (hlease : ∀ cl, leased cl.state = true → P cl → P { cl with lease := cl.lease.map fun _ => 0 })
    (hP : P (b.claims.get c)) : P (b'.claims.get c) := by
  have committed (old new : Claim) (hnew : P new) : P (commit old new) := by
    obtain ⟨-, h⟩ | ⟨-, h⟩ := commit_cases old new
    · rwa [h]
    · rw [h]; exact hepoch _ _ hnew
  cases h with
  | stays => exact hP
  | changes h =>
    rw [Book.changed, Tab.get_set_same]
    exact committed _ _ (hchange _ _ _ h hP)
  | purges h =>
    rw [Book.purged, Tab.get_set_same]
    exact committed _ _ (hpurge _ _ h hP _)
  | restarted =>
    rw [Book.restarted, Tab.get_modify_same]
    split
    · next hl => exact hlease _ hl hP
    · exact hP

/-- A condition on each claim by itself, kept by every transition, is kept by every move. -/
theorem Move.claims_keep {P : Claim → Prop} (h : Move c b b')
    (hchange : ∀ n old new, Change n old new → P old → P new)
    (hpurge : ∀ old f, Purge old f → P old → ∀ k, P (f (purged k old)))
    (hepoch : ∀ cl e, P cl → P { cl with epoch := e })
    (hlease : ∀ cl, leased cl.state = true → P cl → P { cl with lease := cl.lease.map fun _ => 0 })
    (hP : ∀ d, P (b.claims.get d)) (d : Slot) : P (b'.claims.get d) := by
  by_cases hd : d = c
  · subst hd
    exact h.claim_keeps hchange hpurge hepoch hlease (hP d)
  · rw [h.claims_ne hd]
    exact hP d

end OneSlot

/-! ## The epoch (R59) -/

/-- The epoch moves by one exactly where a counted field changes. -/
def EpochStep (old new : Claim) : Prop :=
  new.epoch = if sameCounted old new then old.epoch else wrapSucc 65535 old.epoch

theorem EpochStep.refl (cl : Claim) : EpochStep cl cl := by simp [EpochStep]

/-- A change of what is not counted, the epoch kept. -/
theorem EpochStep.of_same {old new : Claim} (h : sameCounted old new = true) (he : new.epoch = old.epoch) :
    EpochStep old new := by simp [EpochStep, h, he]

theorem epochStep_commit {old new : Claim} (h : new.epoch = old.epoch) : EpochStep old (commit old new) := by
  obtain ⟨hs, hc⟩ | ⟨hs, hc⟩ := commit_cases old new
  · rw [hc]
    exact .of_same hs h
  · have hmoved : sameCounted old { new with epoch := wrapSucc 65535 old.epoch } = false := hs
    simp [hc, EpochStep, hmoved]

/-- No transition touches the epoch itself. -/
theorem Change.epoch {n : Nat} {old new : Claim} (h : Change n old new) : new.epoch = old.epoch := by
  cases h with
  | registered | reopened => rw [reopen_eq]
  | causeRemoved cause =>
    unfold unlocked
    split
    · split <;> rfl
    · rfl
  | limited =>
    unfold limitClaim
    split <;> rfl
  | _ => rfl

theorem Purge.epoch {old : Claim} {f : Claim → Claim} (h : Purge old f) (k : Nat) :
    (f (purged k old)).epoch = old.epoch := by cases h <;> rfl

theorem Move.epochStep {c : Slot} {b b' : Book} (h : Move c b b') :
    EpochStep (b.claims.get c) (b'.claims.get c) := by
  cases h with
  | stays => exact .refl _
  | changes h =>
    rw [Book.changed, Tab.get_set_same]
    exact epochStep_commit h.epoch
  | purges h =>
    rw [Book.purged, Tab.get_set_same]
    exact epochStep_commit (h.epoch _)
  | restarted =>
    rw [Book.restarted, Tab.get_modify_same]
    split
    · exact .of_same (by simp [sameCounted]) rfl
    · exact .refl _

theorem SlotsMove.epochStep {s t : State} (h : SlotsMove s t) (c : Slot) :
    EpochStep (s.claims.get c) (t.claims.get c) := by
  obtain ⟨cs, hcs, hm⟩ := h
  exact hm.claim_rel EpochStep.refl (fun _ _ _ h => h.epochStep) hcs c

/-- A pop lowers w alone (R114). -/
theorem epochStep_popStep (p : Pass) (s : State) (c : Slot) :
    EpochStep (s.claims.get c) ((popStep p s).claims.get c) := by
  unfold popStep
  split
  · exact .refl _
  · split
    · simp only [withPass_claims, popRecord_claims, Tab.get_modify]
      split
      · next h =>
        subst h
        exact .of_same (by simp [sameCounted]) rfl
      · exact .refl _
    · exact .refl _

/-- Settles O35: every command but the four moves slots, each once, or is the pop. -/
theorem epochMovesOncePerCountedChange : Obligations.EpochMovesOncePerCountedChange := by
  intro i s t c happly hpush hstart hrestart h
  show EpochStep (s.claims.get c) (t.claims.get c)
  cases hi : recasts i with
  | false => exact (exec_slotsMove hi h).epochStep c
  | true =>
    cases i with
    | shedPush => exact absurd rfl hpush
    | applyStage => exact absurd rfl happly
    | powerOnStart amps a b d => exact absurd rfl (hstart amps a b d)
    | restartTakesPlace amps => exact absurd rfl (hrestart amps)
    | pop =>
      exact event_rel (R := fun s t => EpochStep (s.claims.get c) (t.claims.get c)) h (.refl _) fun _ =>
        inStage_rel (R := fun s t => EpochStep (s.claims.get c) (t.claims.get c)) (.refl _) fun p _ _ =>
          epochStep_popStep p s c
    | _ => simp [recasts] at hi

end Sys2Proof.Machine
end

section
/-! The production filter (R39) and the choice of the band index (R46 to R48). -/

namespace Sys2Proof.Machine

open Sys2Proof

/-! ## The filter (R39) -/

/-- A truncated quotient by a positive number lies between 0 and the dividend. -/
theorem tdiv_between {d n : Int} (hn : 0 < n) : (0 ≤ d → 0 ≤ d.tdiv n ∧ d.tdiv n ≤ d) ∧ (d ≤ 0 → d ≤ d.tdiv n ∧ d.tdiv n ≤ 0) := by
  have up (e : Int) (he : 0 ≤ e) : 0 ≤ e.tdiv n ∧ e.tdiv n ≤ e :=
    ⟨Int.tdiv_nonneg he hn.le, Int.tdiv_le_self n he⟩
  refine ⟨up d, fun h => ?_⟩
  have hneg := up (-d) (by omega)
  rw [Int.neg_tdiv] at hneg
  omega

/-- The step is the truncated part of the difference, or 1 towards the raw rate where that is 0. -/
theorem filterStep_cases (shift : Nat) (d : Int) :
    (d.tdiv (2 ^ shift) ≠ 0 ∧ filterStep shift d = d.tdiv (2 ^ shift)) ∨
    (d.tdiv (2 ^ shift) = 0 ∧ (0 < d → filterStep shift d = 1) ∧ (d < 0 → filterStep shift d = -1) ∧
      (d = 0 → filterStep shift d = 0)) := by
  by_cases h : d.tdiv (2 ^ shift) = 0
  · refine .inr ⟨h, fun hd => ?_, fun hd => ?_, fun hd => ?_⟩
    · simp [filterStep, truncDiv, h, hd]
    · simp [filterStep, truncDiv, h, hd, hd.le]
    · simp [filterStep, truncDiv, hd]
  · exact .inl ⟨h, by simp [filterStep, truncDiv, h]⟩

/-- The step goes towards the raw rate and not past it. -/
theorem filterStep_between (shift : Nat) (d : Int) :
    (0 ≤ d → 0 ≤ filterStep shift d ∧ filterStep shift d ≤ d) ∧
    (d ≤ 0 → d ≤ filterStep shift d ∧ filterStep shift d ≤ 0) := by
  have hbetween := tdiv_between (d := d) (n := 2 ^ shift) (by positivity)
  obtain ⟨-, h⟩ | ⟨-, hpos, hneg, hzero⟩ := filterStep_cases shift d
  · rw [h]
    exact hbetween
  · constructor <;> intro hd <;> omega

/-- The filtered rate, its step being no less than what it starts from. -/
theorem filtered_cast (shift pF pRaw : Nat) :
    (filtered shift pF pRaw : Int) = pF + filterStep shift ((pRaw : Int) - pF) := by
  have h := filterStep_between shift ((pRaw : Int) - pF)
  unfold filtered
  omega

theorem filtered_between (shift pF pRaw : Nat) :
    (pF ≤ pRaw → pF ≤ filtered shift pF pRaw ∧ filtered shift pF pRaw ≤ pRaw) ∧
    (pRaw ≤ pF → pRaw ≤ filtered shift pF pRaw ∧ filtered shift pF pRaw ≤ pF) := by
  have hcast := filtered_cast shift pF pRaw
  have h := filterStep_between shift ((pRaw : Int) - pF)
  constructor <;> intro hle <;> omega

/-- A filter that starts within a limit and is given a rate within it stays within it. -/
theorem filtered_le {shift pF pRaw limit : Nat} (h₁ : pF ≤ limit) (h₂ : pRaw ≤ limit) :
    filtered shift pF pRaw ≤ limit := by
  have h := filtered_between shift pF pRaw
  omega

/-! ## The band index (R46 to R48) -/

/-- The index a rising level moves to (R46). -/
def bandUp (b : Bank) (level : Nat) : Nat := Nat.min ((level - b.hysteresis) / b.width) b.count

/-- The index a falling level moves to (R46). -/
def bandDown (b : Bank) (level : Nat) : Nat := Nat.min ((level + b.hysteresis) / b.width) b.count

theorem bandUp_le (b : Bank) (level : Nat) : bandUp b level ≤ b.count := Nat.min_le_right _ _

theorem bandDown_le (b : Bank) (level : Nat) : bandDown b level ≤ b.count := Nat.min_le_right _ _

/-- With no hysteresis the index lies between the two. -/
theorem bandUp_le_plain (b : Bank) (level : Nat) : bandUp b level ≤ Nat.min (level / b.width) b.count :=
  min_le_min_right _ (Nat.div_le_div_right (by omega))

theorem plain_le_bandDown (b : Bank) (level : Nat) : Nat.min (level / b.width) b.count ≤ bandDown b level :=
  min_le_min_right _ (Nat.div_le_div_right (by omega))

theorem bandUp_le_bandDown (b : Bank) (level : Nat) : bandUp b level ≤ bandDown b level :=
  (bandUp_le_plain b level).trans (plain_le_bandDown b level)

/-- The band that a number names (R47). -/
theorem bandOf_eq {n i : Nat} (h : i ≤ n) : bandOf n i = if i = n then .fallThrough else .row i := by
  by_cases he : i = n
  · simp [bandOf, he]
  · simp [bandOf, he, Nat.lt_of_le_of_ne h he]

theorem bandIndex_bandOf {n i : Nat} (h : i ≤ n) : bandIndex n (bandOf n i) = i := by
  rw [bandOf_eq h]
  split
  · next he => exact he.symm
  · rfl

section Select

variable {b : Bank} {level : Nat} {now : Band}

theorem selectBand_up (h : bandIndex b.count now < bandUp b level) :
    selectBand b level now = bandOf b.count (bandUp b level) := by
  simp only [selectBand, bandUp] at h ⊢
  rw [if_pos h]

theorem selectBand_down (h : bandDown b level < bandIndex b.count now) :
    selectBand b level now = bandOf b.count (bandDown b level) := by
  have hup := bandUp_le_bandDown b level
  simp only [selectBand, bandUp, bandDown] at h hup ⊢
  rw [if_neg (by omega), if_pos h]

theorem selectBand_keeps (h₁ : bandUp b level ≤ bandIndex b.count now)
    (h₂ : bandIndex b.count now ≤ bandDown b level) : selectBand b level now = now := by
  simp only [selectBand, bandUp, bandDown] at h₁ h₂ ⊢
  rw [if_neg (by omega), if_neg (by omega)]

/-- A numbered index between the two is kept. -/
theorem selectBand_bandOf {i : Nat} (h₁ : bandUp b level ≤ i) (h₂ : i ≤ bandDown b level) :
    selectBand b level (bandOf b.count i) = bandOf b.count i := by
  have hi := bandIndex_bandOf (h₂.trans (bandDown_le b level))
  exact selectBand_keeps (by omega) (by omega)

theorem selectBand_cases (b : Bank) (level : Nat) (now : Band) :
    selectBand b level now = now ∨
      ∃ i, bandUp b level ≤ i ∧ i ≤ bandDown b level ∧ selectBand b level now = bandOf b.count i := by
  have hle := bandUp_le_bandDown b level
  by_cases h₁ : bandIndex b.count now < bandUp b level
  · exact .inr ⟨_, le_rfl, hle, selectBand_up h₁⟩
  · by_cases h₂ : bandDown b level < bandIndex b.count now
    · exact .inr ⟨_, hle, le_rfl, selectBand_down h₂⟩
    · exact .inl (selectBand_keeps (by omega) (by omega))

end Select

/-- Settles O27: the filter by the sign of the difference, the selection by where the index stands to up and down. -/
theorem filterAndBandSettle : Obligations.FilterAndBandSettle := by
  refine ⟨fun shift pF pRaw => ?filter, fun b level now _ => ?band⟩
  case filter =>
    have hcast := filtered_cast shift pF pRaw
    obtain ⟨h, hstep⟩ | ⟨h, hup, hdown, hstay⟩ := filterStep_cases shift ((pRaw : Int) - pF)
    · have hne : pF ≠ pRaw := fun e => h (by simp [e])
      exact ⟨fun _ => by rw [hcast, hstep], fun h' => absurd h' h, fun e => absurd e hne,
        filtered_between shift pF pRaw⟩
    · exact ⟨fun h' => absurd h h', fun _ => ⟨fun hlt => by omega, fun hlt => by omega⟩, fun e => by omega,
        filtered_between shift pF pRaw⟩
  case band =>
    intro up down named
    have hup : up = bandUp b level := by
      have hsub : (if level < b.hysteresis then 0 else level - b.hysteresis) = level - b.hysteresis := by
        split <;> omega
      simp only [up, bandUp, hsub]
    have hdown : down = bandDown b level := rfl
    have hnamed {i : Nat} (h : i ≤ b.count) : named i = bandOf b.count i := (bandOf_eq h).symm
    have hle := bandUp_le_bandDown b level
    rw [hup, hdown]
    refine ⟨fun c hc hnow => ?_, hle, ?_, ?_, ?_, ?_⟩
    · have hindex : bandIndex b.count now = c := by rw [hnow, hnamed hc, bandIndex_bandOf hc]
      rw [hnamed (bandUp_le b level), hnamed (bandDown_le b level)]
      exact ⟨fun h => selectBand_up (by omega), fun h => selectBand_down (by omega),
        fun h₁ h₂ => selectBand_keeps (by omega) (by omega)⟩
    · exact (hnamed (Nat.min_le_right _ _)).symm
    · obtain h | ⟨i, h₁, h₂, h⟩ := selectBand_cases b level now
      · rw [h, h]
      · rw [h, selectBand_bandOf h₁ h₂]
    · exact selectBand_bandOf (bandUp_le_plain b level) (plain_le_bandDown b level)
    · intro hne
      obtain h | ⟨i, h₁, h₂, h⟩ := selectBand_cases b level now
      · exact absurd h hne
      · rw [h]
        unfold bandOf
        split
        · next hi => exact .inr ⟨i, hi, rfl⟩
        · exact .inl rfl

end Sys2Proof.Machine
end

section
/-! The counts in their widths, the pending switch off the active bank and the receptions within their frames, after
every step (R1, R32, R39, R59, R84, R97, R118, R140, R148, R153). -/

namespace Sys2Proof.Machine

open Sys2Proof

/-! ## Pulse counters (R1, R3) -/

/-- Every pulse counter is within its width. -/
abbrev PulsesFit (s : State) : Prop := ∀ m : Meter, (s.meters.get m).count ≤ 65535

section Pulses

variable {s t u : State}

theorem PulsesFit.of_touches {bs : List Block} (hs : PulsesFit s) (h : TouchesOnly bs s t)
    (hb : decide (Block.meters ∉ bs) = true) : PulsesFit t := by
  have ht : t.meters = s.meters := h.same .meters hb
  unfold PulsesFit
  rwa [ht]

/-- The meter stage follows the flow expectation without touching a counter. -/
theorem followMeter_count (before now : Bool) (r : MeterRec) : (followMeter before now r).count = r.count := by
  unfold followMeter
  split_ifs <;> rfl

theorem PulsesFit.followFlow (ht : PulsesFit t) : PulsesFit (followFlow s t) := fun m => by
  rw [followFlow_meters, Tab.get_gen, followMeter_count]
  exact ht m

theorem PulsesFit.finished {k : Finish} (hu : PulsesFit u) (h : Finished s u t k) : PulsesFit t := by
  cases k with
  | plain => cases h; exact hu
  | followed => cases h; exact hu.followFlow
  | answered =>
    obtain ⟨rfl, rfl⟩ | ⟨l, code, st, figures, rfl⟩ := h
    · exact hu
    · exact hu.followFlow.of_touches (touches_respond _ _ _ _ _) rfl

theorem pulsesFit_stallExpires (hs : PulsesFit s) (m : Meter) : PulsesFit (stallExpires m s) := by
  cases h : stallOver m s with
  | false => rwa [stallExpires_early h]
  | true =>
    rw [stallExpires_at h]
    intro n
    simp only [raise_meters, Tab.get_modify]
    split
    · exact hs m
    · exact hs n

theorem pulsesFit_snapMeters (s : State) : PulsesFit (snapMeters s) := fun m => by
  simp only [snapMeters, snapAll, Tab.get_gen, snapMeter]
  split_ifs <;> simp

theorem pulsesFit_measureStep (hs : PulsesFit s) (p : Pass) : PulsesFit (measureStep p s) := fun m => by
  have hcount : (meterHeld p s m).count = (s.meters.get m).count := by
    simp only [meterHeld]
    split <;> rfl
  simp only [measureStep, withPass_meters, Tab.get_gen, hcount]
  exact hs m

theorem pulsesFit_start (amps : Currents) (s : State) : PulsesFit (start amps s) := by
  have hfit : PulsesFit (startBlocks s) := fun m => by simp [startBlocks, startMeters, startMeter]
  exact hfit.of_touches (touches_startFormed s amps) rfl

theorem pulsesFit_serveConfigure {item : Nat} {value : Int} (hs : PulsesFit s) :
    PulsesFit (serveConfigure item value s).state := by
  refine serveConfigure_keeps hs (fun bank which => hs.of_touches (touches_writeBank s bank _ _) rfl)
    (fun number => hs.of_touches (touches_serveBinding s number value) rfl) fun i => ?_
  cases i with
  | setting k =>
    refine serveSetting_keeps (s := s) hs fun v _ _ _ => ?_
    have hk : PulsesFit { s with config := putSetting s.config v k } := hs
    cases k with
    | stallTime =>
      have hfold (ms : List Meter) (u : State) (hu : PulsesFit u) :
          PulsesFit (ms.foldl (fun s m => stallExpires m s) u) := by
        induction ms generalizing u with
        | nil => exact hu
        | cons m ms ih => exact ih _ (pulsesFit_stallExpires hu m)
      exact hfold _ _ hk
    | _ => exact hk.of_touches (touches_effect _ _) rfl
  | factor m => exact hs
  | inUse l =>
    simp only [serveItem, serveInUse, apply_ite Served.state]
    split
    · split
      · exact hs
      · rw [changeLine_eq]
        intro m
        simp only [lower_meters, lineReset, Tab.get_set]
        split
        · simp [startMeter]
        · exact hs m
    · exact hs
  | range a high => exact hs.of_touches (touches_serveRange s a high value) rfl

theorem pulsesFit_exec {i : Instr} (hs : PulsesFit s) (h : exec i s = .next t) : PulsesFit t := by
  have followed (u v : State) (hv : PulsesFit v) : PulsesFit (Machine.followFlow u v) := hv.followFlow
  cases i with
  | pulse m =>
    refine event_keeps h hs ?_
    have counted : PulsesFit { s with meters := s.meters.modify m countPulse } := fun n => by
      simp only [Tab.get_modify]
      split
      · exact saturate_le _ _
      · exact hs n
    split
    · dsimp only
      split
      · exact counted
      · exact counted.of_touches (touches_raise _ _) rfl
    · exact hs
  | stallTimerExpiry m => exact event_keeps h hs (pulsesFit_stallExpires hs m)
  | powerFail =>
    cases h
    exact fun m => by simpa using hs m
  | powerOnStart => cases h; exact pulsesFit_start _ _
  | sampleStage amps =>
    refine flowStage_keeps (followed s) h hs fun p _ _ => ?_
    rw [sampleStep_eq]
    exact (pulsesFit_snapMeters s).of_touches ((touches_sourEvaluated_snapped s amps).andThen (touches_withPass _ _)) rfl
  | measureStage => exact stage_keeps h hs fun p _ _ => pulsesFit_measureStep hs p
  | configure l item value =>
    exact request_rel (R := fun _ t => PulsesFit t) h hs (fun _ => hs.of_touches (touches_respond _ _ _ _ _) rfl) fun _ =>
      (pulsesFit_serveConfigure hs).followFlow.of_touches (touches_respond _ _ _ _ _) rfl
  | restartTakesPlace amps =>
    refine event_keeps h hs ?_
    split
    · exact pulsesFit_start _ _
    · exact hs
  | _ =>
    obtain ⟨u, hu, hf⟩ := exec_acts h
    exact (hs.of_touches hu rfl).finished hf

theorem pulsesFit_step (hs : PulsesFit s) (h : step s = .next t) : PulsesFit t :=
  step_keeps (P := PulsesFit) (fun _ _ _ h => h) (fun _ _ _ => pulsesFit_exec)
    (fun s hs m => by unfold tick; cases s.supplied <;> simpa [advanceBlocks] using hs m) hs h

end Pulses

/-! ## Epochs and stack changes (R59, R118) -/

/-- Every epoch and the stack's change count are within their widths. -/
def BookFits (b : Book) : Prop := (∀ c : Slot, (b.claims.get c).epoch ≤ 65535) ∧ b.stack.changes ≤ 255

theorem EpochStep.fits {old new : Claim} (h : EpochStep old new) (ho : old.epoch ≤ 65535) : new.epoch ≤ 65535 := by
  rw [h]
  split
  · exact ho
  · exact wrapSucc_le _ _

theorem bookFits_move {c : Slot} {b b' : Book} (h : Move c b b') (hb : BookFits b) : BookFits b' := by
  obtain ⟨hepochs, hchanges⟩ := hb
  refine ⟨fun d => ?_, ?_⟩
  · by_cases hd : d = c
    · subst hd
      exact h.epochStep.fits (hepochs d)
    · rw [h.claims_ne hd]
      exact hepochs d
  · cases h with
    | purges =>
      simp only [Book.purged, dropRecords]
      split
      · exact wrapSucc_le _ _
      · exact hchanges
    | _ => exact hchanges

section Book

variable {s t : State}

theorem bookFits_pushRecord (r : ShedRecord) (hs : BookFits (book s)) : BookFits (book (pushRecord r s)) := by
  obtain ⟨hepochs, -⟩ := hs
  have hevicted (c : Slot) : ((evict s).claims.get c).epoch = (s.claims.get c).epoch := by
    unfold evict
    split
    · rfl
    · split
      · rfl
      · simp only [raise_claims, Tab.get_modify]
        split
        · next h => rw [h]
        · rfl
  refine ⟨fun c => ?_, wrapSucc_le _ _⟩
  have hpushed : ((pushRecord r s).claims.get c).epoch = ((evict s).claims.get c).epoch := by
    rw [pushRecord_eq]
    simp only [putOnTop, Tab.get_modify]
    split
    · next h => rw [h]
    · rfl
  exact (hpushed.trans (hevicted c)).trans_le (hepochs c)

theorem bookFits_popStep (p : Pass) (hs : BookFits (book s)) : BookFits (book (popStep p s)) := by
  refine ⟨fun c => (epochStep_popStep p s c).fits (hs.1 c), ?_⟩
  unfold popStep
  split
  · exact hs.2
  · split
    · exact wrapSucc_le _ _
    · exact hs.2

/-- The apply stage touches no epoch (R105). -/
theorem applyStep_epoch (p : Pass) (s : State) (c : Slot) :
    ((applyStep p s).claims.get c).epoch = (s.claims.get c).epoch := by
  simp only [applyStep, applyClaims, Tab.get_gen]
  split
  · rfl
  · unfold writeResult
    split <;> rfl

theorem bookFits_applyStep (p : Pass) (hs : BookFits (book s)) : BookFits (book (applyStep p s)) := by
  refine ⟨fun c => (applyStep_epoch p s c).trans_le (hs.1 c), ?_⟩
  simp only [book, applyStep, applyStack]
  split
  · exact wrapSucc_le _ _
  · exact hs.2

/-- Both starts clear the epochs and the stack (R82, R120). -/
theorem start_claims (amps : Currents) (s : State) :
    (start amps s).claims =
      Tab.gen (startClaim (s.contacts.get conK2).raw (s.contacts.get conK4).raw) := by
  have h : (start amps s).claims = (startBlocks s).claims := (touches_startFormed s amps).same .claims rfl
  rw [h]
  simp [startBlocks, startContact]

theorem start_stack (amps : Currents) (s : State) : (start amps s).stack = { records := [], changes := 0 } :=
  (touches_startFormed s amps).same .stack rfl

theorem bookFits_start (amps : Currents) (s : State) : BookFits (book (start amps s)) := by
  refine ⟨fun c => ?_, ?_⟩
  · simp [book, start_claims, startClaim, vacantClaim]
  · simp [book, start_stack]

theorem bookFits_exec {i : Instr} (hs : BookFits (book s)) (h : exec i s = .next t) : BookFits (book t) := by
  cases hi : recasts i with
  | false => exact (exec_slotsMove hi h).keeps (fun _ _ _ => bookFits_move) hs
  | true =>
    cases i with
    | shedPush =>
      refine stage_keeps (P := fun t => BookFits (book t)) h hs fun p _ _ => ?_
      unfold shedPushStep
      split
      · exact hs
      · exact bookFits_pushRecord _ hs
    | pop =>
      exact stage_keeps (P := fun t => BookFits (book t)) h hs fun p _ _ => bookFits_popStep p hs
    | applyStage =>
      exact flowStage_keeps (P := fun t => BookFits (book t)) (fun _ h => h) h hs
        fun p _ _ => bookFits_applyStep p hs
    | powerOnStart => cases h; exact bookFits_start _ _
    | restartTakesPlace amps =>
      refine event_keeps (P := fun t => BookFits (book t)) h hs ?_
      split
      · exact bookFits_start _ _
      · exact hs
    | _ => simp [recasts] at hi

theorem bookFits_step (hs : BookFits (book s)) (h : step s = .next t) : BookFits (book t) :=
  step_keeps (P := fun s => BookFits (book s)) (fun _ _ _ h => h) (fun _ _ _ => bookFits_exec)
    (fun s hs => by
      obtain ⟨hepochs, hchanges⟩ := hs
      unfold tick
      cases s.supplied
      · exact ⟨hepochs, hchanges⟩
      · exact ⟨fun c => by simpa [book, advanceBlocks] using hepochs c, hchanges⟩) hs h

end Book

/-! ## Pass number and restore spacing (R84, R97) -/

/-- The pass number and the restore spacing count are within their widths. -/
abbrev PassCountsFit (s : State) : Prop := s.balance.passNumber ≤ 65535 ∧ s.balance.spacing ≤ 60

/-- The balance unit but for the pass in flight and its timer: what the stages before the apply stage keep. -/
def CountsStay (s t : State) : Prop :=
  t.balance.passNumber = s.balance.passNumber ∧ t.balance.spacing = s.balance.spacing

section PassCounts

variable {s t : State}

theorem PassCountsFit.of_stay (hs : PassCountsFit s) (h : CountsStay s t) : PassCountsFit t := by
  obtain ⟨h₁, h₂⟩ := h
  unfold PassCountsFit
  rwa [h₁, h₂]

theorem CountsStay.of_touches {bs : List Block} (h : TouchesOnly bs s t)
    (hb : decide (Block.balance ∉ bs) = true) : CountsStay s t := by
  have ht : t.balance = s.balance := h.same .balance hb
  exact ⟨congrArg (·.passNumber) ht, congrArg (·.spacing) ht⟩

theorem CountsStay.trans {u : State} (h₁ : CountsStay s t) (h₂ : CountsStay t u) : CountsStay s u :=
  ⟨h₂.1.trans h₁.1, h₂.2.trans h₁.2⟩

theorem countsStay_withPass (p : Pass) (s : State) : CountsStay s (withPass p s) := ⟨rfl, rfl⟩

theorem countsStay_serveConfigure (item : Nat) (value : Int) (s : State) :
    CountsStay s (serveConfigure item value s).state := by
  refine serveConfigure_keeps ⟨rfl, rfl⟩ (fun bank which => .of_touches (touches_writeBank s bank _ _) rfl)
    (fun number => .of_touches (touches_serveBinding s number value) rfl) fun i => ?_
  cases i with
  | setting k => exact .of_touches (touches_serveSetting s k value) rfl
  | factor m => exact ⟨rfl, rfl⟩
  | inUse l =>
    simp only [serveItem, serveInUse, apply_ite Served.state]
    split
    · split
      · exact ⟨rfl, rfl⟩
      · exact ⟨rfl, rfl⟩
    · exact ⟨rfl, rfl⟩
  | range a high => exact .of_touches (touches_serveRange s a high value) rfl

/-- Of the commands the apply stage and the starts alone move the two counts. -/
theorem exec_countsStay {i : Instr} (h : exec i s = .next t) (ha : i ≠ .applyStage)
    (hp : ∀ amps a b d, i ≠ .powerOnStart amps a b d) (hr : ∀ amps, i ≠ .restartTakesPlace amps) :
    CountsStay s t := by
  have stays : CountsStay s s := ⟨rfl, rfl⟩
  cases i with
  | applyStage => exact absurd rfl ha
  | powerOnStart amps a b d => exact absurd rfl (hp amps a b d)
  | restartTakesPlace amps => exact absurd rfl (hr amps)
  | powerFail => cases h; exact ⟨rfl, rfl⟩
  | passTimerExpiry =>
    refine event_keeps (P := CountsStay s) h stays ?_
    split
    · exact ⟨rfl, rfl⟩
    · exact stays
  | sampleStage amps =>
    refine flowStage_keeps (P := CountsStay s) (fun _ h => h) h stays fun p _ _ => ?_
    rw [sampleStep_eq]
    exact (CountsStay.of_touches (touches_sourEvaluated s amps) rfl).trans (countsStay_withPass _ _)
  | measureStage | snapshotStage | shortfallStage | admissionStage | allotmentStage =>
    exact stage_keeps (P := CountsStay s) h stays fun p _ _ => ⟨rfl, rfl⟩
  | holderStage =>
    refine stage_keeps (P := CountsStay s) h stays fun p _ _ => ?_
    rw [holderStep_eq]
    have hheld := (touches_balanceChecked s p).andThen (touches_followPressure _)
    exact (CountsStay.of_touches hheld rfl).trans (countsStay_withPass _ _)
  | shedPush =>
    refine stage_keeps (P := CountsStay s) h stays fun p _ _ => ?_
    unfold shedPushStep
    split
    · exact stays
    · exact (CountsStay.of_touches (touches_pushRecord s _) rfl).trans (countsStay_withPass _ _)
  | restoreStage =>
    refine stage_keeps (P := CountsStay s) h stays fun p _ _ => ?_
    unfold restoreStep
    split
    · exact ⟨rfl, rfl⟩
    · exact stays
  | pop =>
    refine stage_keeps (P := CountsStay s) h stays fun p _ _ => ?_
    unfold popStep
    split
    · exact ⟨rfl, rfl⟩
    · split
      · exact ⟨rfl, rfl⟩
      · exact ⟨rfl, rfl⟩
  | flareStage =>
    refine flowStage_keeps (P := CountsStay s) (fun _ h => h) h stays fun p _ _ => ?_
    exact (CountsStay.of_touches (touches_handOver s _ _) rfl).trans (countsStay_withPass _ _)
  | configure l item value =>
    exact request_keeps (P := CountsStay s) (fun _ _ ht hs => hs.trans (.of_touches ht rfl)) h stays
      (countsStay_serveConfigure item value s)
  | _ => exact .of_touches (exec_touches h) rfl

theorem passCountsFit_start (amps : Currents) (s : State) : PassCountsFit (start amps s) :=
  ⟨Nat.zero_le _, Nat.zero_le _⟩

theorem passCountsFit_exec {i : Instr} (hs : PassCountsFit s) (h : exec i s = .next t) : PassCountsFit t := by
  cases i with
  | applyStage =>
    refine flowStage_keeps (P := PassCountsFit) (fun _ h => h) h hs fun p _ _ => ⟨wrapSucc_le _ _, ?_⟩
    simp only [applyStep, nextSpacing]
    split
    · exact Nat.zero_le _
    · exact saturate_le _ _
  | powerOnStart => cases h; exact passCountsFit_start _ _
  | restartTakesPlace amps =>
    refine event_keeps h hs ?_
    split
    · exact passCountsFit_start _ _
    · exact hs
  | _ => exact hs.of_stay (exec_countsStay h nofun nofun nofun)

theorem passCountsFit_step (hs : PassCountsFit s) (h : step s = .next t) : PassCountsFit t :=
  step_keeps (P := PassCountsFit) (fun _ _ _ h => h) (fun _ _ _ => passCountsFit_exec)
    (fun s hs => by unfold tick; cases s.supplied <;> exact hs) hs h

end PassCounts

/-! ## Carries and the filtered rate (R32, R39) -/

/-- Every carry is below a millilitre and P_f within its range. -/
abbrev NormalizerFits (n : Normalizer) : Prop := (∀ m : Meter, n.carries.get m ≤ 999) ∧ n.filtered ≤ 20000

section Normalizer

variable {s t : State}

theorem normalizerFits_of_touches {bs : List Block} (hs : NormalizerFits s.normalizer) (h : TouchesOnly bs s t)
    (hb : decide (Block.normalizer ∉ bs) = true) : NormalizerFits t.normalizer := by
  have ht : t.normalizer = s.normalizer := h.same .normalizer hb
  rwa [ht]

theorem productionRate_le (figures : Tab 12 Figures) : productionRate figures ≤ 20000 :=
  (clampNat_bounds (Nat.zero_le _) _).2

theorem normalizerFits_measureStep (hs : NormalizerFits s.normalizer) (p : Pass) :
    NormalizerFits (measureStep p s).normalizer := by
  refine ⟨fun m => ?_, filtered_le hs.2 (productionRate_le _)⟩
  have hcarry : meterCarry p s m ≤ 999 := by
    unfold meterCarry newCarry
    split_ifs
    · exact hs.1 m
    · omega
    · exact hs.1 m
  simpa [measureStep] using hcarry

theorem normalizerFits_serveConfigure {item : Nat} {value : Int} (hs : NormalizerFits s.normalizer) :
    NormalizerFits (serveConfigure item value s).state.normalizer := by
  refine serveConfigure_keeps (P := fun s => NormalizerFits s.normalizer) hs
    (fun bank which => normalizerFits_of_touches hs (touches_writeBank s bank _ _) rfl)
    (fun number => normalizerFits_of_touches hs (touches_serveBinding s number value) rfl) fun i => ?_
  cases i with
  | setting k => exact normalizerFits_of_touches hs (touches_serveSetting s k value) rfl
  | factor m => exact hs
  | inUse l =>
    simp only [serveItem, serveInUse, apply_ite Served.state]
    split
    · split
      · exact hs
      · rw [changeLine_eq]
        refine ⟨fun m => ?_, hs.2⟩
        simp only [lower_normalizer, lineReset, Tab.get_set]
        split
        · exact Nat.zero_le _
        · exact hs.1 m
    · exact hs
  | range a high => exact normalizerFits_of_touches hs (touches_serveRange s a high value) rfl

theorem normalizerFits_start (amps : Currents) (s : State) : NormalizerFits (start amps s).normalizer := by
  have h : (start amps s).normalizer = { carries := Tab.fill 12 0, filtered := 0 } :=
    (touches_startFormed s amps).same .normalizer rfl
  rw [h]
  exact ⟨fun m => by simp, Nat.zero_le _⟩

theorem normalizerFits_exec {i : Instr} (hs : NormalizerFits s.normalizer) (h : exec i s = .next t) :
    NormalizerFits t.normalizer := by
  cases i with
  | measureStage =>
    exact stage_keeps (P := fun s => NormalizerFits s.normalizer) h hs
      fun p _ _ => normalizerFits_measureStep hs p
  | configure l item value =>
    exact request_keeps (P := fun s => NormalizerFits s.normalizer)
      (fun _ _ ht hs => normalizerFits_of_touches hs ht rfl) h hs (normalizerFits_serveConfigure hs)
  | powerOnStart => cases h; exact normalizerFits_start _ _
  | restartTakesPlace amps =>
    refine event_keeps (P := fun s => NormalizerFits s.normalizer) h hs ?_
    split
    · exact normalizerFits_start _ _
    · exact hs
  | _ => exact normalizerFits_of_touches hs (exec_touches h) rfl

theorem normalizerFits_step (hs : NormalizerFits s.normalizer) (h : step s = .next t) :
    NormalizerFits t.normalizer :=
  step_keeps (P := fun s => NormalizerFits s.normalizer) (fun _ _ _ h => h) (fun _ _ _ => normalizerFits_exec)
    (fun s hs => by unfold tick; cases s.supplied <;> exact hs) hs h

end Normalizer

end Sys2Proof.Machine
end

section
/-! The bank change counts, the pending switch (R140, R142, R148) and the receptions (R153) after every step. -/

namespace Sys2Proof.Machine

open Sys2Proof

/-! ## Onsets on the event bindings (R150) -/

/-- The policy banks have at most been signalled onsets: the change counts and the active bank stand, and the pending
switch stays off it. -/
def Signalled (s t : State) : Prop :=
  t.policy.changes = s.policy.changes ∧ t.policy.active = s.policy.active ∧ (SwitchNotActive s → SwitchNotActive t)

namespace Signalled

variable {s t u : State}

theorem refl (s : State) : Signalled s s := ⟨rfl, rfl, id⟩

theorem trans (h₁ : Signalled s t) (h₂ : Signalled t u) : Signalled s u :=
  ⟨h₂.1.trans h₁.1, h₂.2.1.trans h₁.2.1, fun h => h₂.2.2 (h₁.2.2 h)⟩

theorem of_same (h : t.policy = s.policy) : Signalled s t := by
  unfold Signalled SwitchNotActive
  rw [h]
  exact ⟨rfl, rfl, id⟩

theorem of_touches {bs : List Block} (h : TouchesOnly bs s t)
    (hb : decide (Block.policy ∉ bs) = true) : Signalled s t := .of_same (h.same .policy hb)

theorem followed {bs : List Block} (h₁ : Signalled s t) (h : TouchesOnly bs t u)
    (hb : decide (Block.policy ∉ bs) = true) : Signalled s u := h₁.trans (.of_touches h hb)

end Signalled

section Operations

variable (s : State)

theorem signalled_signal (x : Source) : Signalled s (signal x s) :=
  ⟨rfl, rfl, fun h => fireBindings_ne_active _ _ _ h⟩

theorem signalled_enterSubstituted : Signalled s (enterSubstituted s) :=
  (Signalled.of_touches (((touches_quality s _).andThen (touches_lower _ _)).andThen (touches_raise _ _)) rfl).trans
    (signalled_signal _ _)

theorem signalled_enterHeld : Signalled s (enterHeld s) := by
  rw [enterHeld_eq]
  split
  · exact (Signalled.of_touches (touches_markHeld s) rfl).trans (signalled_enterSubstituted _)
  · exact .of_touches (touches_markHeld s) rfl

theorem signalled_examineQuality : Signalled s (examineQuality s) := by
  unfold examineQuality
  split
  · split
    · exact .of_touches (touches_quality s _) rfl
    · exact signalled_enterHeld s
  · exact .refl s

theorem signalled_endAttempt : Signalled s (endAttempt s) := by
  unfold endAttempt
  split
  · exact .of_touches ((touches_withFlare s _).andThen (touches_raise _ _)) rfl
  · exact (Signalled.of_touches (((touches_withFlare s _).andThen (touches_lower _ _)).andThen
      (touches_raise _ _)) rfl).trans (signalled_signal _ _)

theorem signalled_takeReport (r : FlareReport) : Signalled s (takeReport r s) := by
  have recorded : Signalled s (recordReport r s) := .of_touches (touches_withFlare s _) rfl
  cases h : s.flare.state with
  | off => rw [takeReport_off h]; exact recorded.followed (touches_withFlare _ _) rfl
  | called =>
    rw [takeReport_called h]
    split
    · exact recorded.followed (touches_proveFlame _) rfl
    · exact recorded.trans (signalled_endAttempt _)
  | burning =>
    rw [takeReport_burning h]
    split
    · exact recorded
    · exact recorded.trans (signalled_endAttempt _)
  | holding =>
    rw [takeReport_holding h]
    split
    · exact recorded
    · exact recorded.followed (touches_withFlare _ _) rfl
  | failed => rw [takeReport_failed h]; exact recorded

theorem signalled_evaluateSour (h2s : Nat) : Signalled s (evaluateSour h2s s) := by
  have hq (q : Quality) : Signalled s { s with quality := q } := .of_same rfl
  unfold evaluateSour
  dsimp only
  split
  · split
    · split
      · exact (hq _).followed ((touches_unlockAll _ .sour).andThen (touches_lower _ .sourGas)) rfl
      · exact hq _
    · exact hq _
  · split
    · split
      · exact ((hq _).followed ((touches_lockAll _ .sour).andThen (touches_raise _ .sourGas)) rfl).trans
          (signalled_signal _ _)
      · exact hq _
    · exact hq _

theorem signalled_contactOnset (k : Contact) : Signalled s (contactOnset k s) := by
  unfold contactOnset
  split
  · exact (Signalled.of_touches ((touches_lockAll s _).andThen (touches_raise _ _)) rfl).trans (signalled_signal _ _)
  · split
    · exact (Signalled.of_touches (touches_followOverfill s) rfl).trans (signalled_signal _ _)
    · split
      · exact (Signalled.of_touches ((touches_lockAll s _).andThen (touches_raise _ _)) rfl).trans (signalled_signal _ _)
      · exact .refl s

theorem signalled_contactEnd (k : Contact) : Signalled s (contactEnd k s) := by
  unfold contactEnd
  split
  · exact .of_touches ((touches_unlockAll s _).andThen (touches_lower _ _)) rfl
  · split
    · exact .of_touches (touches_followOverfill s) rfl
    · split
      · exact .of_touches ((touches_unlockAll s _).andThen (touches_lower _ _)) rfl
      · split
        · exact signalled_enterHeld s
        · exact .refl s

theorem signalled_balanceCheck (difference : Int) : Signalled s (balanceCheck difference s) := by
  have hh (h) : TouchesOnly [.holder] s { s with holder := h } := .of_restore rfl
  unfold balanceCheck
  dsimp only
  split
  · exact .of_touches (hh _) rfl
  · split
    · exact (Signalled.of_touches ((hh _).andThen (touches_raise _ _)) rfl).trans (signalled_signal _ _)
    · split
      · exact .of_touches ((hh _).andThen (touches_lower _ _)) rfl
      · exact .of_touches (hh _) rfl

theorem signalled_holderStep (p : Pass) : Signalled s (holderStep p s) := by
  have hband := touches_bandFollowed s p
  have hchecked : Signalled s (balanceChecked p s) := by
    unfold balanceChecked
    split
    · exact .of_touches hband rfl
    · exact (Signalled.of_touches hband rfl).trans (signalled_balanceCheck _ _)
  rw [holderStep_eq]
  exact hchecked.followed ((touches_followPressure _).andThen (touches_withPass _ _)) rfl

theorem signalled_sampleStep (amps : Currents) (p : Pass) : Signalled s (sampleStep amps p s) := by
  have hsampled : Signalled s (fieldSampled amps s) :=
    (Signalled.of_touches ((touches_snapMeters s).andThen (touches_sampleAnalog _ amps)) rfl).trans
      (signalled_examineQuality _)
  rw [sampleStep_eq]
  exact (hsampled.trans (signalled_evaluateSour _ _)).followed (touches_withPass _ _) rfl

theorem signalled_ignitionExpires : Signalled s (ignitionExpires s) := by
  unfold ignitionExpires
  split
  · exact signalled_endAttempt s
  · exact .refl s

theorem signalled_holdExpires : Signalled s (holdExpires s) := by
  unfold holdExpires
  split
  · exact signalled_enterSubstituted s
  · exact .refl s

theorem signalled_settingEffect (k : Setting) : Signalled s (settingEffect k s) := by
  cases k with
  | qualityHold => exact signalled_holdExpires s
  | ignitionTimeout => exact signalled_ignitionExpires s
  | _ => exact .of_touches (touches_effect s _) rfl

end Operations

/-! ## The policy banks after every step -/

/-- The change counts are in their width. -/
abbrev BankChangesFit (s : State) : Prop := ∀ b : BankNo, s.policy.changes.get b ≤ 255

section Policy

variable {s t : State}

theorem BankChangesFit.of_signalled (hs : BankChangesFit s) (h : Signalled s t) : BankChangesFit t := fun b => by
  rw [h.1]
  exact hs b

theorem SwitchNotActive.of_signalled (hs : SwitchNotActive s) (h : Signalled s t) : SwitchNotActive t := h.2.2 hs

/-- A bank write moves one change count, and the pending switch stands. -/
theorem bankWrite_policy {bank : Nat} {known : Bank → Bool} {write : Bank → Bank × Bool} (s : State) :
    (BankChangesFit s → BankChangesFit (writeBank bank known write s).state) ∧
      (SwitchNotActive s → SwitchNotActive (writeBank bank known write s).state) := by
  cases h : bankOf bank with
  | none =>
    simp only [writeBank, h, apply_ite Served.state, ite_self]
    exact ⟨id, id⟩
  | some b =>
    simp only [writeBank, h, apply_ite Served.state]
    split_ifs
    · exact ⟨id, id⟩
    · exact ⟨id, id⟩
    · exact ⟨id, id⟩
    · exact ⟨id, id⟩
    · refine ⟨fun hs d => ?_, id⟩
      simp only [Tab.get_modify]
      split
      · exact wrapSucc_le _ _
      · exact hs d

/-- A condition that onsets and bank writes keep, a CONFIGURE keeps. -/
theorem serveConfigure_policy {P : State → Prop} (hP : ∀ s t, Signalled s t → P s → P t)
    (hbank : ∀ bank which value, P s → P (serveGeometry bank which value s).state) {item : Nat} {value : Int}
    (hs : P s) : P (serveConfigure item value s).state := by
  refine serveConfigure_keeps hs (fun bank which => hbank _ _ _ hs)
    (fun number => hP _ _ (.of_touches (touches_serveBinding s number value) rfl) hs) fun i => ?_
  cases i with
  | setting k =>
    refine serveSetting_keeps (s := s) hs fun v _ _ _ => ?_
    have hk : P { s with config := putSetting s.config v k } := hP _ _ (.of_touches (touches_config s _) rfl) hs
    exact hP _ _ (signalled_settingEffect _ k) hk
  | factor m => exact hP _ _ (.of_touches (touches_config s _) rfl) hs
  | inUse l => exact hP _ _ (.of_touches (touches_serveInUse s l value) rfl) hs
  | range a high => exact hP _ _ (.of_touches (touches_serveRange s a high value) rfl) hs

/-- Both starts begin with bank 0 active; a power-on start has set the change counts to 0 before (R148, R152). -/
theorem start_policy (amps : Currents) (s : State) :
    (start amps s).policy.changes = s.policy.changes ∧ SwitchNotActive (start amps s) := by
  have hformed : Signalled (startBlocks s) (startHolder (startQuality (sampleAnalog amps (startBlocks s)))) :=
    .of_touches (((touches_sampleAnalog _ amps).andThen (touches_startQuality _)).andThen (touches_startHolder _)) rfl
  have halerted (u : State) : Signalled u (startAlert .totalsLost u.totals.clockUnset
      (startAlert .configDefaulted u.store.defaulted (startAlert .estop (u.contacts.get conK4).debounced
        (startAlert .gasRoom (u.contacts.get conK2).debounced u)))) :=
    .of_touches ((((touches_startAlert u _ _).andThen (touches_startAlert _ _ _)).andThen
      (touches_startAlert _ _ _)).andThen (touches_startAlert _ _ _)) rfl
  have hbound (u : State) : Signalled u (startBindings u) := by
    refine ⟨rfl, rfl, fun h => ?_⟩
    have hfold (xs : List Source) (sw : Option BankNo) (hsw : sw ≠ some u.policy.active) :
        xs.foldl (fun sw x => fireBindings u.config.bindings u.policy.active x sw) sw ≠ some u.policy.active := by
      induction xs generalizing sw with
      | nil => exact hsw
      | cons x xs ih => exact ih _ (fireBindings_ne_active _ _ _ hsw)
    exact hfold _ _ h
  have hall : Signalled (startBlocks s) (start amps s) :=
    ((hformed.trans (halerted _)).trans (hbound _)).followed (touches_startBalance _) rfl
  exact ⟨hall.1, hall.2.2 (by simp [SwitchNotActive, startBlocks])⟩

/-- What holds of the policy banks and is kept by onsets, by bank writes, by taken and set switches and by the starts
is kept by every command. -/
theorem policy_exec {P : State → Prop} (hP : ∀ s t, Signalled s t → P s → P t)
    (hbank : ∀ s bank known write, P s → P (writeBank bank known write s).state)
    (htake : ∀ s b, P s → P { s with policy := takeSwitch s.policy, balance := b })
    (hset : ∀ s b, P s → P { s with policy := { s.policy with switch := setSwitch s.policy.active b } })
    (hstart : ∀ amps s, P s → P (start amps s)) (hpower : ∀ amps s, s.policy.changes = Tab.fill 4 0 → P (start amps s))
    {i : Instr} (hs : P s) (h : exec i s = .next t) : P t := by
  have answered (u v : State) (hv : TouchesOnly answerBlocks u v) (hu : P u) : P v := hP _ _ (.of_touches hv rfl) hu
  have followed (u v : State) (hv : TouchesOnly [.meters, .alerts] u v) (hu : P u) : P v :=
    hP _ _ (.of_touches hv rfl) hu
  cases i with
  | debounceExpiry k =>
    rw [exec_debounceExpiry] at h
    have hk : P (settled k s) := hP _ _ (.of_touches (touches_settled k s) rfl) hs
    exact flowEvent_keeps followed h hs (debounce_keeps hs hk (hP _ _ (signalled_contactOnset _ k) hk)
      (hP _ _ (signalled_contactEnd _ k) hk))
  | powerOnStart amps cellLow totalsAgree configAgrees =>
    cases h
    refine hpower amps _ ?_
    unfold judgeTotals
    split
    · rfl
    · rfl
  | passTimerExpiry =>
    refine event_keeps h hs ?_
    split
    · exact htake s _ hs
    · exact hs
  | sampleStage amps =>
    exact flowStage_keeps (fun u hu => followed _ _ (touches_followFlow s u) hu) h hs
      fun p _ _ => hP _ _ (signalled_sampleStep s amps p) hs
  | holderStage => exact stage_keeps h hs fun p _ _ => hP _ _ (signalled_holderStep s p) hs
  | holdTimerExpiry => exact event_keeps h hs (hP _ _ (signalled_holdExpires s) hs)
  | ignitionTimerExpiry => exact flowEvent_keeps followed h hs (hP _ _ (signalled_ignitionExpires s) hs)
  | flareStatus l flame ready fault =>
    exact request_keeps (serve := fun s => { state := takeReport ⟨flame, ready, fault⟩ s, status := .done })
      answered h hs (hP _ _ (signalled_takeReport s _) hs)
  | switchBank l bank =>
    refine request_keeps answered h hs ?_
    cases hb : bankOf bank with
    | none =>
      simp only [serveSwitchBank, hb]
      exact hs
    | some b =>
      simp only [serveSwitchBank, hb]
      exact hset s b hs
  | writeRow | setRank | configureBandGeometry => exact request_keeps answered h hs (hbank _ _ _ _ hs)
  | configure l item value =>
    exact request_keeps answered h hs (serveConfigure_policy hP (fun bank which value hs => hbank _ _ _ _ hs) hs)
  | restartTakesPlace amps =>
    refine event_keeps h hs ?_
    split
    · exact hstart amps s hs
    · exact hs
  | _ => exact hP _ _ (.of_touches (exec_touches h) rfl) hs

theorem bankChangesFit_step (hs : BankChangesFit s) (h : step s = .next t) : BankChangesFit t :=
  step_keeps (P := BankChangesFit) (fun _ _ _ h => h)
    (fun _ _ _ => policy_exec (fun _ _ ht hs => hs.of_signalled ht) (fun s _ _ _ => (bankWrite_policy s).1)
      (fun s b hs => by unfold takeSwitch; split <;> exact hs) (fun s b hs => hs)
      (fun amps s hs b => by rw [(start_policy amps s).1]; exact hs b)
      (fun amps s hc b => by rw [(start_policy amps s).1, hc]; simp))
    (fun s hs => hs.of_signalled (.of_touches (touches_tick s) rfl)) hs h

theorem switchNotActive_step (hs : SwitchNotActive s) (h : step s = .next t) : SwitchNotActive t :=
  step_keeps (P := SwitchNotActive) (fun _ _ _ h => h)
    (fun _ _ _ => policy_exec (fun _ _ ht hs => hs.of_signalled ht) (fun s _ _ _ => (bankWrite_policy s).2)
      (fun s b hs => by
        cases hsw : s.policy.switch with
        | none => simp [SwitchNotActive, takeSwitch, hsw]
        | some b => simp [SwitchNotActive, takeSwitch, hsw])
      (fun s b _ => setSwitch_ne_active _ _) (fun amps s _ => (start_policy amps s).2)
      (fun amps s _ => (start_policy amps s).2))
    (fun s hs => hs.of_signalled (.of_touches (touches_tick s) rfl)) hs h

end Policy

/-! ## Receptions (R153) -/

section Port

variable {p : Port}

/-- An empty reception is bounded. -/
theorem portBounded_of_empty (h : p.body = []) : PortBounded p := ⟨fun _ => h, by simp [h, bodyLength]⟩

theorem portBounded_toHunt (p : Port) : PortBounded (toHunt p) := portBounded_of_empty rfl

/-- A body shorter than the frame it announces takes one byte more, a length byte above 48 excepted. -/
theorem bodyLength_append {body : List Byte} (hb : ∀ n ∈ bodyLength body, n ≤ 53 ∧ body.length ≤ n)
    (hc : frameComplete body = false) {b : Byte} (hlen : ¬(body.length = 2 ∧ 48 < b.toNat)) :
    ∀ n ∈ bodyLength (body ++ [b]), n ≤ 53 ∧ (body ++ [b]).length ≤ n := by
  match body with
  | [] | [_] => simp [bodyLength]
  | [_, _] =>
    have hn : b.toNat ≤ 48 := by simpa using hlen
    simp [bodyLength]
    omega
  | x :: y :: k :: rest =>
    simp only [bodyLength, frameComplete] at hb hc ⊢
    simp at hb hc ⊢
    omega

theorem portBounded_addBody (b : Byte) (hp : PortBounded p) (hs : p.state = .receive)
    (hc : frameComplete p.body = false) : PortBounded (addBody b p) := by
  simp only [addBody, Bool.and_eq_true, decide_eq_true_eq]
  split
  · exact portBounded_toHunt p
  · next h => exact ⟨fun hne => absurd hs hne, bodyLength_append hp.2 hc h⟩

theorem portBounded_receiveByte (b : Byte) (hp : PortBounded p) (hs : p.state = .receive)
    (hc : frameComplete p.body = false) : PortBounded (receiveByte b p) := by
  unfold receiveByte
  split
  · exact portBounded_of_empty rfl
  · split
    · split
      · exact portBounded_addBody _ hp hs hc
      · exact portBounded_toHunt p
    · split
      · exact portBounded_toHunt p
      · split
        · exact hp
        · exact portBounded_addBody b hp hs hc

theorem portBounded_portByte (b : Byte) (hp : PortBounded p) : PortBounded (portByte b p) := by
  cases hs : p.state with
  | hunt =>
    simp only [portByte, hs]
    split
    · exact portBounded_of_empty rfl
    · exact hp
  | receive =>
    simp only [portByte, hs]
    split
    · exact hp
    · next hc => exact portBounded_receiveByte b hp hs (by simpa using hc)
  | hold | send =>
    simp only [portByte, hs]
    exact hp

theorem portBounded_answered (a : Answer) (hp : PortBounded p) : PortBounded (answered a p) := by
  unfold answered
  split
  · next h => exact portBounded_of_empty (hp.1 (by simp [h]))
  · exact hp

end Port

section Ports

variable {s t u : State}

theorem PortsBounded.of_touches {bs : List Block} (hs : PortsBounded s) (h : TouchesOnly bs s t)
    (hb : decide (Block.ports ∉ bs) = true) : PortsBounded t := by
  have ht : t.ports = s.ports := h.same .ports hb
  unfold PortsBounded
  rwa [ht]

/-- One port changed within its bound. -/
theorem PortsBounded.modify (hs : PortsBounded s) {l : Link} {f : Port → Port}
    (hf : ∀ p, PortBounded p → PortBounded (f p)) : PortsBounded { s with ports := s.ports.modify l f } := fun k => by
  simp only [Tab.get_modify]
  split
  · exact hf _ (hs l)
  · exact hs k

theorem PortsBounded.respond (hs : PortsBounded s) (l : Link) (code : Nat) (st : Status) (figures : List Byte) :
    PortsBounded (respond l code st figures s) := hs.modify fun _ hp => portBounded_answered _ hp

theorem PortsBounded.finished {k : Finish} (hu : PortsBounded u) (h : Finished s u t k) : PortsBounded t := by
  cases k with
  | plain => cases h; exact hu
  | followed => cases h; exact hu.of_touches (touches_followFlow s u) rfl
  | answered =>
    obtain ⟨rfl, rfl⟩ | ⟨l, code, st, figures, rfl⟩ := h
    · exact hu
    · exact (hu.of_touches (touches_followFlow s u) rfl).respond _ _ _ _

theorem portsBounded_admitFrame (hs : PortsBounded s) (l : Link) (h : HeldRequest) :
    PortsBounded (admitFrame l h s) := by
  have hheld : PortsBounded (frameHeld l h s) := by
    have hports := hs.modify (l := l)
      (f := fun p => { p with state := .hold, body := [], escaped := false, gap := none, held := some h })
      fun p _ => portBounded_of_empty rfl
    exact hports.of_touches (touches_restartLease _ l) rfl
  rw [admitFrame_eq]
  split
  · exact hheld.respond _ _ _ _
  · exact hheld.respond _ _ _ _
  · exact hheld
  · exact hheld

theorem portsBounded_start (amps : Currents) (s : State) : PortsBounded (start amps s) := by
  have h : (start amps s).ports = Tab.fill 7 huntPort := (touches_startFormed s amps).same .ports rfl
  intro l
  rw [h, Tab.get_fill]
  exact portBounded_of_empty rfl

theorem portsBounded_exec {i : Instr} (hs : PortsBounded s) (h : exec i s = .next t) : PortsBounded t := by
  cases i with
  | powerFail =>
    cases h
    exact fun l => by rw [Tab.get_gen]; exact portBounded_toHunt _
  | powerOnStart => cases h; exact portsBounded_start _ _
  | frameReceived l =>
    refine event_keeps h hs ?_
    split
    · split
      · exact portsBounded_admitFrame hs l _
      · exact hs.modify fun p _ => portBounded_toHunt p
    · exact hs
  | gapTimerExpiry l =>
    rw [exec_gapTimerExpiry] at h
    refine event_keeps h hs (hs.modify fun p hp => ?_)
    split
    · exact portBounded_toHunt p
    · exact hp
  | answerSent l =>
    rw [exec_answerSent] at h
    refine event_keeps h hs (hs.modify fun p hp => ?_)
    split
    · exact portBounded_toHunt p
    · exact hp
  | unknownRequest l code => exact event_keeps h hs (hs.respond _ _ _ _)
  | byteReceived l b =>
    rw [exec_byteReceived] at h
    exact event_keeps h hs (hs.modify fun p hp => portBounded_portByte b hp)
  | restartTakesPlace amps =>
    refine event_keeps h hs ?_
    split
    · exact portsBounded_start _ _
    · exact hs
  | _ =>
    obtain ⟨u, hu, hf⟩ := exec_acts h
    exact (hs.of_touches hu rfl).finished hf

theorem portsBounded_step (hs : PortsBounded s) (h : step s = .next t) : PortsBounded t :=
  step_keeps (P := PortsBounded) (fun _ _ _ h => h) (fun _ _ _ => portsBounded_exec)
    (fun s hs l => by
      unfold tick
      cases s.supplied
      · exact hs l
      · simp only [advanceBlocks, if_true, Tab.get_gen]
        exact hs l) hs h

end Ports

/-- Settles O14: each count belongs to one block and is moved by few commands, each within the count's width. -/
theorem countsSwitchAndPortsKept : Obligations.CountsSwitchAndPortsKept := by
  intro s t h
  refine ⟨fun hs => ?_, fun hs => switchNotActive_step hs h, fun hs => portsBounded_step hs h⟩
  obtain ⟨hpulses, hepochs, hpass, hspacing, hstack, hbanks, hcarries, hfiltered⟩ := hs
  have hbook : BookFits (book t) := bookFits_step ⟨hepochs, hstack⟩ h
  have hcounts : PassCountsFit t := passCountsFit_step ⟨hpass, hspacing⟩ h
  have hnormal : NormalizerFits t.normalizer := normalizerFits_step ⟨hcarries, hfiltered⟩ h
  exact ⟨pulsesFit_step hpulses h, hbook.1, hcounts.1, hcounts.2, hbook.2, bankChangesFit_step hbanks h, hnormal.1,
    hnormal.2⟩

end Sys2Proof.Machine
end

section
/-! A sample of an analog channel (R12 to R14). -/

namespace Sys2Proof.Machine

open Sys2Proof

/-! ## Scaling (R12) -/

/-- Rounding half up: twice the quotient lies within half a unit. -/
theorem roundHalfUp_bounds {num : Int} {den : Nat} (hd : 0 < den) :
    2 * den * roundHalfUp num den ≤ 2 * num + den ∧ 2 * num + den < 2 * den * (roundHalfUp num den + 1) := by
  have hpos : (0 : Int) < 2 * den := by omega
  have hdiv := Int.mul_ediv_add_emod (2 * num + den) (2 * den)
  have hlow := Int.emod_nonneg (2 * num + den) hpos.ne'
  have hhigh := Int.emod_lt_of_pos (2 * num + den) hpos
  unfold roundHalfUp
  constructor
  · omega
  · rw [mul_add]
    omega

/-- The value of a current in range (R12). -/
def scaled (r : Range) (amps : Nat) : Int := r.lo + roundHalfUp (((amps : Int) - 4000) * (r.hi - r.lo)) 16000

section Classes

variable {r : Range} {amps : Nat}

theorem classify_good (h₁ : 4000 ≤ amps) (h₂ : amps ≤ 20000) : classify r amps = .good (scaled r amps) :=
  if_pos ⟨h₁, h₂⟩

theorem classify_clampLow (h₁ : 3600 ≤ amps) (h₂ : amps < 4000) : classify r amps = .clampLow r.lo := by
  rw [classify, if_neg (by omega), if_pos ⟨h₁, h₂⟩]

theorem classify_clampHigh (h₁ : 20000 < amps) (h₂ : amps ≤ 21000) : classify r amps = .clampHigh r.hi := by
  rw [classify, if_neg (by omega), if_neg (by omega), if_pos ⟨h₁, h₂⟩]

theorem classify_fault (h : amps < 3600 ∨ 21000 < amps) : classify r amps = .fault := by
  rw [classify, if_neg (by omega), if_neg (by omega), if_neg (by omega)]

/-- The scaled value, rounded half up. -/
theorem scaled_rounds (r : Range) (amps : Nat) :
    32000 * (scaled r amps - r.lo) ≤ 2 * ((amps : Int) - 4000) * (r.hi - r.lo) + 16000 ∧
      2 * ((amps : Int) - 4000) * (r.hi - r.lo) + 16000 < 32000 * (scaled r amps - r.lo + 1) := by
  have h := roundHalfUp_bounds (num := ((amps : Int) - 4000) * (r.hi - r.lo)) (den := 16000) (by norm_num)
  have hscaled : scaled r amps - r.lo = roundHalfUp (((amps : Int) - 4000) * (r.hi - r.lo)) 16000 := by
    unfold scaled
    ring
  rw [hscaled, mul_assoc]
  push_cast at h
  constructor
  · linarith [h.1]
  · linarith [h.2]

theorem scaled_within (hr : r.lo ≤ r.hi) (h₁ : 4000 ≤ amps) (h₂ : amps ≤ 20000) :
    within r.lo r.hi (scaled r amps) := by
  obtain ⟨hlow, hhigh⟩ := scaled_rounds r amps
  have hspan : 0 ≤ r.hi - r.lo := by omega
  have hfrom : 0 ≤ ((amps : Int) - 4000) * (r.hi - r.lo) := mul_nonneg (by omega) hspan
  have hto : ((amps : Int) - 4000) * (r.hi - r.lo) ≤ 16000 * (r.hi - r.lo) :=
    mul_le_mul_of_nonneg_right (by omega) hspan
  rw [mul_assoc] at hlow hhigh
  constructor <;> omega

end Classes

/-- A value that a sample gives, if it gives one. -/
def Sample.value : Sample → Option Int
  | .good v | .clampLow v | .clampHigh v => some v
  | .fault => none

theorem classify_cases (r : Range) (amps : Nat) :
    (4000 ≤ amps ∧ amps ≤ 20000 ∧ classify r amps = .good (scaled r amps)) ∨ classify r amps = .clampLow r.lo ∨
      classify r amps = .clampHigh r.hi ∨ classify r amps = .fault := by
  by_cases hg : 4000 ≤ amps ∧ amps ≤ 20000
  · exact .inl ⟨hg.1, hg.2, classify_good hg.1 hg.2⟩
  · by_cases hl : 3600 ≤ amps ∧ amps < 4000
    · exact .inr (.inl (classify_clampLow hl.1 hl.2))
    · by_cases hh : 20000 < amps ∧ amps ≤ 21000
      · exact .inr (.inr (.inl (classify_clampHigh hh.1 hh.2)))
      · exact .inr (.inr (.inr (classify_fault (by omega))))

/-- Every value lies within the channel's range. -/
theorem classify_within {r : Range} (hr : r.lo ≤ r.hi) (amps : Nat) :
    ∀ v ∈ (classify r amps).value, within r.lo r.hi v := by
  obtain ⟨h₁, h₂, h⟩ | h | h | h := classify_cases r amps <;> rw [h] <;> intro v hv <;>
    simp only [Sample.value, Option.mem_def, Option.some.injEq, reduceCtorEq] at hv
  · exact hv ▸ scaled_within hr h₁ h₂
  · exact hv ▸ ⟨le_rfl, hr⟩
  · exact hv ▸ ⟨hr, le_rfl⟩

/-! ## The channel (R12 to R14) -/

section Channel

variable {c : ChannelRec}

/-- A channel that is not in fault takes the value, or begins a fault. -/
theorem sampleChannel_sound (h : c.fault = false) (x : Sample) :
    sampleChannel x c =
      match x.value with
      | some v => { c with reading := v, lastGood := v }
      | none => { c with reading := c.lastGood, fault := true, recovery := 0 } := by
  cases x <;> simp [sampleChannel, h, Sample.value, takeReading]

/-- In fault a third good sample is taken. -/
theorem sampleChannel_recovers (h : c.fault = true) (hr : 2 ≤ c.recovery) (v : Int) :
    sampleChannel (.good v) c = { c with reading := v, lastGood := v, fault := false, recovery := 0 } := by
  have h₃ : 3 ≤ c.recovery + 1 := by omega
  simp [sampleChannel, h, h₃, takeReading]

theorem sampleChannel_counts (h : c.fault = true) (hr : c.recovery < 2) (v : Int) :
    sampleChannel (.good v) c = { c with recovery := c.recovery + 1 } := by
  have h₃ : ¬3 ≤ c.recovery + 1 := by omega
  simp [sampleChannel, h, h₃]

theorem sampleChannel_starts_over (h : c.fault = true) {x : Sample} (hx : ∀ v, x ≠ .good v) :
    sampleChannel x c = { c with recovery := 0 } := by
  cases x with
  | good v => exact absurd rfl (hx v)
  | _ => simp [sampleChannel, h]

/-- Whatever the sample, the reading and the last good value are old ones or the sample's value. -/
theorem sampleChannel_values (x : Sample) (c : ChannelRec) :
    ((sampleChannel x c).reading = c.reading ∨ (sampleChannel x c).reading = c.lastGood ∨
      (sampleChannel x c).reading ∈ x.value) ∧
    ((sampleChannel x c).lastGood = c.lastGood ∨ (sampleChannel x c).lastGood ∈ x.value) := by
  cases h : c.fault with
  | false =>
    rw [sampleChannel_sound h]
    cases hx : x.value <;> simp
  | true =>
    cases x with
    | good v =>
      by_cases hr : 2 ≤ c.recovery
      · rw [sampleChannel_recovers h hr]
        simp [Sample.value]
      · rw [sampleChannel_counts h (by omega)]
        simp
    | _ =>
      rw [sampleChannel_starts_over h (by simp)]
      simp

end Channel

/-- Settles O21: by the class of the sample and by the fault flag. -/
theorem sampleIsScaledClampedOrHeld : Obligations.SampleIsScaledClampedOrHeld := by
  intro r amps c hr
  refine ⟨fun hf h₁ h₂ => ?_, fun hf h₁ h₂ => ?_, fun hf h₁ h₂ => ?_, fun hf h => ?_, fun hf h => ?_,
    fun hf h₁ h₂ hrec => ?_, fun hf h₁ h₂ hrec => ?_⟩
  · obtain ⟨hlow, hhigh⟩ := scaled_rounds r amps
    obtain ⟨hlo, hhi⟩ := scaled_within hr.le h₁ h₂
    rw [classify_good h₁ h₂, sampleChannel_sound hf]
    exact ⟨hlow, hhigh, hlo, hhi, rfl, hf⟩
  · rw [classify_clampLow h₁ h₂, sampleChannel_sound hf]
    rfl
  · rw [classify_clampHigh h₁ h₂, sampleChannel_sound hf]
    rfl
  · rw [classify_fault h, sampleChannel_sound hf]
    rfl
  · refine sampleChannel_starts_over hf fun v => ?_
    obtain ⟨h₁, h₂, -⟩ | hc | hc | hc := classify_cases r amps
    · omega
    · simp [hc]
    · simp [hc]
    · simp [hc]
  · rw [classify_good h₁ h₂, sampleChannel_counts hf hrec]
  · rw [classify_good h₁ h₂, sampleChannel_recovers hf hrec, sampleChannel_sound rfl]
    exact ⟨rfl, rfl, rfl⟩

end Sys2Proof.Machine
end

section
/-! The settings within their ranges (R139, R174, R175) after every step. -/

namespace Sys2Proof.Machine

open Sys2Proof

/-! ## One setting written (R175) -/

/-- A written setting reads back. -/
theorem readSetting_putSetting_same (c : WorkingConfig) {k : Setting} {v : Int}
    (h : within (settingRange k).1 (settingRange k).2 v) : readSetting (putSetting c v k) k = v := by
  cases k <;> simp only [settingRange] at h <;> simp only [readSetting, putSetting] <;> omega

/-- Every other setting reads as before. -/
theorem readSetting_putSetting_ne (c : WorkingConfig) (v : Int) {k x : Setting} (h : x ≠ k) :
    readSetting (putSetting c v k) x = readSetting c x := by
  cases k <;> cases x <;> first | rfl | exact absurd rfl h

/-- The configuration but for the settings of items 0x0001 to 0x001B. -/
theorem putSetting_rest (c : WorkingConfig) (v : Int) (k : Setting) :
    (putSetting c v k).factors = c.factors ∧ (putSetting c v k).inUse = c.inUse ∧
      (putSetting c v k).ranges = c.ranges ∧ (putSetting c v k).banks = c.banks ∧
      (putSetting c v k).bindings = c.bindings := by
  cases k <;> exact ⟨rfl, rfl, rfl, rfl, rfl⟩

/-- A written setting that keeps its own pair keeps both. -/
theorem putSetting_pairs {c : WorkingConfig} {v : Int} {k : Setting} (h : pairHolds (putSetting c v k) k = true)
    (hp : c.pressureLow < c.pressureHigh) (hf : c.flareMin ≤ c.flareMax) :
    (putSetting c v k).pressureLow < (putSetting c v k).pressureHigh ∧
      (putSetting c v k).flareMin ≤ (putSetting c v k).flareMax := by
  cases k with
  | pressureHigh | pressureLow => exact ⟨by simpa [pairHolds] using h, hf⟩
  | flareMin | flareMax => exact ⟨hp, by simpa [pairHolds] using h⟩
  | _ => exact ⟨hp, hf⟩

theorem settingRange_ordered (k : Setting) : (settingRange k).1 ≤ (settingRange k).2 := by
  cases k <;> decide

theorem configInRange_putSetting {c : WorkingConfig} (hc : ConfigInRange c) {v : Int} {k : Setting}
    (hv : within (settingRange k).1 (settingRange k).2 v) (h : pairHolds (putSetting c v k) k = true) :
    ConfigInRange (putSetting c v k) := by
  obtain ⟨hset, hp, hf, hfac, hran, hbank⟩ := hc
  obtain ⟨efac, -, eran, ebank, -⟩ := putSetting_rest c v k
  obtain ⟨hp', hf'⟩ := putSetting_pairs h hp hf
  refine ⟨fun x hx => ?_, hp', hf', by rwa [efac], by rwa [eran], by rwa [ebank]⟩
  by_cases hxk : x = k
  · subst hxk
    rwa [readSetting_putSetting_same c hv]
  · rw [readSetting_putSetting_ne c v hxk]
    exact hset x hx

/-! ## Bank writes (R139, R143) -/

section Bank

variable {b : Bank}

theorem rowInRange_clampRow (r : RowRecord) : RowInRange (clampRow r) := by
  have htrim := clampInt_bounds (lo := -5000) (hi := 5000) (by norm_num) r.trim
  have hstep := clampNat_bounds (lo := 1) (hi := 5000) (by norm_num) r.shedStep
  exact ⟨htrim, (clampNat_bounds (Nat.zero_le _) _).2, (clampNat_bounds (Nat.zero_le _) _).2,
    (clampNat_bounds (Nat.zero_le _) _).2, hstep.1, hstep.2⟩

theorem bankInRange_setRow (hb : BankInRange b) (row : Nat) (r : RowRecord) :
    BankInRange (setRow b row (clampRow r)) := by
  obtain ⟨h₁, h₂, h₃, h₄, h₅, hrows, hfall, hranks⟩ := hb
  unfold setRow
  split
  · refine ⟨h₁, h₂, h₃, h₄, h₅, fun n => ?_, hfall, hranks⟩
    rw [Tab.get_set]
    split
    · exact rowInRange_clampRow r
    · exact hrows n
  · exact ⟨h₁, h₂, h₃, h₄, h₅, hrows, rowInRange_clampRow r, hranks⟩

theorem bankInRange_setRank (hb : BankInRange b) (c : Slot) (rank : Nat) :
    BankInRange { b with ranks := b.ranks.set c (clampNat 1 8 rank) } := by
  obtain ⟨h₁, h₂, h₃, h₄, h₅, hrows, hfall, hranks⟩ := hb
  refine ⟨h₁, h₂, h₃, h₄, h₅, hrows, hfall, fun d => ?_⟩
  rw [Tab.get_set]
  split
  · exact clampNat_bounds (by norm_num) rank
  · exact hranks d

theorem bankInRange_writeGeometry (hb : BankInRange b) (which : Geometry) (value : Int) :
    BankInRange (writeGeometry which value b).1 := by
  obtain ⟨h₁, h₂, h₃, h₄, h₅, hrest⟩ := hb
  cases which with
  | count =>
    have hn := clampInt_bounds (lo := 1) (hi := 16) (by norm_num) value
    refine ⟨?_, ?_, h₃, h₄, h₅, hrest⟩ <;> simp only [writeGeometry] <;> omega
  | width =>
    have hw := clampInt_bounds (lo := 10) (hi := 250) (by norm_num) value
    refine ⟨h₁, h₂, ?_, ?_, Nat.min_le_right _ _, hrest⟩ <;> simp only [writeGeometry] <;> omega
  | hysteresis =>
    have hh := clampInt_bounds (lo := 0) (hi := ((b.width / 2 : Nat) : Int)) (by omega) value
    refine ⟨h₁, h₂, h₃, h₄, ?_, hrest⟩
    simp only [writeGeometry]
    omega

end Bank

/-! ## The configurations after every command -/

theorem defaultConfig_inRange : ConfigInRange defaultConfig := by decide +kernel

section Config

variable {s t : State}

theorem SettingsInRange.of_touches {bs : List Block} (hs : SettingsInRange s) (h : TouchesOnly bs s t)
    (hb : decide (Block.config ∉ bs ∧ Block.store ∉ bs) = true) :
    SettingsInRange t := by
  have hconfig : t.config = s.config := h .config (of_decide_eq_true hb).1
  have hstore : t.store = s.store := h .store (of_decide_eq_true hb).2
  unfold SettingsInRange
  rwa [hconfig, hstore]

theorem settingsInRange_writeBank {bank : Nat} {known : Bank → Bool} {write : Bank → Bank × Bool}
    (hw : ∀ b, BankInRange b → BankInRange (write b).1) (hs : SettingsInRange s) :
    SettingsInRange (writeBank bank known write s).state := by
  cases h : bankOf bank with
  | none =>
    simp only [writeBank, h, apply_ite Served.state, ite_self]
    exact hs
  | some b =>
    simp only [writeBank, h, apply_ite Served.state]
    split_ifs
    · exact hs
    · exact hs
    · exact hs
    · exact hs
    · obtain ⟨⟨hset, hp, hf, hfac, hran, hbank⟩, hstored⟩ := hs
      refine ⟨⟨hset, hp, hf, hfac, hran, fun d => ?_⟩, hstored⟩
      rw [Tab.get_set]
      split
      · exact hw _ (hbank b)
      · exact hbank d

theorem settingsInRange_serveSetRank (bank slot rank : Nat) (hs : SettingsInRange s) :
    SettingsInRange (serveSetRank bank slot rank s).state := by
  refine settingsInRange_writeBank (fun b hb => ?_) hs
  split
  · exact bankInRange_setRank hb _ _
  · exact hb

theorem settingsInRange_serveBinding (number : Nat) (value : Int) (hs : SettingsInRange s) :
    SettingsInRange (serveBinding number value s).state := by
  simp only [serveBinding, apply_ite Served.state]
  split
  · exact hs
  · split
    · exact hs
    · exact hs

/-- A channel's range with its lower or its upper end written (R11). -/
def rangeWith (r : Range) (high : Bool) (v : Int) : Range := if high then { r with hi := v } else { r with lo := v }

/-- A CONFIGURE of a range, the end clamped to the quantity's range. -/
theorem serveRange_eq (a : Channel) (high : Bool) (value : Int) (s : State) :
    serveRange a high value s =
      let v := clampInt (fullRanges.get a).lo (fullRanges.get a).hi value
      let new := rangeWith (s.config.ranges.get a) high v
      if new.lo < new.hi then
        { state := { s with config := { s.config with ranges := s.config.ranges.set a new } }
          status := doneOr (v ≠ value) }
      else { state := s, status := .refusedState } := rfl

/-- Either end written within the quantity's range leaves the range within it. -/
theorem rangeWith_inRange {full r : Range} {high : Bool} {v : Int} (hv : within full.lo full.hi v)
    (hr : full.lo ≤ r.lo ∧ r.lo < r.hi ∧ r.hi ≤ full.hi) (hlt : (rangeWith r high v).lo < (rangeWith r high v).hi) :
    full.lo ≤ (rangeWith r high v).lo ∧ (rangeWith r high v).lo < (rangeWith r high v).hi ∧
      (rangeWith r high v).hi ≤ full.hi := by
  refine ⟨?_, hlt, ?_⟩
  · cases high
    · exact hv.1
    · exact hr.1
  · cases high
    · exact hr.2.2
    · exact hv.2

theorem settingsInRange_serveRange (a : Channel) (high : Bool) (value : Int) (hs : SettingsInRange s) :
    SettingsInRange (serveRange a high value s).state := by
  simp only [serveRange_eq, apply_ite Served.state]
  split
  · next hlt =>
    obtain ⟨⟨hset, hp, hf, hfac, hran, hbank⟩, hstored⟩ := hs
    refine ⟨⟨hset, hp, hf, hfac, fun d => ?_, hbank⟩, hstored⟩
    simp only [Tab.get_set]
    split
    · next e =>
      subst e
      have hfull : (fullRanges.get d).lo ≤ (fullRanges.get d).hi := by
        have := hran d
        omega
      exact rangeWith_inRange (clampInt_bounds hfull value) (hran d) hlt
    · exact hran d
  · exact hs

theorem settingsInRange_serveItem (i : Item) (value : Int) (hs : SettingsInRange s) :
    SettingsInRange (serveItem i value s).state := by
  cases i with
  | setting k =>
    refine serveSetting_keeps (s := s) hs fun v hv hpair _ => ?_
    have hwritten : SettingsInRange { s with config := putSetting s.config v k } :=
      ⟨configInRange_putSetting hs.1 (hv ▸ clampInt_bounds (settingRange_ordered k) value) hpair, hs.2⟩
    exact hwritten.of_touches (touches_settingEffect _ k) rfl
  | factor m =>
    obtain ⟨⟨hset, hp, hf, hfac, hran, hbank⟩, hstored⟩ := hs
    refine ⟨⟨hset, hp, hf, fun d => ?_, hran, hbank⟩, hstored⟩
    have hv := clampInt_bounds (lo := 1) (hi := 100000) (by norm_num) value
    simp only [serveItem, serveFactor, Tab.get_set]
    split
    · omega
    · exact hfac d
  | inUse l =>
    simp only [serveItem, serveInUse, apply_ite Served.state]
    split_ifs <;> exact hs
  | range a high => exact settingsInRange_serveRange a high value hs

theorem settingsInRange_serveConfigure (item : Nat) (value : Int) (hs : SettingsInRange s) :
    SettingsInRange (serveConfigure item value s).state :=
  serveConfigure_keeps hs
    (fun _ which => settingsInRange_writeBank (fun _ hb => bankInRange_writeGeometry hb which value) hs)
    (fun number => settingsInRange_serveBinding number value hs) fun i => settingsInRange_serveItem i value hs

theorem settingsInRange_loadConfig (configAgrees : Bool) (hs : SettingsInRange s) :
    SettingsInRange (loadConfig configAgrees s) := by
  refine ⟨?_, hs.2⟩
  simp only [loadConfig]
  split
  · exact hs.2
  · exact defaultConfig_inRange

theorem settingsInRange_exec {i : Instr} (hs : SettingsInRange s) (h : exec i s = .next t) : SettingsInRange t := by
  have answered (u v : State) (hv : TouchesOnly answerBlocks u v) (hu : SettingsInRange u) : SettingsInRange v :=
    hu.of_touches hv rfl
  cases i with
  | powerFail => cases h; exact hs
  | powerOnStart amps cellLow totalsAgree configAgrees =>
    cases h
    have hloaded : SettingsInRange { loadConfig configAgrees s with supplied := true } :=
      settingsInRange_loadConfig configAgrees hs
    exact hloaded.of_touches (((touches_setLastGood _).andThen (touches_judgeTotals _ _ _)).andThen
      (touches_start _ _)) rfl
  | writeRow l bank row r =>
    exact request_keeps answered h hs (settingsInRange_writeBank (fun b hb => bankInRange_setRow hb row r) hs)
  | setRank l bank slot rank => exact request_keeps answered h hs (settingsInRange_serveSetRank bank slot rank hs)
  | configureBandGeometry l bank which value =>
    exact request_keeps answered h hs
      (settingsInRange_writeBank (fun _ hb => bankInRange_writeGeometry hb which value) hs)
  | configureEventBinding l number value =>
    exact request_keeps answered h hs (settingsInRange_serveBinding number value hs)
  | configure l item value => exact request_keeps answered h hs (settingsInRange_serveConfigure item value hs)
  | saveConfig l =>
    refine request_keeps answered h hs ?_
    simp only [serveSaveConfig, apply_ite Served.state]
    split
    · exact hs
    · exact ⟨hs.1, hs.1⟩
  | saveEnd =>
    refine event_keeps h hs ?_
    split <;> exact hs
  | _ => exact hs.of_touches (exec_touches h) rfl

theorem settingsInRange_step (hs : SettingsInRange s) (h : step s = .next t) : SettingsInRange t :=
  step_keeps (P := SettingsInRange) (fun _ _ _ h => h) (fun _ _ _ => settingsInRange_exec)
    (fun s hs => by
      obtain ⟨-, ht⟩ | ⟨-, ht⟩ := tick_cases s
      · rw [ht]; exact hs
      · rw [ht]; exact hs) hs h

end Config

end Sys2Proof.Machine
end

section
/-! The consumer requests and the timers of a claim, by its state (R61 to R68). -/

namespace Sys2Proof.Machine

open Sys2Proof

/-! ## Statuses and records -/

/-- CLAMPED exactly where a value was clamped (R158). -/
theorem doneOr_ne {α : Type} [DecidableEq α] (a b : α) :
    doneOr (decide (a ≠ b)) = if a = b then .done else .clamped := by
  by_cases h : a = b <;> simp [doneOr, h]

/-- A change that writes no epoch moves it where a counted field differs (R59). -/
theorem commit_eq {old new : Claim} {p : Prop} [Decidable p] (h : new.epoch = old.epoch)
    (hp : sameCounted old new = true ↔ p) :
    commit old new = { new with epoch := if p then old.epoch else wrapSucc 65535 old.epoch } := by
  by_cases hold : p
  · simp [commit, hp.mpr hold, hold, ← h]
  · have hs : sameCounted old new = false := by simpa [hold] using hp
    simp [commit, hs, hold]

theorem registerLimits_eq (m x u : Nat) :
    registerLimits m x u =
      { m := Nat.min m (if x < 1 then 1 else if 5000 < x then 5000 else x)
        x := if x < 1 then 1 else if 5000 < x then 5000 else x
        u := if u < 1 then 1 else if 1000 < u then 1000 else u } := by
  simp only [registerLimits, clampNat_zero]
  rfl

/-- A claim that stands is WAITING or LOCKED. -/
theorem standAt_state (r : Nat) (cl : Claim) : (standAt r cl).state = .waiting ∨ (standAt r cl).state = .locked := by
  cases h : cl.locks.empty <;> simp [standAt, h]

/-! ## Frames -/

/-- A change of one claim and of alert records that are no METER_STALL, followed by the meter stage. -/
theorem claimFrame_followed {c : Slot} {as : List Alert} {s t : State} (hc : ClaimsSameBut c s t)
    (ha : AlertsSameBut as s t) (has : ∀ m, Alert.meterStall m ∉ as) (hm : t.meters = s.meters)
    (hrest : { t with claims := s.claims, stack := s.stack, meters := s.meters, alerts := s.alerts
                      ports := s.ports } = s) :
    ClaimFrame c (as ++ [.meterStall (slotMeter c)]) s (followFlow s t) := by
  have hi : t.config.inUse = s.config.inUse := congrArg (·.config.inUse) hrest
  have hf : t.flare.state = s.flare.state := congrArg (·.flare.state) hrest
  have hflow : ∀ m, m ≠ slotMeter c → flowExpected t m = flowExpected s m :=
    fun _ => flowExpected_ne_slotMeter hi hc hf
  have hmeters : MetersSameBut (slotMeter c) s (followFlow s t) :=
    fun m h => by rw [followFlow_meter (hflow m h), hm]
  have hfollowed : FlowFollowed s (followFlow s t) :=
    followFlow_flowFollowed hm fun m => alertState_of_sameBut ha (has m)
  exact ⟨hc, hmeters, hfollowed, followFlow_alertsSameBut ha hflow, hrest⟩

/-- An answer touches its own port alone, whatever the request has changed. -/
theorem portsSameBut_answered {l : Link} {s t : State} (h : t.ports = s.ports) (code : Nat) (st : Status)
    (figures : List Byte) : PortsSameBut l s (respond l code st figures t) := fun k hk => by
  rw [respond_ports_same_but l code st figures t k hk, h]

/-- The stack and the claims are not the meter stage's, nor the answer's. -/
theorem claimFrame_respond {c : Slot} {as : List Alert} {s t : State} (h : ClaimFrame c as s t) (l : Link)
    (code : Nat) (st : Status) (figures : List Byte) : ClaimFrame c as s (respond l code st figures t) := h

/-- The end of a record is judged by the register alone. -/
theorem alertEnded_of_alerts {a : Alert} {s u t : State} (hu : u.alerts = s.alerts) (h : AlertEnded a u t) :
    AlertEnded a s t := by
  have he : alertState a u = alertState a s := congrArg (·.get (alertNumber a)) hu
  rwa [AlertEnded, ← he]

/-- So is what the other records read as. -/
theorem alertsSameBut_of_alerts {as : List Alert} {s u t : State} (hu : u.alerts = s.alerts)
    (h : AlertsSameBut as u t) : AlertsSameBut as s t := fun n hn => (h n hn).trans (congrArg (·.get n) hu)

/-- Neither the meter stage nor the answer touches the record of a claim. -/
theorem alertEnded_followed {a : Alert} {s t : State} (ha : ∀ m, a ≠ .meterStall m) (h : AlertEnded a s t) (l : Link)
    (code : Nat) (st : Status) (figures : List Byte) : AlertEnded a s (respond l code st figures (followFlow s t)) :=
  (followFlow_alertState ha s t).trans h

/-! ## A consumer request by what its block makes of it -/

section Served

variable {i : Instr} {l : Link} {c : Slot} {code : Nat} {serve : Slot → State → Served} {s u : State} {st : Status}
  {f : Claim → Claim}

/-- The block does nothing. -/
theorem consumer_unchanged (hi : exec i s = consumerRequest l code serve s) (hl : linkSlot l = some c)
    (hs : s.supplied = true) (hcode : 0x10 ≤ code ∧ code ≤ 0x14) (hv : serve c s = { state := s, status := st }) :
    AnsweredUnchanged i l st s := by
  refine ⟨respond l code st [] s, ?_, answerStatus_respond .., portsSameBut_answered (by simp) _ _ _, rfl⟩
  rw [hi, consumerRequest_flow_kept hs hl hcode.1 hcode.2 (by simp [hv]), hv]

/-- The block changes the claim alone, and the claim draws gas as before. -/
theorem consumer_changes (hi : exec i s = consumerRequest l code serve s) (hl : linkSlot l = some c)
    (hs : s.supplied = true) (hcode : 0x10 ≤ code ∧ code ≤ 0x14)
    (hv : serve c s = { state := changeClaim c f s, status := st })
    (hd : draws (f (s.claims.get c)) = draws (s.claims.get c)) :
    ∃ t, exec i s = .next t ∧ answerStatus l t = some st ∧ PortsSameBut l s t ∧ ClaimsSameBut c s t ∧
      t.claims.get c = commit (s.claims.get c) (f (s.claims.get c)) ∧
      { t with claims := s.claims, ports := s.ports } = s := by
  refine ⟨respond l code st [] (changeClaim c f s), ?_, answerStatus_respond .., portsSameBut_answered (by simp) _ _ _,
    changeClaim_same_but c f s, changeClaim_get_same c f s, rfl⟩
  rw [hi, consumerRequest_flow_kept hs hl hcode.1 hcode.2 (by simp only [hv]; exact flowExpected_changeClaim hd), hv]

/-- The block changes the claim out of LAPSED and ends its LAPSE record. -/
theorem consumer_changes_lapsed (hi : exec i s = consumerRequest l code serve s) (hl : linkSlot l = some c)
    (hs : s.supplied = true) (hcode : 0x10 ≤ code ∧ code ≤ 0x14)
    (hv : serve c s = { state := lower (.lapse c) (changeClaim c f s), status := st })
    (hd : draws (f (s.claims.get c)) = draws (s.claims.get c)) :
    ∃ t, exec i s = .next t ∧ answerStatus l t = some st ∧ PortsSameBut l s t ∧ ClaimsSameBut c s t ∧
      t.claims.get c = commit (s.claims.get c) (f (s.claims.get c)) ∧
      AlertEnded (.lapse c) s t ∧ AlertsSameBut [.lapse c] s t ∧
      { t with claims := s.claims, alerts := s.alerts, ports := s.ports } = s := by
  refine ⟨respond l code st [] (lower (.lapse c) (changeClaim c f s)), ?_, answerStatus_respond ..,
    portsSameBut_answered (by simp) _ _ _, changeClaim_same_but c f s, changeClaim_get_same c f s,
    alertEnded_lower (.lapse c) s, lower_same_but (.lapse c) s, rfl⟩
  rw [hi, consumerRequest_flow_kept hs hl hcode.1 hcode.2 (by simp only [hv]; exact flowExpected_changeClaim hd), hv]

/-- The block leaves a state that the meter stage follows: the claim and alert records that are no METER_STALL have
moved, with the records of the slot on the stack. -/
theorem consumer_follows {as : List Alert} (hi : exec i s = consumerRequest l code serve s) (hl : linkSlot l = some c)
    (hs : s.supplied = true) (hcode : 0x10 ≤ code ∧ code ≤ 0x14) (hv : serve c s = { state := u, status := st })
    (hc : ClaimsSameBut c s u) (ha : AlertsSameBut as s u) (has : ∀ m, Alert.meterStall m ∉ as)
    (hu : TouchesOnly [.claims, .stack, .alerts] s u) :
    ∃ t, exec i s = .next t ∧ answerStatus l t = some st ∧ PortsSameBut l s t ∧ t.claims = u.claims ∧
      t.stack = u.stack ∧ (∀ a, (∀ m, a ≠ .meterStall m) → alertState a t = alertState a u) ∧
      ClaimFrame c (as ++ [.meterStall (slotMeter c)]) s t := by
  have hm : u.meters = s.meters := hu.same .meters rfl
  have hp : u.ports = s.ports := hu.same .ports rfl
  have hrest : restore [.claims, .stack, .meters, .alerts, .ports] s u = s := (hu.weaken rfl).restored
  refine ⟨respond l code st [] (followFlow s u), ?_, answerStatus_respond .., portsSameBut_answered (by simpa using hp) _ _ _,
    by simp, by simp, fun a h => followFlow_alertState h s u, claimFrame_followed hc ha has hm hrest⟩
  rw [hi, consumerRequest_served _ hs hl hcode.1 hcode.2, hv]

end Served

section Serving

variable {l : Link} {c : Slot} {s : State}

/-! ## REGISTER (R63) -/

/-- The parameters replaced. -/
def limited (lim : Limits) (cl : Claim) : Claim := { cl with limits := some lim }

theorem serveRegister_idle (m x u : Nat) (h : (s.claims.get c).state = .idle) :
    serveRegister m x u c s =
      { state := changeClaim c (limited (registerLimits m x u)) s
        status := doneOr (registerLimits m x u ≠ ⟨m, x, u⟩) } := by
  simp only [serveRegister, h]
  rfl

theorem serveRegister_vacant (m x u : Nat) (h : (s.claims.get c).state = .vacant) :
    serveRegister m x u c s =
      { state := changeClaim c (reopen ∘ limited (registerLimits m x u)) s
        status := doneOr (registerLimits m x u ≠ ⟨m, x, u⟩) } := by
  simp only [serveRegister, h]
  rfl

theorem serveRegister_lapsed (m x u : Nat) (h : (s.claims.get c).state = .lapsed) :
    serveRegister m x u c s =
      { state := lower (.lapse c) (changeClaim c (reopen ∘ limited (registerLimits m x u)) s)
        status := doneOr (registerLimits m x u ≠ ⟨m, x, u⟩) } := by
  simp only [serveRegister, h]
  rfl

theorem commit_limited (cl : Claim) (lim : Limits) :
    commit cl (limited lim cl) =
      { cl with limits := some lim
                epoch := if cl.limits = some lim then cl.epoch else wrapSucc 65535 cl.epoch } := by
  exact commit_eq rfl (by simp [sameCounted_iff, limited])

/-- REGISTER opens a claim out of VACANT or LAPSED. -/
theorem commit_reopen_limited {cl : Claim} (h : cl.state = .vacant ∨ cl.state = .lapsed) (lim : Limits) :
    commit cl (reopen (limited lim cl)) =
      { cl with
        state := if cl.locks.empty then .idle else .locked
        limits := some lim, request := none, standing := false, soft := false, allotment := 0, start := none
        lease := if cl.locks.empty then none else some 0
        epoch := wrapSucc 65535 cl.epoch } := by
  have hne : cl.state ≠ (reopen (limited lim cl)).state := by
    obtain e | e := reopen_state (limited lim cl) <;> obtain h | h := h <;> rw [e, h] <;> decide
  rw [commit_of_state_ne hne, reopen_eq]
  rfl

theorem draws_reopen (cl : Claim) : draws (reopen cl) = false := by
  obtain e | e := reopen_state cl <;> exact draws_of_not_running (by simp [e])

end Serving

/-- Settles O28: the rows of R63. -/
theorem registerServedByState : Obligations.RegisterServedByState := by
  intro l c m x u s hl hs old x' lim st
  have hi : exec (.register l m x u) s = consumerRequest l 0x10 (serveRegister m x u) s := rfl
  have hlim : registerLimits m x u = lim := registerLimits_eq m x u
  have hst : doneOr (decide (registerLimits m x u ≠ ⟨m, x, u⟩)) = st := by rw [hlim]; exact doneOr_ne ..
  have hdraws (h : old.state = .vacant ∨ old.state = .lapsed) :
      draws ((reopen ∘ limited (registerLimits m x u)) old) = draws old := by
    rw [Function.comp, draws_reopen, draws_of_not_running (by obtain h | h := h <;> simp [h])]
  refine ⟨fun h => ?refused, fun h => ?idle, fun h => ?opens⟩
  case refused =>
    refine consumer_unchanged hi hl hs (by decide) ?_
    obtain h | h | h | h | h := h <;> simp [serveRegister, old, h]
  case idle =>
    rw [← commit_limited, ← hlim, ← hst]
    exact consumer_changes hi hl hs (by decide) (serveRegister_idle m x u h) rfl
  case opens =>
    rw [← commit_reopen_limited h, ← hlim, ← hst]
    obtain hv | hv := id h
    · obtain ⟨t, ht, ha, hp, hc, hg, hr⟩ :=
        consumer_changes hi hl hs (by decide) (serveRegister_vacant m x u hv) (hdraws h)
      have halerts : t.alerts = s.alerts := congrArg (·.alerts) hr
      refine ⟨t, ht, ha, hp, hc, hg, fun _ => halerts, fun e => ?_, fun n _ => congrArg (·.get n) halerts, ?_⟩
      · exact absurd (hv.symm.trans e) (by decide)
      · rw [← halerts]; exact hr
    · obtain ⟨t, ht, ha, hp, hc, hg, he, hb, hr⟩ :=
        consumer_changes_lapsed hi hl hs (by decide) (serveRegister_lapsed m x u hv) (hdraws h)
      exact ⟨t, ht, ha, hp, hc, hg, fun e => absurd (hv.symm.trans e) (by decide), fun _ => he, hb, hr⟩

/-! ## CLAIM (R64) -/

/-- A claim that stands, where it is, at a rate. -/
def stands (r : Nat) (cl : Claim) : Claim := { cl with request := some r, standing := true }

section Claim

variable {c : Slot} {s : State}

theorem serveClaim_idle (r : Nat) (h : (s.claims.get c).state = .idle) :
    serveClaim r c s =
      { state := changeClaim c (standAt (clampRequest (s.claims.get c) r)) s
        status := doneOr (clampRequest (s.claims.get c) r ≠ r) } := by
  simp only [serveClaim, h]

theorem serveClaim_lapsed (r : Nat) (h : (s.claims.get c).state = .lapsed) :
    serveClaim r c s =
      { state := lower (.lapse c) (changeClaim c (standAt (clampRequest (s.claims.get c) r)) s)
        status := doneOr (clampRequest (s.claims.get c) r ≠ r) } := by
  simp only [serveClaim, h]

theorem serveClaim_locked (r : Nat) (h : (s.claims.get c).state = .locked) (hst : (s.claims.get c).standing = false) :
    serveClaim r c s =
      { state := changeClaim c (stands (clampRequest (s.claims.get c) r)) s
        status := doneOr (clampRequest (s.claims.get c) r ≠ r) } := by
  simp only [serveClaim, h, hst]
  rfl

theorem commit_stands {cl : Claim} (h : cl.standing = false) (r : Nat) :
    commit cl (stands r cl) =
      { cl with request := some r, standing := true, epoch := wrapSucc 65535 cl.epoch } := by
  simp [commit, sameCounted, stands, h]

theorem commit_standAt {cl : Claim} (h : cl.state = .idle ∨ cl.state = .lapsed) (r : Nat) :
    commit cl (standAt r cl) =
      { cl with state := if cl.locks.empty then .waiting else .locked
                request := some r, standing := true, lease := some 0
                epoch := wrapSucc 65535 cl.epoch } := by
  refine commit_of_state_ne ?_
  obtain e | e := standAt_state r cl <;> obtain h | h := h <;> rw [e, h] <;> decide

theorem draws_standAt (r : Nat) (cl : Claim) : draws (standAt r cl) = false := by
  obtain e | e := standAt_state r cl <;> exact draws_of_not_running (by simp [e])

end Claim

/-- Settles O29: the rows of R64 for CLAIM. -/
theorem claimServedByState : Obligations.ClaimServedByState := by
  intro l c r s hl hs old r' st
  have hi : exec (.claim l r) s = consumerRequest l 0x11 (serveClaim r) s := rfl
  have hst : doneOr (decide (r' ≠ r)) = st := doneOr_ne ..
  rw [← hst]
  refine ⟨fun h => ?vacant, fun h => ?refused, fun h hf => ?locked, fun h => ?taken⟩
  case vacant => exact consumer_unchanged hi hl hs (by decide) (by simp [serveClaim, old, h])
  case refused =>
    refine consumer_unchanged hi hl hs (by decide) ?_
    obtain h | h | h | h | ⟨h, hf⟩ := h
    case' inr.inr.inr.inr => simp [serveClaim, old, h, hf]
    all_goals simp [serveClaim, old, h]
  case locked =>
    rw [← commit_stands hf]
    refine consumer_changes hi hl hs (by decide) (serveClaim_locked r h hf) ?_
    have hold : old.state ≠ .running := by simp [h]
    exact (draws_of_not_running hold).trans (draws_of_not_running hold).symm
  case taken =>
    rw [← commit_standAt h]
    have hdraws : draws (standAt r' old) = draws old := by
      rw [draws_standAt, draws_of_not_running (by obtain h | h := h <;> simp [h])]
    obtain hv | hv := id h
    · obtain ⟨t, ht, ha, hp, hc, hg, hr⟩ := consumer_changes hi hl hs (by decide) (serveClaim_idle r hv) hdraws
      have halerts : t.alerts = s.alerts := congrArg (·.alerts) hr
      refine ⟨t, ht, ha, hp, hc, hg, fun _ => halerts, fun e => ?_, fun n _ => congrArg (·.get n) halerts, ?_⟩
      · exact absurd (hv.symm.trans e) (by decide)
      · rw [← halerts]; exact hr
    · obtain ⟨t, ht, ha, hp, hc, hg, he, hb, hr⟩ :=
        consumer_changes_lapsed hi hl hs (by decide) (serveClaim_lapsed r hv) hdraws
      exact ⟨t, ht, ha, hp, hc, hg, fun e => absurd (hv.symm.trans e) (by decide), fun _ => he, hb, hr⟩

/-! ## AMEND (R64) -/

section Amend

variable {c : Slot} {s : State}

/-- The rate replaced. -/
def rerated (r : Nat) (cl : Claim) : Claim := { cl with request := some r }

/-- An AMEND of a claim that is given gas: its allotment falls to the new rate. -/
def amendHeld (r : Nat) (cl : Claim) : Claim := { amendTo r cl with allotment := Nat.min cl.allotment r }

/-- An AMEND of a SHED claim with `n` records on the stack. -/
def amendShed (r n : Nat) (cl : Claim) : Claim := { amendTo r cl with state := if n = 0 then .waiting else .shed }

theorem serveAmend_waiting (r : Nat)
    (h : (s.claims.get c).state = .waiting ∨
      (s.claims.get c).state = .locked ∧ (s.claims.get c).standing = true) :
    serveAmend r c s =
      { state := changeClaim c (rerated (clampRequest (s.claims.get c) r)) s
        status := doneOr (clampRequest (s.claims.get c) r ≠ r) } := by
  obtain h | ⟨h, hst⟩ := h
  · simp only [serveAmend, h]
    rfl
  · simp only [serveAmend, h, hst]
    rfl

theorem serveAmend_held (r : Nat)
    (h : (s.claims.get c).state = .admitted ∨ (s.claims.get c).state = .running) :
    serveAmend r c s =
      { state := changeClaim c (amendHeld (clampRequest (s.claims.get c) r)) s
        status := doneOr (clampRequest (s.claims.get c) r ≠ r) } := by
  obtain h | h := h
  all_goals
    simp only [serveAmend, h]
    rfl

theorem serveAmend_shed (r : Nat) (h : (s.claims.get c).state = .shed) :
    serveAmend r c s =
      { state := changeClaim c (amendShed (clampRequest (s.claims.get c) r) (slotCount c s.stack.records)) s
        status := doneOr (clampRequest (s.claims.get c) r ≠ r) } := by
  simp only [serveAmend, h]
  rfl

theorem commit_rerated (cl : Claim) (r : Nat) :
    commit cl (rerated r cl) =
      { cl with request := some r
                epoch := if cl.request = some r then cl.epoch else wrapSucc 65535 cl.epoch } := by
  exact commit_eq rfl (by simp [sameCounted_iff, rerated])

theorem commit_amendHeld (cl : Claim) (r : Nat) :
    commit cl (amendHeld r cl) =
      { cl with
        request := some r, orphaned := 0, withheld := cl.withheld - cl.orphaned
        allotment := Nat.min cl.allotment r
        epoch := if cl.request = some r ∧ cl.orphaned = 0 ∧ cl.allotment ≤ r then cl.epoch
                 else wrapSucc 65535 cl.epoch } := by
  have hmin : cl.allotment = min cl.allotment r ↔ cl.allotment ≤ r := eq_comm.trans min_eq_left_iff
  exact commit_eq rfl (by simp [sameCounted_iff, amendHeld, amendTo, hmin])

theorem commit_amendShed {cl : Claim} (h : cl.state = .shed) (r n : Nat) :
    commit cl (amendShed r n cl) =
      { cl with
        state := if n = 0 then .waiting else .shed
        request := some r, orphaned := 0, withheld := cl.withheld - cl.orphaned
        epoch := if cl.request = some r ∧ cl.orphaned = 0 ∧ n ≠ 0 then cl.epoch
                 else wrapSucc 65535 cl.epoch } := by
  refine commit_eq rfl ?_
  by_cases hn : n = 0 <;> simp [sameCounted_iff, amendShed, amendTo, h, hn]

theorem amendShed_state (cl : Claim) (r n : Nat) :
    (amendShed r n cl).state = .waiting ∨ (amendShed r n cl).state = .shed := by
  by_cases h : n = 0 <;> simp [amendShed, h]

end Amend

/-- Settles O30: the rows of R64 for AMEND. -/
theorem amendServedByState : Obligations.AmendServedByState := by
  intro l c r s hl hs old r' st
  have hi : exec (.amend l r) s = consumerRequest l 0x12 (serveAmend r) s := rfl
  have hst : doneOr (decide (r' ≠ r)) = st := doneOr_ne ..
  rw [← hst]
  refine ⟨fun h => ?vacant, fun h => ?refused, fun h => ?waiting, fun h => ?held, fun h => ?shed⟩
  case vacant => exact consumer_unchanged hi hl hs (by decide) (by simp [serveAmend, old, h])
  case refused =>
    refine consumer_unchanged hi hl hs (by decide) ?_
    obtain h | h | ⟨h, hf⟩ := h
    case' inr.inr => simp [serveAmend, old, h, hf]
    all_goals simp [serveAmend, old, h]
  case waiting =>
    rw [← commit_rerated]
    exact consumer_changes hi hl hs (by decide) (serveAmend_waiting r h) rfl
  case held =>
    rw [← commit_amendHeld]
    obtain ⟨t, ht, hans, hp, hclaims, hstack, -, hframe⟩ := consumer_follows (as := []) hi hl hs (by decide)
      (serveAmend_held r h) (changeClaim_same_but c _ s) (fun _ _ => rfl) (by simp)
      ((touches_changeClaim s c _).weaken rfl)
    exact ⟨t, ht, hans, hp, by rw [hclaims]; exact changeClaim_get_same c _ s, hstack, hframe⟩
  case shed =>
    rw [← commit_amendShed h]
    refine consumer_changes hi hl hs (by decide) (serveAmend_shed r h) ?_
    have hold : old.state ≠ .running := by simp [h]
    have hnew : (amendShed r' (slotCount c s.stack.records) old).state ≠ .running := by
      obtain e | e := amendShed_state old r' (slotCount c s.stack.records) <;> simp [e]
    exact (draws_of_not_running hnew).trans (draws_of_not_running hold).symm

/-! ## REPORT (R65) -/

section Report

variable {c : Slot} {s : State}

/-- The rate recorded. -/
def rated (rate : Nat) (cl : Claim) : Claim := { cl with lastRate := rate }

/-- A start reported: RUNNING, START_FAIL and TRIP ended. -/
def started (c : Slot) (rate : Nat) (s : State) : State :=
  lower (.trip c) (lower (.startFail c) (changeClaim c toRunning (changeClaim c (rated rate) s)))

/-- A stop reported: a trip. -/
def tripped (c : Slot) (rate : Nat) (s : State) : State :=
  raise (.trip c) (changePurging c toIdle (changeClaim c (rated rate) s))

theorem changeClaim_rated_get (rate : Nat) :
    (changeClaim c (rated rate) s).claims.get c = rated rate (s.claims.get c) := by
  rw [changeClaim_get_same]
  exact commit_lastRate _ _

theorem serveReport_runs (rate : Nat) (h : (s.claims.get c).state = .admitted) :
    serveReport true rate c s =
      { state := started c (clampNat 0 5000 rate) s
        status := doneOr (clampNat 0 5000 rate ≠ rate) } := by
  simp only [serveReport, h]
  rfl

theorem serveReport_trips (rate : Nat) (h : (s.claims.get c).state = .running) :
    serveReport false rate c s =
      { state := tripped c (clampNat 0 5000 rate) s
        status := doneOr (clampNat 0 5000 rate ≠ rate) } := by
  simp only [serveReport, h]
  rfl

theorem serveReport_records {running : Bool} (rate : Nat) (hv : (s.claims.get c).state ≠ .vacant)
    (ha : ¬((s.claims.get c).state = .admitted ∧ running = true))
    (hr : ¬((s.claims.get c).state = .running ∧ running = false)) :
    serveReport running rate c s =
      { state := changeClaim c (rated (clampNat 0 5000 rate)) s
        status := doneOr (clampNat 0 5000 rate ≠ rate) } := by
  cases h : (s.claims.get c).state with
  | vacant => exact absurd h hv
  | admitted =>
    obtain rfl : running = false := by simpa [h] using ha
    simp only [serveReport, h]
    rfl
  | running =>
    obtain rfl : running = true := by simpa [h] using hr
    simp only [serveReport, h]
    rfl
  | idle | waiting | shed | locked | lapsed =>
    simp only [serveReport, h]
    rfl

/-- The accounts of R58 do not read the rate. -/
theorem withheldAccounted_rated (hw : WithheldAccounted s) (rate : Nat) :
    WithheldAccounted (changeClaim c (rated rate) s) := by
  intro d
  by_cases hd : d = c
  · subst hd
    rw [changeClaim_rated_get]
    exact hw d
  · rw [changeClaim_same_but c _ s d hd]
    exact hw d

/-- The two ends of a start: the records of a START_FAIL and a TRIP. -/
theorem lowers_sameBut (s : State) (a b : Alert) : AlertsSameBut [a, b] s (lower b (lower a s)) := fun n hn => by
  simp only [List.map_cons, List.map_nil, List.mem_cons, List.not_mem_nil, or_false, not_or] at hn
  rw [lower_same_but b _ n (by simpa using hn.2), lower_same_but a s n (by simpa using hn.1)]

theorem alertEnded_lower_inner {a b : Alert} (h : a ≠ b) (s : State) : AlertEnded a s (lower b (lower a s)) := by
  rw [AlertEnded, alertState_of_sameBut (lower_same_but b _) (by simpa using h)]
  exact alertEnded_lower a s

theorem alertEnded_lower_outer {a b : Alert} (h : b ≠ a) (s : State) : AlertEnded b s (lower b (lower a s)) := by
  rw [AlertEnded, ← alertState_of_sameBut (lower_same_but a s) (show b ∉ [a] by simpa using h)]
  exact alertEnded_lower b _

/-- The rate is recorded first, and is not counted. -/
theorem claimsSameBut_rated {u : State} {rate : Nat} (h : ClaimsSameBut c (changeClaim c (rated rate) s) u) :
    ClaimsSameBut c s u := fun d hd => (h d hd).trans (changeClaim_same_but c _ s d hd)

theorem started_claims (rate : Nat) : ClaimsSameBut c s (started c rate s) :=
  claimsSameBut_rated (changeClaim_same_but c toRunning _)

theorem started_get {rate : Nat} (h : (s.claims.get c).state = .admitted) :
    (started c rate s).claims.get c =
      { s.claims.get c with
        state := .running, start := none, lastRate := rate, epoch := wrapSucc 65535 (s.claims.get c).epoch } := by
  have hne : (rated rate (s.claims.get c)).state ≠ (toRunning (rated rate (s.claims.get c))).state := by
    simp [rated, toRunning, h]
  refine (changeClaim_get_same c toRunning _).trans ?_
  rw [changeClaim_rated_get, commit_of_state_ne hne]
  rfl

theorem started_alerts (rate : Nat) : AlertsSameBut [.startFail c, .trip c] s (started c rate s) :=
  alertsSameBut_of_alerts (u := changeClaim c toRunning (changeClaim c (rated rate) s)) (by simp) (lowers_sameBut _ _ _)

theorem started_ends (rate : Nat) :
    AlertEnded (.startFail c) s (started c rate s) ∧ AlertEnded (.trip c) s (started c rate s) :=
  ⟨alertEnded_of_alerts (u := changeClaim c toRunning (changeClaim c (rated rate) s)) (by simp)
      (alertEnded_lower_inner (by simp) _),
    alertEnded_of_alerts (u := changeClaim c toRunning (changeClaim c (rated rate) s)) (by simp)
      (alertEnded_lower_outer (by simp) _)⟩

theorem tripped_claims (rate : Nat) : ClaimsSameBut c s (tripped c rate s) :=
  claimsSameBut_rated (changePurging_same_but c toIdle _)

theorem tripped_get {rate : Nat} (hw : WithheldAccounted s) (h : (s.claims.get c).state = .running) :
    (tripped c rate s).claims.get c = { idleRecord (s.claims.get c) with lastRate := rate } := by
  refine (changePurging_toIdle_get (withheldAccounted_rated hw rate) ?_).trans ?_
  · rw [changeClaim_rated_get]
    simp [rated, h]
  · rw [changeClaim_rated_get]
    rfl

theorem tripped_alerts (rate : Nat) : AlertsSameBut [.trip c] s (tripped c rate s) :=
  alertsSameBut_of_alerts (u := changePurging c toIdle (changeClaim c (rated rate) s)) (by simp) (raise_same_but _ _)

theorem tripped_active (rate : Nat) : alertState (.trip c) (tripped c rate s) = .active := alertState_raise _ _

theorem tripped_purged (rate : Nat) : PurgedStack c s (tripped c rate s) :=
  changePurging_purged c toIdle (changeClaim c (rated rate) s)

theorem touches_started (rate : Nat) : TouchesOnly [.claims, .alerts] s (started c rate s) :=
  (((touches_changeClaim s c _).andThen (touches_changeClaim _ c toRunning)).andThen
    ((touches_lower _ (.startFail c)).andThen (touches_lower _ (.trip c)))).weaken rfl

theorem touches_tripped (rate : Nat) : TouchesOnly [.claims, .stack, .alerts] s (tripped c rate s) :=
  (((touches_changeClaim s c _).andThen (touches_changePurging _ c toIdle)).andThen (touches_raise _ (.trip c))).weaken rfl

end Report

/-- Settles O31: the rows of R65. -/
theorem reportServedByState : Obligations.ReportServedByState := by
  intro l c running rate s hl hs hw old rate' st
  have hi : exec (.report l running rate) s = consumerRequest l 0x13 (serveReport running rate) s := rfl
  have hrate : clampNat 0 5000 rate = rate' := clampNat_zero ..
  have hst : doneOr (decide (clampNat 0 5000 rate ≠ rate)) = st := by
    have hle : min rate 5000 = rate ↔ rate ≤ 5000 := min_eq_left_iff
    rw [hrate, doneOr_ne]
    exact if_congr hle rfl rfl
  rw [← hst]
  refine ⟨fun h => ?vacant, fun h hr => ?runs, fun h hr => ?trips, fun hv ha hr => ?records⟩
  case vacant => exact consumer_unchanged hi hl hs (by decide) (by simp [serveReport, old, h])
  case runs =>
    subst hr
    obtain ⟨t, ht, hans, hp, hclaims, hstack, halert, hframe⟩ := consumer_follows hi hl hs (by decide)
      (serveReport_runs rate h) (started_claims _) (started_alerts _) (by simp) ((touches_started _).weaken rfl)
    obtain ⟨hfail, htrip⟩ := started_ends (c := c) (s := s) (clampNat 0 5000 rate)
    refine ⟨t, ht, hans, hp, ?_, hstack, (halert _ (by simp)).trans hfail, (halert _ (by simp)).trans htrip, hframe⟩
    rw [hclaims, started_get h, hrate]
  case trips =>
    subst hr
    obtain ⟨t, ht, hans, hp, hclaims, hstack, halert, hframe⟩ := consumer_follows hi hl hs (by decide)
      (serveReport_trips rate h) (tripped_claims _) (tripped_alerts _) (by simp) (touches_tripped _)
    refine ⟨t, ht, hans, hp, ?_, ?_, (halert _ (by simp)).trans (tripped_active _), hframe⟩
    · rw [hclaims, tripped_get hw h, hrate]
    · rw [PurgedStack, hstack]
      exact tripped_purged _
  case records =>
    obtain ⟨t, ht, hans, hp, hc, hg, hrest⟩ :=
      consumer_changes hi hl hs (by decide) (serveReport_records rate hv ha hr) rfl
    rw [hrate] at hg
    exact ⟨t, ht, hans, hp, hc, hg.trans (commit_lastRate _ _), hrest⟩

/-- An event that the meter stage follows, while the part is supplied. -/
theorem flowEvent_supplied (f : State → State) {s : State} (h : s.supplied = true) :
    flowEvent f s = .next (followFlow s (f s)) := event_supplied _ h

/-! ## The timers of a claim (R61, R62, R67, R68) -/

section Expiry

variable {c : Slot} {s : State}

/-- Entry to LAPSED with a purge: nothing is withheld, r and standing stay. -/
theorem changePurging_toLapsed_get (hw : WithheldAccounted s) (h : (s.claims.get c).state ≠ .lapsed) :
    (changePurging c toLapsed s).claims.get c =
      { idleRecord (s.claims.get c) with
        state := .lapsed, request := (s.claims.get c).request, standing := (s.claims.get c).standing } := by
  rw [changePurging_claims, Tab.get_set_same, purged_withheld hw]
  exact commit_of_state_ne h

/-- A change with a purge of a claim that drew no gas and draws none moves no flow expectation. -/
theorem flowExpected_changePurging_idle {f : Claim → Claim} (h : (s.claims.get c).state ≠ .running)
    (hf : ∀ cl, (f cl).state ≠ .running) (m : Meter) : flowExpected (changePurging c f s) m = flowExpected s m := by
  by_cases hm : m = slotMeter c
  · subst hm
    rw [flowExpected_slotMeter, flowExpected_slotMeter, changePurging_claims, Tab.get_set_same, draws_commit,
      draws_of_not_running (hf _), draws_of_not_running h]
  · exact flowExpected_ne_slotMeter rfl (changePurging_same_but c f s) rfl hm

theorem flowExpected_raise (a : Alert) (s : State) (m : Meter) : flowExpected (raise a s) m = flowExpected s m :=
  flowExpected_congr rfl rfl rfl m

/-- A claim that leaves ADMITTED by its start timer drew no gas. -/
theorem startExpires_flow (h : (s.claims.get c).state = .admitted) (m : Meter) :
    flowExpected (raise (.startFail c) (changePurging c toIdle s)) m = flowExpected s m :=
  (flowExpected_raise _ _ m).trans (flowExpected_changePurging_idle (by simp [h]) (fun _ => by simp [toIdle]) m)

end Expiry

/-- Settles O33: either timer acts where it has run for its setting, and nowhere else. -/
theorem leaseAndStartExpiryEndTheClaim : Obligations.LeaseAndStartExpiryEndTheClaim := by
  intro c s hs hw old
  have lease : exec (.leaseTimerExpiry c) s = .next (followFlow s (leaseExpires c s)) := flowEvent_supplied _ hs
  have start : exec (.startTimerExpiry c) s = .next (followFlow s (startExpires c s)) := flowEvent_supplied _ hs
  refine ⟨fun hl hr => ?lapses, fun h => ?leaseEarly, fun ha hr => ?fails, fun h => ?startEarly⟩
  case lapses =>
    have hne : old.state ≠ .lapsed := fun e => by simp [old, e, leased] at hl
    rw [lease, leaseExpires_at ((leaseOver_iff c s).mpr ⟨hl, hr⟩)]
    have hframe := claimFrame_followed (as := [.lapse c]) (t := raise (.lapse c) (changePurging c toLapsed s))
      (changePurging_same_but c toLapsed s) (alertsSameBut_of_alerts rfl (raise_same_but _ _)) (by simp) rfl rfl
    exact ⟨_, rfl, changePurging_toLapsed_get hw hne, changePurging_purged c toLapsed s,
      (followFlow_alertState (by simp) _ _).trans (alertState_raise _ _), hframe, rfl⟩
  case leaseEarly =>
    have hover : leaseOver c s = false := by
      rw [← Bool.not_eq_true, leaseOver_iff]
      rintro ⟨hl, hr⟩
      obtain h | h := h
      · rw [h] at hl; exact absurd hl (by decide)
      · exact h hr
    rw [lease, leaseExpires_early hover, followFlow_self]
  case fails =>
    rw [start, startExpires_at ((startOver_iff c s).mpr ⟨ha, hr⟩), followFlow_same (startExpires_flow ha)]
    exact ⟨_, rfl, changePurging_toIdle_get hw (by simp [old, ha]), changePurging_purged c toIdle s,
      alertState_raise _ _, rfl, changePurging_same_but c toIdle s, alertsSameBut_of_alerts rfl (raise_same_but _ _)⟩
  case startEarly =>
    have hover : startOver c s = false := by
      rw [← Bool.not_eq_true, startOver_iff]
      exact fun ⟨ha, hr⟩ => h.elim (absurd ha) (absurd hr)
    rw [start, startExpires_early hover, followFlow_self]

end Sys2Proof.Machine
end

section
/-! Pulses, contacts, the hold timer and the pass timer (R1, R6, R15, R23 to R25, R83), and the reset state. -/

namespace Sys2Proof.Machine

open Sys2Proof

/-- Settles O16: each condition is a finite fact about one state. -/
theorem resetMeetsEveryCondition : Obligations.ResetMeetsEveryCondition :=
  ⟨by decide +kernel, by decide +kernel, by decide +kernel, nofun, by decide +kernel, by decide +kernel,
    ⟨by decide +kernel, by decide +kernel⟩, by decide +kernel, by decide +kernel,
    ⟨defaultConfig_inRange, defaultConfig_inRange⟩, by decide +kernel, by decide +kernel, by decide +kernel,
    by decide +kernel, by decide +kernel, by decide +kernel⟩

/-! ## Pulses and stalls (R1, R6) -/

section Pulse

variable {m : Meter} {s : State}

/-- A pulse counted, or lost at the end of the counter's width (R1). -/
theorem countPulse_eq {r : MeterRec} (h : r.count ≤ 65535) :
    countPulse r =
      { r with
        count := if r.count = 65535 then 65535 else r.count + 1
        stallTimer := if r.stallTimer = none then none else some 0 } := by
  have hcount : saturate 65535 (r.count + 1) = if r.count = 65535 then 65535 else r.count + 1 := by
    unfold saturate
    split_ifs <;> omega
  have htimer : (r.stallTimer.map fun _ => 0) = if r.stallTimer = none then none else some 0 := by
    cases r.stallTimer <;> rfl
  simp only [countPulse, hcount, htimer]

/-- The state with the pulse on the meter's record. -/
def pulsed (m : Meter) (s : State) : State := { s with meters := s.meters.modify m countPulse }

theorem exec_pulse_uncounted (h : s.supplied = false ∨ lineCounted s m = false) : exec (.pulse m) s = .next s := by
  obtain h | h := h
  · exact event_unsupplied _ h
  · cases hs : s.supplied
    · exact event_unsupplied _ hs
    · exact (event_supplied _ hs).trans (by rw [h]; rfl)

theorem exec_pulse_counted (hs : s.supplied = true) (h : lineCounted s m = true) :
    exec (.pulse m) s =
      .next (if (s.meters.get m).count < 65535 then pulsed m s else raise (.counterOverrun m) (pulsed m s)) :=
  (event_supplied _ hs).trans (by rw [h]; rfl)

theorem pulsed_get (h : (s.meters.get m).count ≤ 65535) :
    (pulsed m s).meters.get m =
      { s.meters.get m with
        count := if (s.meters.get m).count = 65535 then 65535 else (s.meters.get m).count + 1
        stallTimer := if (s.meters.get m).stallTimer = none then none else some 0 } :=
  (Tab.get_modify_same _ _ _).trans (countPulse_eq h)

theorem pulsed_meters : MetersSameBut m s (pulsed m s) := fun _ hn => Tab.get_modify_ne _ _ hn

/-- A pulse that is counted, whole. -/
theorem pulse_counts (hc : (s.meters.get m).count ≤ 65535) (hs : s.supplied = true) (hl : lineCounted s m = true) :
    ∃ t, exec (.pulse m) s = .next t ∧
      t.meters.get m =
        { s.meters.get m with
          count := if (s.meters.get m).count = 65535 then 65535 else (s.meters.get m).count + 1
          stallTimer := if (s.meters.get m).stallTimer = none then none else some 0 } ∧
      MetersSameBut m s t ∧ AlertsSameBut [.counterOverrun m] s t ∧
      ((s.meters.get m).count = 65535 → alertState (.counterOverrun m) t = .active) ∧
      ((s.meters.get m).count < 65535 → t.alerts = s.alerts) ∧
      { t with meters := s.meters, alerts := s.alerts } = s := by
  refine ⟨_, exec_pulse_counted hs hl, ?_⟩
  by_cases h : (s.meters.get m).count < 65535
  · rw [if_pos h]
    exact ⟨pulsed_get hc, pulsed_meters, fun _ _ => rfl, fun e => absurd h (by omega), fun _ => rfl, rfl⟩
  · rw [if_neg h]
    exact ⟨pulsed_get hc, pulsed_meters, alertsSameBut_of_alerts (u := pulsed m s) rfl (raise_same_but _ _),
      fun _ => alertState_raise _ _, fun e => absurd e h, rfl⟩

/-- A meter's stall by its timer (R6). -/
def stallMeter (r : MeterRec) : MeterRec := { r with stallTimer := none, stalled := true, recovery := 0, hold := 0 }

/-- The state with the meter stalled. -/
def stalledState (m : Meter) (s : State) : State := { s with meters := s.meters.modify m stallMeter }

theorem stallExpires_stalled (h : stallOver m s = true) :
    stallExpires m s = raise (.meterStall m) (stalledState m s) := stallExpires_at h

end Pulse

/-- Settles O17: a pulse by its line, a stall timer by its count. -/
theorem pulsesAndStallTimerAct : Obligations.PulsesAndStallTimerAct := by
  refine ⟨fun m s hc => ⟨exec_pulse_uncounted, pulse_counts hc⟩, fun m s hs => ⟨fun h => ?early, fun h => ?expires⟩⟩
  case early =>
    have hover : stallOver m s = false := by rwa [← Bool.not_eq_true, stallOver_iff]
    exact (event_supplied _ hs).trans (by rw [stallExpires_early hover])
  case expires =>
    have hexec : exec (.stallTimerExpiry m) s = .next (raise (.meterStall m) (stalledState m s)) :=
      (event_supplied _ hs).trans (by rw [stallExpires_stalled ((stallOver_iff m s).mpr h)])
    exact ⟨_, hexec, Tab.get_modify_same _ _ _, alertState_raise _ _, fun _ hn => Tab.get_modify_ne _ _ hn,
      alertsSameBut_of_alerts (u := stalledState m s) rfl (raise_same_but _ _), rfl⟩

/-! ## Contacts (R15) -/

/-- Settles O18: a raw change is judged against the raw and the debounced state. -/
theorem rawContactStartsOrStopsDebounce : Obligations.RawContactStartsOrStopsDebounce := by
  intro k closed s hs
  have hget : ∀ t, exec (.contactChange k closed) s = .next t → t.contacts.get k = rawChange closed (s.contacts.get k) := by
    rintro t ⟨⟩
    exact (Tab.get_modify_same _ _ _).trans (by rw [if_pos hs])
  refine ⟨_, rfl, ?_⟩
  rw [hget _ rfl, rawChange]
  refine ⟨?_, ?_, ?_, fun j hj => Tab.get_modify_ne _ _ hj, rfl⟩
  · split
    · next h => exact h.symm
    · rfl
  · split <;> rfl
  · split <;> rfl

/-! ## Lock causes (R70, R71, R75) -/

section LockCause

variable {cause : LockCause} {c : Slot} {s : State} {cl : Claim}

/-- A lock cause set with one cause added or removed. -/
def relocked (cause : LockCause) (present : Bool) (cl : Claim) : Claim :=
  { cl with locks := cl.locks.put cause present }

theorem put_ne {k : Locks} {b : Bool} (h : k.has cause = !b) : k ≠ k.put cause b := fun e => by
  have hput := Locks.has_put_same k cause b
  rw [← e, h] at hput
  cases b <;> simp at hput

/-- The set is counted (R59). -/
theorem commit_locks {new : Claim} (h : cl.locks ≠ new.locks) :
    commit cl new = { new with epoch := wrapSucc 65535 cl.epoch } := by simp [commit, sameCounted, h]

theorem lockable_false_iff (st : ClaimState) :
    lockable st = false ↔ st = .vacant ∨ st = .locked ∨ st = .lapsed := by cases st <;> decide

theorem leaseOnEntry_lockable (h : lockable cl.state = true) (hl : cl.state ≠ .idle) : leaseOnEntry cl = cl.lease := by
  unfold leaseOnEntry
  cases hst : cl.state <;> simp_all [lockable]

/-- A claim that its first cause has locked. -/
theorem addCause_locked_get (hw : WithheldAccounted s) (h : (s.claims.get c).locks.has cause = false)
    (hl : lockable (s.claims.get c).state = true) :
    (addCause cause s c).claims.get c =
      { s.claims.get c with
        state := .locked, allotment := 0, soft := false, start := none, orphaned := 0, withheld := 0
        locks := (s.claims.get c).locks.put cause true
        lease := if (s.claims.get c).state = .idle then some 0 else (s.claims.get c).lease
        epoch := wrapSucc 65535 (s.claims.get c).epoch } := by
  have hlease : leaseOnEntry (s.claims.get c) =
      if (s.claims.get c).state = .idle then some 0 else (s.claims.get c).lease := by
    split
    · next hidle => simp [leaseOnEntry, hidle]
    · next hidle => exact leaseOnEntry_lockable hl hidle
  rw [addCause_locks h hl, changePurging_claims, Tab.get_set_same, purged_withheld hw, commit_locks (put_ne h), ← hlease]
  rfl

theorem addCause_stayed_get (h : (s.claims.get c).locks.has cause = false) (hl : lockable (s.claims.get c).state = false) :
    (addCause cause s c).claims.get c =
      { s.claims.get c with locks := (s.claims.get c).locks.put cause true
                            epoch := wrapSucc 65535 (s.claims.get c).epoch } := by
  rw [addCause_stays h hl, changeClaim_get_same]
  exact commit_locks (put_ne h)

theorem addCause_stayed_stack (h : (s.claims.get c).locks.has cause = false) (hl : lockable (s.claims.get c).state = false) :
    (addCause cause s c).stack = s.stack := by
  rw [addCause_stays h hl, changeClaim_stack]

theorem addCause_purged (h : (s.claims.get c).locks.has cause = false) (hl : lockable (s.claims.get c).state = true) :
    PurgedStack c s (addCause cause s c) := by
  rw [addCause_locks h hl]
  exact changePurging_purged c _ s

/-- The set of a claim that has just lost its last cause is the empty one. -/
theorem locks_of_empty {k : Locks} (h : k.empty = true) : k = noLocks := by
  obtain ⟨sour, gasRoom, estop, held⟩ := k
  cases sour <;> cases gasRoom <;> cases estop <;> cases held <;> first | rfl | cases h

theorem unlocked_locks (cl : Claim) : (unlocked cl).locks = cl.locks := by
  unfold unlocked
  split
  · split <;> rfl
  · rfl

theorem removeCause_get (h : (s.claims.get c).locks.has cause = true) :
    (removeCause cause s c).claims.get c =
      { unlocked (relocked cause false (s.claims.get c)) with epoch := wrapSucc 65535 (s.claims.get c).epoch } := by
  have hne : (s.claims.get c).locks ≠ (unlocked (relocked cause false (s.claims.get c))).locks := by
    rw [unlocked_locks]
    exact put_ne h
  rw [removeCause_present h, changeClaim_get_same]
  exact commit_locks hne

theorem unlocked_stays (h : cl.state ≠ .locked ∨ cl.locks.empty = false) : unlocked cl = cl := by
  obtain h | h := h <;> simp [unlocked, h]

theorem unlocked_leaves (h : cl.state = .locked) (he : cl.locks.empty = true) :
    unlocked cl = if cl.standing then { cl with state := .waiting, soft := true } else toIdle cl := by
  simp [unlocked, h, he]

theorem removeCause_stayed_get (h : (s.claims.get c).locks.has cause = true)
    (hst : (s.claims.get c).state ≠ .locked ∨ ((s.claims.get c).locks.put cause false).empty = false) :
    (removeCause cause s c).claims.get c =
      { s.claims.get c with locks := (s.claims.get c).locks.put cause false
                            epoch := wrapSucc 65535 (s.claims.get c).epoch } := by
  rw [removeCause_get h, unlocked_stays (cl := relocked cause false (s.claims.get c)) hst]
  rfl

theorem removeCause_left_get (h : (s.claims.get c).locks.has cause = true) (hst : (s.claims.get c).state = .locked)
    (he : ((s.claims.get c).locks.put cause false).empty = true) :
    (removeCause cause s c).claims.get c =
      (if (s.claims.get c).standing then
        { s.claims.get c with state := .waiting, soft := true, locks := noLocks
                              epoch := wrapSucc 65535 (s.claims.get c).epoch }
      else
        { s.claims.get c with state := .idle, request := none, allotment := 0, soft := false, lease := none,
                              start := none, locks := noLocks
                              epoch := wrapSucc 65535 (s.claims.get c).epoch }) := by
  have hstanding : (relocked cause false (s.claims.get c)).standing = (s.claims.get c).standing := rfl
  rw [removeCause_get h, unlocked_leaves (cl := relocked cause false (s.claims.get c)) hst he, ← locks_of_empty he,
    hstanding]
  cases hs : (s.claims.get c).standing <;> simp [toIdle, relocked, hs]

end LockCause

/-- Settles O20: a cause that is new moves the claim by its state, one that stands is removed likewise, and nothing else
happens. -/
theorem lockCauseMovesClaim : Obligations.LockCauseMovesClaim := by
  intro cause s c hw
  have lockable_true (hv : (s.claims.get c).state ≠ .vacant) (hl : (s.claims.get c).state ≠ .locked)
      (hp : (s.claims.get c).state ≠ .lapsed) : lockable (s.claims.get c).state = true := by
    rw [← Bool.not_eq_false, lockable_false_iff]
    simp [hv, hl, hp]
  refine ⟨addCause_present, fun h => ⟨(addCause_frame cause s c).1, fun hst => ?stays, fun hv hl hp => ?locks⟩,
    removeCause_absent, fun h => ⟨(removeCause_frame cause s c).1, ?_, removeCause_stayed_get h, removeCause_left_get h⟩⟩
  case stays =>
    have hst := (lockable_false_iff _).mpr hst
    exact ⟨addCause_stayed_stack h hst, addCause_stayed_get h hst⟩
  case locks =>
    have hlock := lockable_true hv hl hp
    exact ⟨addCause_purged h hlock, addCause_locked_get hw h hlock⟩
  · exact congrArg (·.stack) (removeCause_frame cause s c).2

/-! ## The pass timer (R83, R86, R142) -/

section PassTimer

variable {s : State}

/-- A pass begun. -/
def passBegun (s : State) : State :=
  { s with
    policy := takeSwitch s.policy
    balance :=
      { s.balance with
        timer := 0
        period := s.config.period
        pass := some (beginPass s.config s.balance.period s.policy.switch.isSome) } }

theorem exec_passTimerExpiry (hs : s.supplied = true) :
    exec .passTimerExpiry s = .next (if passOver s then passBegun s else s) := event_supplied _ hs

theorem takeSwitch_some {p : Policy} {b : BankNo} (h : p.switch = some b) :
    takeSwitch p = { p with active := b, switch := none } := by simp only [takeSwitch, h]

theorem takeSwitch_none {p : Policy} (h : p.switch = none) : takeSwitch p = p := by simp only [takeSwitch, h]

end PassTimer

/-- Settles O36: the timer is judged by `passOver`; a pass begins with what the bank stage takes. -/
theorem passBeginsAtTimerExpiry : Obligations.PassBeginsAtTimerExpiry := by
  refine fun s hs => ⟨fun h => ?early, fun hp ht => ?begins⟩
  case early =>
    have hover : passOver s = false := by
      rw [← Bool.not_eq_true, passOver_iff]
      exact fun ⟨hp, ht⟩ => h.elim (fun h => h hp) (fun h => by omega)
    rw [exec_passTimerExpiry hs, hover]
    rfl
  case begins =>
    have hover : passOver s = true := (passOver_iff s).mpr ⟨hp, ht⟩
    have hbalance : { (passBegun s).balance with timer := s.balance.timer, period := s.balance.period, pass := none } =
        s.balance := by rw [← hp]; rfl
    refine ⟨passBegun s, beginPass s.config s.balance.period s.policy.switch.isSome, ?_, rfl, rfl, rfl, rfl, rfl, rfl,
      hbalance, fun b hb => ⟨takeSwitch_some hb, ?_⟩, fun hn => ⟨takeSwitch_none hn, ?_⟩, rfl⟩
    · rw [exec_passTimerExpiry hs, hover]
      rfl
    · rw [hb]; rfl
    · rw [hn]; rfl

/-! ## The quality monitor leaves HELD (R23 to R25) -/

section Quality

variable {s : State}

/-- The defaults substituted, without the alerts and the bindings. -/
def substitutedQuality (s : State) : State :=
  { s with quality :=
      { s.quality with source := .substituted, ch4 := s.config.defaultCh4, h2s := s.config.defaultH2s, hold := none } }

/-- The latest readings taken, without the alerts. -/
def resumedQuality (s : State) : State :=
  { s with quality :=
      { s.quality with source := .live, ch4 := (s.channels.get chA4).reading.toNat,
                       h2s := (s.channels.get chA5).reading.toNat, hold := none } }

theorem enterSubstituted_eq (s : State) :
    enterSubstituted s =
      signal .substituted (raise .qualitySubstituted (lower .qualityHeld (substitutedQuality s))) := rfl

theorem enterLive_eq (s : State) :
    enterLive s = lower .qualitySubstituted (lower .qualityHeld (resumedQuality s)) := rfl

/-- An end and then an onset of two records. -/
theorem raise_lower_sameBut (s : State) (a b : Alert) : AlertsSameBut [a, b] s (raise a (lower b s)) := fun n hn => by
  simp only [List.map_cons, List.map_nil, List.mem_cons, List.not_mem_nil, or_false, not_or] at hn
  rw [raise_same_but a _ n (by simpa using hn.1), lower_same_but b s n (by simpa using hn.2)]

theorem lower_lower_sameBut (s : State) (a b : Alert) : AlertsSameBut [a, b] s (lower a (lower b s)) := fun n hn => by
  simp only [List.map_cons, List.map_nil, List.mem_cons, List.not_mem_nil, or_false, not_or] at hn
  rw [lower_same_but a _ n (by simpa using hn.1), lower_same_but b s n (by simpa using hn.2)]

/-- What `samplesQualify` reads. -/
theorem samplesQualify_iff (s : State) :
    samplesQualify s = true ↔ (s.channels.get chA4).fault = false ∧ (s.channels.get chA5).fault = false ∧
      within 300 900 (s.channels.get chA4).reading := by
  simp [samplesQualify, plausible, within, and_assoc]

theorem enterSubstituted_alerts (s : State) :
    AlertsSameBut [.qualitySubstituted, .qualityHeld] s (enterSubstituted s) ∧
      alertState .qualitySubstituted (enterSubstituted s) = .active ∧ AlertEnded .qualityHeld s (enterSubstituted s) := by
  have hraised : alertState .qualityHeld (enterSubstituted s) = alertState .qualityHeld (lower .qualityHeld (substitutedQuality s)) :=
    alertState_of_sameBut (raise_same_but .qualitySubstituted _) (by simp)
  refine ⟨alertsSameBut_of_alerts (u := substitutedQuality s) rfl (raise_lower_sameBut _ _ _), alertState_raise _ _, ?_⟩
  rw [AlertEnded, hraised]
  exact alertEnded_lower _ (substitutedQuality s)

end Quality

/-- Settles O23: the hold timer is judged by `holdOver`, a QUALITY_RESUME by the source and the samples. -/
theorem qualityLeavesHeldAsStated : Obligations.QualityLeavesHeldAsStated := by
  intro s hs
  have hresume (v : Served) (hv : serveQualityResume s = v) (hf : ∀ m, flowExpected v.state m = flowExpected s m) :
      exec (.qualityResume 0) s = .next (respond 0 0x35 v.status v.figures v.state) := by
    have hexec : exec (.qualityResume 0) s = request 0 0x35 serveQualityResume s := rfl
    rw [hexec, request_served _ hs (by decide), hv, followFlow_same hf]
  refine ⟨fun hh hr => ?expires, fun h => ?early, fun hl => ?live, fun hl => ⟨fun hq => ?resumes, fun hq => ?refused⟩⟩
  case expires =>
    have hover : holdOver s = true := (holdOver_iff s).mpr ⟨hh, hr⟩
    obtain ⟨hsame, hactive, hended⟩ := enterSubstituted_alerts s
    exact ⟨enterSubstituted s, (event_supplied _ hs).trans (by rw [holdExpires_at hover]), rfl, hactive, hended, hsame,
      rfl, rfl⟩
  case early =>
    have hover : holdOver s = false := by
      rw [← Bool.not_eq_true, holdOver_iff]
      exact fun ⟨hh, hr⟩ => h.elim (fun h => h hh) (fun h => h hr)
    exact (event_supplied _ hs).trans (by rw [holdExpires_early hover])
  case live =>
    exact ⟨_, hresume { state := s, status := .done } (by simp [serveQualityResume, hl]) fun _ => rfl,
      answerStatus_respond .., respond_ports_same_but 0 _ _ _ s, rfl⟩
  case resumes =>
    have hok : ((s.contacts.get conK1).debounced && samplesQualify s) = true := by
      rw [Bool.and_eq_true, samplesQualify_iff]
      exact hq
    have hv : serveQualityResume s = { state := enterLive s, status := .done } := by
      simp [serveQualityResume, hl, hok]
    refine ⟨_, hresume _ hv fun _ => flowExpected_congr rfl rfl rfl _, answerStatus_respond .., rfl,
      alertEnded_of_alerts (u := resumedQuality s) rfl (alertEnded_lower_outer (by simp) _),
      alertEnded_of_alerts (u := resumedQuality s) rfl (alertEnded_lower_inner (by simp) _),
      alertsSameBut_of_alerts (u := resumedQuality s) rfl (lower_lower_sameBut _ _ _),
      portsSameBut_answered (by simp [enterLive_eq, resumedQuality]) _ _ _, rfl⟩
  case refused =>
    have hno : ((s.contacts.get conK1).debounced && samplesQualify s) = false := by
      rw [← Bool.not_eq_true, Bool.and_eq_true, samplesQualify_iff]
      exact hq
    exact ⟨_, hresume { state := s, status := .refusedState } (by simp [serveQualityResume, hl, hno]) fun _ => rfl,
      answerStatus_respond .., respond_ports_same_but 0 _ _ _ s, rfl⟩

end Sys2Proof.Machine
end

section
/-! The decisions of a pass: the snapshot, the victim of a shortfall step, pushes, restores, admissions and allotments
(R89 to R102, R111, R114). -/

namespace Sys2Proof

/-- The entries of a table in order. -/
theorem Tab.list_eq_map {n : Nat} {α : Type} (t : Tab n α) : t.list = (List.finRange n).map t.get :=
  List.ext_getElem (by simp [t.len]) fun i _ _ => by simp [Tab.get]

end Sys2Proof

namespace Sys2Proof.Machine

open Sys2Proof

/-! ## A stage of the pass in flight -/

section Stage

variable {i : Instr} {stage : PassStage} {f : Pass → State → State} {p : Pass} {s : State}

theorem exec_inStage (hi : exec i s = event (inStage stage f) s) (hs : s.supplied = true)
    (hp : s.balance.pass = some p) (hst : p.stage = stage) : exec i s = .next (f p s) := by
  rw [hi, event_supplied _ hs, inStage_at f hp hst]

theorem exec_inStage_followed (hi : exec i s = flowEvent (inStage stage f) s) (hs : s.supplied = true)
    (hp : s.balance.pass = some p) (hst : p.stage = stage) : exec i s = .next (followFlow s (f p s)) := by
  rw [hi, flowEvent_supplied _ hs, inStage_at f hp hst]

end Stage

/-! ## The snapshot (R89, R90) -/

theorem distributable_eq (pF : Nat) (trim : Int) (siteLimit : Nat) :
    (distributable pF trim siteLimit : Int) = max 0 (min (siteLimit : Int) ((pF : Int) + trim)) := by
  rw [distributable, clampInt_eq (by omega)]
  omega

/-- Settles O37: each figure of the snapshot is copied as it stands. -/
theorem snapshotCopiesClaimsAndFormsD : Obligations.SnapshotCopiesClaimsAndFormsD := by
  intro p s hs hp hst
  refine ⟨_, _, exec_inStage rfl hs hp hst, rfl, rfl, fun c => ?_, rfl, rfl, rfl, rfl, rfl, rfl, rfl, rfl, rfl, rfl, rfl,
    distributable_eq _ _ _, rfl, rfl, rfl⟩
  have hcopy : (takeSnapshot p s).claims.get c = copyClaim (s.claims.get c) := Tab.get_gen _ _
  exact ⟨hcopy, congrArg WorkClaim.ceiling hcopy⟩

/-! ## The cutting order (R92, R95) -/

section Order

variable {ranks : Tab 5 Nat}

theorem cutBefore_iff (ranks : Tab 5 Nat) (c e : Slot) :
    cutBefore ranks c e = true ↔ ranks.get e < ranks.get c ∨ ranks.get c = ranks.get e ∧ e < c := by
  simp [cutBefore]

theorem insertCut_perm (ranks : Tab 5 Nat) (c : Slot) (l : List Slot) : (insertCut ranks c l).Perm (c :: l) := by
  induction l with
  | nil => exact .refl _
  | cons d ds ih =>
    unfold insertCut
    split
    · exact .refl _
    · exact (ih.cons d).trans (.swap c d ds)

theorem cutBefore_trans {a b c : Slot} (h₁ : cutBefore ranks a b = true) (h₂ : cutBefore ranks b c = true) :
    cutBefore ranks a c = true := by
  simp only [cutBefore_iff, Fin.lt_def] at *
  omega

theorem cutBefore_of_not {a b : Slot} (hne : a ≠ b) (h : ¬cutBefore ranks a b = true) : cutBefore ranks b a = true := by
  simp only [cutBefore_iff, Fin.lt_def, ne_eq, Fin.ext_iff] at *
  omega

/-- Putting a slot into a list in cutting order keeps it in cutting order. -/
theorem insertCut_pairwise {c : Slot} {l : List Slot} (hc : c ∉ l) (h : l.Pairwise fun a b => cutBefore ranks a b = true) :
    (insertCut ranks c l).Pairwise fun a b => cutBefore ranks a b = true := by
  induction l with
  | nil => exact List.pairwise_singleton _ _
  | cons d ds ih =>
    obtain ⟨hne, hds⟩ := not_or.mp (List.mem_cons.not.mp hc)
    obtain ⟨hd, hrest⟩ := List.pairwise_cons.mp h
    unfold insertCut
    split
    · next hcd =>
      refine List.pairwise_cons.mpr ⟨fun e he => ?_, h⟩
      obtain rfl | he := List.mem_cons.mp he
      · exact hcd
      · exact cutBefore_trans hcd (hd e he)
    · next hcd =>
      refine List.pairwise_cons.mpr ⟨fun e he => ?_, ih hds hrest⟩
      obtain rfl | he := List.mem_cons.mp ((insertCut_perm ranks c ds).mem_iff.mp he)
      · exact cutBefore_of_not hne hcd
      · exact hd e he

theorem foldr_insertCut {l : List Slot} (h : l.Nodup) :
    (l.foldr (insertCut ranks) []).Perm l ∧
      (l.foldr (insertCut ranks) []).Pairwise fun a b => cutBefore ranks a b = true := by
  induction l with
  | nil => exact ⟨.refl _, .nil⟩
  | cons c cs ih =>
    obtain ⟨hc, hcs⟩ := List.nodup_cons.mp h
    obtain ⟨hperm, hpair⟩ := ih hcs
    exact ⟨(insertCut_perm ranks c _).trans (hperm.cons c), insertCut_pairwise (hperm.mem_iff.not.mpr hc) hpair⟩

theorem cutOrder_perm (ranks : Tab 5 Nat) : (cutOrder ranks).Perm allSlots := (foldr_insertCut (by decide)).1

theorem cutOrder_pairwise (ranks : Tab 5 Nat) : (cutOrder ranks).Pairwise fun a b => cutBefore ranks a b = true :=
  (foldr_insertCut (by decide)).2

theorem mem_allSlots (c : Slot) : c ∈ allSlots := by revert c; decide

theorem mem_cutOrder (ranks : Tab 5 Nat) (c : Slot) : c ∈ cutOrder ranks :=
  (cutOrder_perm ranks).mem_iff.mpr (mem_allSlots c)

/-- The first entry that meets a test stands before every other that does. -/
theorem find_first {α : Type} {R : α → α → Prop} {l : List α} {t : α → Bool} {a : α} (hl : l.Pairwise R)
    (h : l.find? t = some a) {b : α} (hb : b ∈ l) (ht : t b = true) (hne : b ≠ a) : R a b := by
  obtain ⟨-, before, after, rfl, hbefore⟩ := List.find?_eq_some_iff_append.mp h
  have hrest := (List.pairwise_append.mp hl).2.1
  obtain hb | hb := List.mem_append.mp hb
  · have := hbefore b hb
    simp [ht] at this
  · obtain rfl | hb := List.mem_cons.mp hb
    · exact absurd rfl hne
    · exact (List.pairwise_cons.mp hrest).1 b hb

/-- What `victim` looks for. -/
def cuttable (work : Tab 5 WorkClaim) (c : Slot) : Bool := holdsGas (work.get c) && decide (0 < (work.get c).ceiling)

theorem cuttable_iff (work : Tab 5 WorkClaim) (c : Slot) :
    cuttable work c = true ↔ holdsGas (work.get c) = true ∧ 0 < (work.get c).ceiling := by simp [cuttable]

theorem victim_some {work : Tab 5 WorkClaim} {c : Slot} (h : victim ranks work = some c) :
    holdsGas (work.get c) = true ∧ 0 < (work.get c).ceiling := (cuttable_iff work c).mp (List.find?_some h)

theorem victim_first {work : Tab 5 WorkClaim} {c d : Slot} (h : victim ranks work = some c) (hd : d ≠ c)
    (hg : holdsGas (work.get d) = true) (hc : 0 < (work.get d).ceiling) :
    ranks.get d < ranks.get c ∨ ranks.get d = ranks.get c ∧ d < c := by
  have hcut := find_first (cutOrder_pairwise ranks) h (mem_cutOrder ranks d) ((cuttable_iff work d).mpr ⟨hg, hc⟩) hd
  exact ((cutBefore_iff _ _ _).mp hcut).imp_right fun ⟨he, hlt⟩ => ⟨he.symm, hlt⟩

theorem victim_none {work : Tab 5 WorkClaim} (h : victim ranks work = none) {c : Slot}
    (hg : holdsGas (work.get c) = true) : (work.get c).ceiling = 0 := by
  have hno : ¬cuttable work c = true := List.find?_eq_none.mp h c (mem_cutOrder ranks c)
  simpa [cuttable, hg] using hno

end Order

/-! ## Cuts (R91, R95) -/

theorem cutWork_ceiling (kind : ShedKind) (amount : Nat) (w : WorkClaim) :
    (cutWork kind amount w).ceiling = w.ceiling - amount := by
  unfold cutWork WorkClaim.ceiling ceilingOf
  cases w.request <;> simp [Nat.sub_add_eq]

section Cut

variable {c e : Slot} {kind : ShedKind} {amount : Nat} {d : Decisions}

theorem cut_work_same : (cut c kind amount d).work.get c = cutWork kind amount (d.work.get c) := Tab.get_modify_same _ _ _

theorem cut_work_ne (h : e ≠ c) : (cut c kind amount d).work.get e = d.work.get e := Tab.get_modify_ne _ _ h

theorem cut_toPush (h : amount ≠ 0) : (cut c kind amount d).toPush = d.toPush ++ [⟨c, kind, amount⟩] := by
  simp [cut, h]

/-- The decisions as a shortfall step counts itself. -/
def counted (d : Decisions) : Decisions := { d with kind := .steps, steps := d.steps + 1 }

theorem stepOn_trim {shedStep : Nat} (h : (d.work.get c).m < (d.work.get c).ceiling) :
    stepOn shedStep c d = cut c .trim (Nat.min shedStep ((d.work.get c).ceiling - (d.work.get c).m)) (counted d) := by
  simp only [stepOn, h, if_true]
  rfl

theorem stepOn_whole {shedStep : Nat} (h : (d.work.get c).ceiling ≤ (d.work.get c).m) :
    stepOn shedStep c d = cut c .whole (d.work.get c).ceiling (counted d) := by
  simp only [stepOn, Nat.not_lt.mpr h, if_false]
  rfl

theorem stepOn_cases (shedStep : Nat) (c : Slot) (d : Decisions) :
    ∃ kind amount, stepOn shedStep c d = cut c kind amount (counted d) := by
  by_cases h : (d.work.get c).m < (d.work.get c).ceiling
  · exact ⟨_, _, stepOn_trim h⟩
  · exact ⟨_, _, stepOn_whole (Nat.not_lt.mp h)⟩

end Cut

/-- Settles O39: the victim is the first cuttable claim in cutting order, and a step is one cut. -/
theorem victimIsLowestRankAndKeepsItsMinimum : Obligations.VictimIsLowestRankAndKeepsItsMinimum := by
  refine ⟨fun ranks work c h => ?victim, fun ranks work h c => victim_none h, fun shedStep c d hstep hg hpos => ?step⟩
  case victim =>
    obtain ⟨hg, hpos⟩ := victim_some h
    exact ⟨hg, hpos, fun e he => victim_first h he⟩
  case step =>
    intro w
    obtain ⟨kind, amount, hcut⟩ := stepOn_cases shedStep c d
    refine ⟨fun e he => ?_, ?_, fun hlt => ?_, fun hle => ?_⟩
    · rw [hcut, cut_work_ne he]
      rfl
    · rw [hcut]
      rfl
    · have hne : Nat.min shedStep (w.ceiling - w.m) ≠ 0 := by
        exact Nat.ne_of_gt (Nat.lt_min.mpr ⟨hstep, Nat.sub_pos_of_lt hlt⟩)
      have hle : Nat.min shedStep (w.ceiling - w.m) ≤ w.ceiling - w.m := Nat.min_le_right _ _
      have hceiling : (cutWork .trim (Nat.min shedStep (w.ceiling - w.m)) w).ceiling =
          w.ceiling - Nat.min shedStep (w.ceiling - w.m) := cutWork_ceiling _ _ _
      have hkeeps : w.m ≤ (cutWork .trim (Nat.min shedStep (w.ceiling - w.m)) w).ceiling := by
        rw [hceiling]
        omega
      rw [stepOn_trim hlt, cut_toPush hne, cut_work_same]
      exact ⟨rfl, rfl, hceiling, hkeeps⟩
    · rw [stepOn_whole hle, cut_toPush (by omega), cut_work_same]
      exact ⟨rfl, rfl⟩

/-! ## Pushes (R96, R111, R112) -/

section Push

variable {p : Pass} {s : State} {x : Shed} {rest : List Shed}

/-- The pass with its next shed pushed. -/
def pushNoted (p : Pass) (rest : List Shed) (r : ShedRecord) : Pass :=
  { p with decisions := { p.decisions with toPush := rest, pushed := p.decisions.pushed ++ [r] } }

theorem shedPushStep_cons (h : p.decisions.toPush = x :: rest) :
    shedPushStep p s =
      withPass (pushNoted p rest (recordOf p s.balance.passNumber x))
        (pushRecord (recordOf p s.balance.passNumber x) s) := by
  simp only [shedPushStep, h]
  rfl

theorem exec_shedPush (hs : s.supplied = true) (hp : s.balance.pass = some p) (hst : p.stage = .pushing)
    (h : p.decisions.toPush = x :: rest) :
    exec .shedPush s =
      .next (withPass (pushNoted p rest (recordOf p s.balance.passNumber x))
        (pushRecord (recordOf p s.balance.passNumber x) s)) := by
  rw [exec_inStage (f := shedPushStep) rfl hs hp hst, shedPushStep_cons h]

theorem putOnTop_alerts (r : ShedRecord) (s : State) : (putOnTop r s).alerts = s.alerts := rfl

theorem putOnTop_get (r : ShedRecord) (s : State) (c : Slot) :
    (putOnTop r s).claims.get c =
      { s.claims.get c with withheld := (s.claims.get c).withheld + if c = r.slot then r.amount else 0 } := by
  refine (Tab.get_modify _ _ _ _).trans ?_
  by_cases h : c = r.slot
  · simp [h]
  · simp [h]

/-- The pass alone is replaced. -/
theorem balance_withPass_frame (q : Pass) {s u : State} (h : u.balance = s.balance) :
    { (withPass q u).balance with pass := s.balance.pass } = s.balance := by
  simp only [withPass, h]

/-- The bottom record of a full stack moves to its slot's orphaned amount. -/
def evicted (kept : List ShedRecord) (r : ShedRecord) (s : State) : State :=
  { s with
    stack := { s.stack with records := kept }
    claims := s.claims.modify r.slot fun c => { c with orphaned := c.orphaned + r.amount } }

theorem evicted_get (kept : List ShedRecord) (r : ShedRecord) (s : State) (c : Slot) :
    (evicted kept r s).claims.get c =
      { s.claims.get c with orphaned := (s.claims.get c).orphaned + if c = r.slot then r.amount else 0 } := by
  refine (Tab.get_modify _ _ _ _).trans ?_
  by_cases h : c = r.slot
  · simp [h]
  · simp [h]

theorem evict_eq_evicted {kept : List ShedRecord} {r : ShedRecord} (h : s.stack.records = kept ++ [r])
    (hl : kept.length = 15) : evict s = raise .stackOverflow (evicted kept r s) := evict_full h (by omega)

theorem evict_changes (s : State) : (evict s).stack.changes = s.stack.changes := by
  by_cases h : s.stack.records.length < 16
  · rw [evict_below h]
  · obtain ⟨kept, r, hr⟩ : ∃ kept r, s.stack.records = kept ++ [r] :=
      ⟨_, _, (List.dropLast_concat_getLast (l := s.stack.records) (by rintro e; simp [e] at h)).symm⟩
    have hl : 15 ≤ kept.length := by simp [hr] at h; omega
    rw [evict_full hr hl]
    rfl

theorem frame_of_pushed {s t : State} (h : TouchesOnly [.claims, .stack, .alerts, .balance] s t) :
    { t with claims := s.claims, stack := s.stack, alerts := s.alerts, balance := s.balance } = s := h.restored

end Push

/-- Settles O40: the push follows the eviction that a full stack makes. -/
theorem pushRaisesWithheldAndEvictsTheOldest : Obligations.PushRaisesWithheldAndEvictsTheOldest := by
  intro p s x rest hs hp hst hpush hlen r
  have htouch := touches_pushRecord s r
  have hbalance : (pushRecord r s).balance = s.balance := htouch.same .balance rfl
  refine ⟨_, exec_shedPush hs hp hst hpush, ?_, fun hlt => ?_, fun kept oldest hrec hkept => ?_, ?_,
    balance_withPass_frame _ hbalance, ?_⟩
  · exact congrArg (wrapSucc 255) (evict_changes s)
  · have hbelow : pushRecord r s = putOnTop r s := by rw [pushRecord_eq, evict_below hlt]
    show (pushRecord r s).stack.records = _ ∧ (∀ c, (pushRecord r s).claims.get c = _) ∧ (pushRecord r s).alerts = _
    rw [hbelow]
    exact ⟨rfl, putOnTop_get r s, rfl⟩
  · have hfull : pushRecord r s = putOnTop r (raise .stackOverflow (evicted kept oldest s)) := by
      rw [pushRecord_eq, evict_eq_evicted hrec hkept]
    have hclaims (c : Slot) : (putOnTop r (raise .stackOverflow (evicted kept oldest s))).claims.get c =
        { s.claims.get c with
          withheld := (s.claims.get c).withheld + if c = x.slot then x.amount else 0
          orphaned := (s.claims.get c).orphaned + if c = oldest.slot then oldest.amount else 0 } := by
      rw [putOnTop_get, raise_claims, evicted_get]
    show (pushRecord r s).stack.records = _ ∧ (∀ c, (pushRecord r s).claims.get c = _) ∧
      (pushRecord r s).alerts.get _ = _ ∧ ∀ n, _ → (pushRecord r s).alerts.get n = _
    rw [hfull, putOnTop_alerts]
    exact ⟨rfl, hclaims, alertState_raise .stackOverflow _, raise_same_but .stackOverflow (evicted kept oldest s)⟩
  · rfl
  · exact frame_of_pushed ((htouch.andThen (touches_withPass _ _)).weaken rfl)

/-! ## Restores (R97, R98, R114) -/

section Restore

variable {p : Pass} {s : State}

/-- A pass that goes on to another stage. -/
def atStage (st : PassStage) (p : Pass) : Pass := { p with stage := st }

theorem restoreRuns_iff (p : Pass) (s : State) :
    restoreRuns p s = true ↔ p.decisions.shedMade = false ∧ p.snapshot.row.restore = true ∧ s.stack.records ≠ [] ∧
      p.snapshot.restoreSpacing ≤ s.balance.spacing := by
  simp [restoreRuns, and_assoc]

theorem exec_restoreStage (hs : s.supplied = true) (hp : s.balance.pass = some p) (hst : p.stage = .pushing)
    (h : p.decisions.toPush = []) :
    exec .restoreStage s = .next (withPass (atStage (if restoreRuns p s then .popping else .restored) p) s) := by
  rw [exec_inStage (f := restoreStep) rfl hs hp hst]
  simp only [restoreStep, h, List.isEmpty_nil, if_true]
  rfl

theorem restoreFits_iff (p : Pass) (amount : Nat) :
    restoreFits p amount = true ↔
      sumCeilings p.decisions.work + amount + p.snapshot.row.restoreMargin ≤ p.snapshot.distributable := by
  simp [restoreFits]

theorem popStep_nil (h : s.stack.records = []) : popStep p s = withPass (atStage .restored p) s := by
  simp only [popStep, h]
  rfl

theorem popStep_unfit {r : ShedRecord} {rest : List ShedRecord} (h : s.stack.records = r :: rest)
    (hf : restoreFits p r.amount = false) : popStep p s = withPass (atStage .restored p) s := by
  simp only [popStep, h, hf]
  rfl

/-- The pass with a record popped on its working copy. -/
def popNoted (r : ShedRecord) (p : Pass) : Pass :=
  { p with
    stage := .restored
    decisions :=
      { p.decisions with work := p.decisions.work.modify r.slot (popWork r.amount), restored := some r.slot } }

theorem popStep_fit {r : ShedRecord} {rest : List ShedRecord} (h : s.stack.records = r :: rest)
    (hf : restoreFits p r.amount = true) : popStep p s = withPass (popNoted r p) (popRecord r rest s) := by
  simp only [popStep, h, hf]
  rfl

theorem popRecord_get (r : ShedRecord) (rest : List ShedRecord) (s : State) (c : Slot) :
    (popRecord r rest s).claims.get c =
      { s.claims.get c with withheld := (s.claims.get c).withheld - if c = r.slot then r.amount else 0 } := by
  refine (Tab.get_modify _ _ _ _).trans ?_
  by_cases h : c = r.slot
  · simp [h]
  · simp [h]

/-- The working claim with its w lowered by a popped amount. -/
def lowered (amount : Nat) (w : WorkClaim) : WorkClaim := { w with withheld := w.withheld - amount }

theorem popWork_eq (amount : Nat) (w : WorkClaim) :
    popWork amount w =
      { lowered amount w with
        state := if w.state = .shed ∧ w.m ≤ (lowered amount w).ceiling then .admitted else w.state } := by
  have hcond : ((lowered amount w).state = .shed && decide ((lowered amount w).m ≤ (lowered amount w).ceiling)) = true ↔
      w.state = .shed ∧ w.m ≤ (lowered amount w).ceiling := by
    simp only [Bool.and_eq_true, decide_eq_true_eq]
    rfl
  show (if ((lowered amount w).state = .shed && decide ((lowered amount w).m ≤ (lowered amount w).ceiling)) = true then
    { lowered amount w with state := .admitted } else lowered amount w) = _
  by_cases h : w.state = .shed ∧ w.m ≤ (lowered amount w).ceiling
  · rw [if_pos (hcond.mpr h), if_pos h]
  · rw [if_neg (hcond.not.mpr h), if_neg h]
    rfl

/-- The state decides nothing of a ceiling. -/
theorem popWork_ceiling (amount : Nat) (w : WorkClaim) : (popWork amount w).ceiling = (lowered amount w).ceiling := by
  rw [popWork_eq]
  rfl

end Restore

/-- Settles O41: the restore stage by its four conditions, the pop by what stands on top. -/
theorem restorePopsOneRecordThatFits : Obligations.RestorePopsOneRecordThatFits := by
  refine fun p s hs hp => ⟨fun hst h => ?restore, fun hst => ⟨fun h => ?empty, fun r rest h => ⟨fun hf => ?unfit, fun hf => ?fit⟩⟩⟩
  case restore =>
    refine ⟨_, _, exec_restoreStage hs hp hst h, rfl, ?_, ?_, rfl, rfl, rfl⟩
    · rw [← restoreRuns_iff]
      cases restoreRuns p s <;> simp [atStage]
    · cases restoreRuns p s <;> simp [atStage]
  case empty =>
    exact ⟨withPass (atStage .restored p) s, (exec_inStage (f := popStep) rfl hs hp hst).trans (by rw [popStep_nil h]), rfl,
      rfl⟩
  case unfit =>
    have hno : restoreFits p r.amount = false := by
      rw [← Bool.not_eq_true, restoreFits_iff]
      omega
    exact ⟨withPass (atStage .restored p) s,
      (exec_inStage (f := popStep) rfl hs hp hst).trans (by rw [popStep_unfit h hno]), rfl, rfl⟩
  case fit =>
    have hwork : (popNoted r p).decisions.work.get r.slot = popWork r.amount (p.decisions.work.get r.slot) :=
      Tab.get_modify_same _ _ _
    refine ⟨withPass (popNoted r p) (popRecord r rest s), popNoted r p,
      (exec_inStage (f := popStep) rfl hs hp hst).trans (by rw [popStep_fit h ((restoreFits_iff p _).mpr hf)]), rfl, rfl, rfl, popRecord_get r rest s, rfl, fun c hc => Tab.get_modify_ne _ _ hc, ?_, ?_, rfl, rfl, rfl⟩
    · rw [hwork, popWork_eq]
      rfl
    · rw [hwork, popWork_ceiling, popWork_eq]
      rfl

/-! ## Admission (R99, R100) -/

section Admission

variable {p : Pass} {s : State}

/-- The claim is WAITING and its m fits what D leaves. -/
def admissible (snap : Snapshot) (work : Tab 5 WorkClaim) (c : Slot) : Bool :=
  (work.get c).state = .waiting &&
    sumCeilings work + snap.row.admissionMargin + (work.get c).m ≤ snap.distributable

theorem admissible_iff (snap : Snapshot) (work : Tab 5 WorkClaim) (c : Slot) :
    admissible snap work c = true ↔ (work.get c).state = .waiting ∧
      sumCeilings work + snap.row.admissionMargin + (work.get c).m ≤ snap.distributable := by simp [admissible]

theorem admissionRuns_iff (p : Pass) (s : State) :
    admissionRuns p s = true ↔
      p.decisions.shedMade = false ∧ p.snapshot.row.admits = true ∧ s.stack.records = [] := by
  simp [admissionRuns, and_assoc]

/-- The slot that the admission stage admits. -/
def admittedSlot (p : Pass) (s : State) : Option Slot :=
  if admissionRuns p s then admits p.snapshot p.decisions.work else none

/-- The pass after its admission stage. -/
def admissionNoted (p : Pass) (s : State) : Pass :=
  { p with
    stage := .admitted
    decisions :=
      { p.decisions with
        work := admitWork (admittedSlot p s) p.decisions.work, admitted := admittedSlot p s
        sumCeilings := sumCeilings (admitWork (admittedSlot p s) p.decisions.work) } }

theorem admittedSlot_some {c : Slot} (h : admittedSlot p s = some c) : admits p.snapshot p.decisions.work = some c := by
  unfold admittedSlot at h
  split at h
  · exact h
  · exact absurd h (by simp)

theorem serveOrder_pairwise (ranks : Tab 5 Nat) :
    (serveOrder ranks).Pairwise fun a b => cutBefore ranks b a = true :=
  List.pairwise_reverse.mpr (cutOrder_pairwise ranks)

theorem mem_serveOrder (ranks : Tab 5 Nat) (c : Slot) : c ∈ serveOrder ranks :=
  List.mem_reverse.mpr (mem_cutOrder ranks c)

theorem admits_some {snap : Snapshot} {work : Tab 5 WorkClaim} {c : Slot} (h : admits snap work = some c) :
    admissible snap work c = true := by
  have hc : (serveOrder snap.ranks).find? (admissible snap work) = some c := h
  exact List.find?_some hc

theorem admits_first {snap : Snapshot} {work : Tab 5 WorkClaim} {c d : Slot} (h : admits snap work = some c)
    (hd : admissible snap work d = true) (hne : d ≠ c) :
    snap.ranks.get c < snap.ranks.get d ∨ snap.ranks.get c = snap.ranks.get d ∧ c < d := by
  have hcut := find_first (serveOrder_pairwise snap.ranks) h (mem_serveOrder _ d) hd hne
  exact ((cutBefore_iff _ _ _).mp hcut).imp_right fun ⟨he, hlt⟩ => ⟨he.symm, hlt⟩

theorem admits_none {snap : Snapshot} {work : Tab 5 WorkClaim} (h : admits snap work = none) (c : Slot) :
    ¬admissible snap work c = true := List.find?_eq_none.mp h c (mem_serveOrder _ c)

theorem admitWork_same (c : Slot) (work : Tab 5 WorkClaim) :
    (admitWork (some c) work).get c = { work.get c with state := .admitted } := Tab.get_modify_same _ _ _

theorem admitWork_ne {o : Option Slot} {c : Slot} (h : o ≠ some c) (work : Tab 5 WorkClaim) :
    (admitWork o work).get c = work.get c := by
  cases o with
  | none => rfl
  | some d => exact Tab.get_modify_ne _ _ fun e => h (congrArg some e.symm)

end Admission

/-- Settles O42: the claim admitted is the first admissible one in serving order. -/
theorem admissionTakesTheFirstThatFits : Obligations.AdmissionTakesTheFirstThatFits := by
  intro p s hs hp hst fits runs
  have hfits (c : Slot) : fits c ↔ admissible p.snapshot p.decisions.work c = true := (admissible_iff _ _ c).symm
  have hruns : runs ↔ admissionRuns p s = true := (admissionRuns_iff p s).symm
  refine ⟨_, admissionNoted p s, exec_inStage (f := admissionStep) rfl hs hp hst, rfl, rfl, fun h => ?_, fun h hn c => ?_,
    fun c hc => ⟨?_, ?_, fun d hd hne => ?_⟩, fun c hc => admitWork_ne hc _, rfl, rfl, rfl, rfl⟩
  · exact if_neg (hruns.not.mp h)
  · have hnone : admits p.snapshot p.decisions.work = none := (if_pos (hruns.mp h)).symm.trans hn
    exact (hfits c).not.mpr (admits_none hnone c)
  · exact (hfits c).mpr (admits_some (admittedSlot_some hc))
  · have hc : admittedSlot p s = some c := hc
    show (admitWork (admittedSlot p s) p.decisions.work).get c = _
    rw [hc, admitWork_same]
  · exact admits_first (admittedSlot_some hc) ((hfits d).mp hd) hne

/-! ## Allotments (R101, R102) -/

theorem sumWork_eq (f : WorkClaim → Nat) (work : Tab 5 WorkClaim) :
    sumWork f work = (allSlots.map fun c => f (work.get c)).sum := by
  rw [sumWork, Tab.list_eq_map, List.map_map]
  rfl

theorem newAllotment_admitted {w : WorkClaim} (h : w.state = .admitted) : newAllotment w = w.m := by
  simp only [newAllotment, h]

theorem newAllotment_running {w : WorkClaim} (h : w.state = .running) :
    newAllotment w = if w.ceiling ≤ w.allotment then w.ceiling else Nat.min (w.allotment + rampOf w) w.ceiling := by
  simp only [newAllotment, h]

theorem newAllotment_other {w : WorkClaim} (ha : w.state ≠ .admitted) (hr : w.state ≠ .running) : newAllotment w = 0 := by
  unfold newAllotment
  split <;> first | rfl | contradiction

/-- No allotment exceeds its ceiling where no admitted m does. -/
theorem newAllotment_le {w : WorkClaim} (h : w.state = .admitted → w.m ≤ w.ceiling) :
    newAllotment w ≤ if holdsGas w then w.ceiling else 0 := by
  by_cases ha : w.state = .admitted
  · have hg : holdsGas w = true := by simp [holdsGas, ha]
    rw [newAllotment_admitted ha, if_pos hg]
    exact h ha
  · by_cases hr : w.state = .running
    · have hg : holdsGas w = true := by simp [holdsGas, hr]
      rw [newAllotment_running hr, if_pos hg]
      split
      · exact Nat.le_refl _
      · exact Nat.min_le_right _ _
    · rw [newAllotment_other ha hr]
      exact Nat.zero_le _

/-- Settles O43: each allotment by its claim's state, and the sums term by term. -/
theorem allotmentsRampAndNeverExceedCeilings : Obligations.AllotmentsRampAndNeverExceedCeilings := by
  intro p s hs hp hst
  refine ⟨_, _, exec_inStage (f := allotmentStep) rfl hs hp hst, rfl, rfl, fun c => ?_, ?_, fun h => ?_, rfl, rfl, rfl, rfl⟩
  · have hget : (Tab.gen fun c => newAllotment (p.decisions.work.get c)).get c = newAllotment (p.decisions.work.get c) :=
      Tab.get_gen _ _
    refine ⟨fun h => hget.trans (newAllotment_admitted h), fun h hle => ?_, fun h hlt => ?_,
      fun ha hr => hget.trans (newAllotment_other ha hr)⟩
    · exact hget.trans ((newAllotment_running h).trans (if_pos hle))
    · exact hget.trans ((newAllotment_running h).trans (if_neg (by omega)))
  · refine (sumWork_eq _ _).trans (congrArg List.sum (List.map_congr_left fun c _ => ?_))
    exact (Tab.get_gen (fun c => newAllotment (p.decisions.work.get c)) c).symm
  · show sumWork newAllotment p.decisions.work ≤ sumWork _ p.decisions.work
    rw [sumWork_eq, sumWork_eq]
    exact List.sum_le_sum fun c _ => newAllotment_le (h c)

end Sys2Proof.Machine
end

section
/-! The flare sequencer by its state: the hand-over of a pass, a report, and its timers (R121 to R132, R136). -/

namespace Sys2Proof.Machine

open Sys2Proof

/-! ## What the meter stage makes of a change of the sequencer -/

section Followed

variable {s u : State} {as : List Alert}

/-- The flare's meter alone follows a change of the sequencer, and no record beside its METER_STALL moves with it. -/
theorem flare_followed (hu : TouchesOnly [.flare, .alerts, .policy, .balance] s u) (ha : AlertsSameBut as s u)
    (has : ∀ m, Alert.meterStall m ∉ as) :
    MetersSameBut flareMeter s (followFlow s u) ∧ FlowFollowed s (followFlow s u) ∧
      AlertsSameBut (as ++ [.meterStall flareMeter]) s (followFlow s u) := by
  have hconfig : u.config = s.config := hu.same .config rfl
  have hclaims : u.claims = s.claims := hu.same .claims rfl
  have hmeters : u.meters = s.meters := hu.same .meters rfl
  have hflow : ∀ m, m ≠ flareMeter → flowExpected u m = flowExpected s m :=
    fun _ => flowExpected_ne_flareMeter (congrArg (·.inUse) hconfig) hclaims
  exact ⟨fun m hm => by rw [followFlow_meter (hflow m hm), hmeters],
    followFlow_flowFollowed hmeters fun m => alertState_of_sameBut ha (has m), followFlow_alertsSameBut ha hflow⟩

/-- Where gas burns neither before nor after, the meter stage has nothing to follow. -/
theorem flare_unfollowed (hu : TouchesOnly [.flare, .alerts, .policy, .balance] s u)
    (hs : s.flare.state ≠ .burning) (ht : u.flare.state ≠ .burning) : followFlow s u = u := by
  have hconfig : u.config = s.config := hu.same .config rfl
  have hclaims : u.claims = s.claims := hu.same .claims rfl
  exact followFlow_same fun m => flowExpected_not_burning (congrArg (·.inUse) hconfig) hclaims hs ht m

theorem frame_of_flare {t : State} (h : TouchesOnly [.flare, .meters, .alerts, .balance] s t) :
    { t with flare := s.flare, meters := s.meters, alerts := s.alerts, balance := s.balance } = s := by
  have hr := h.restored
  simp only [restore, List.foldr, Block.copy] at hr
  exact hr

theorem frame_of_flareStatus {t : State} (h : TouchesOnly [.flare, .meters, .alerts, .policy, .ports] s t) :
    { t with flare := s.flare, meters := s.meters, alerts := s.alerts, policy := s.policy, ports := s.ports } = s := by
  have hr := h.restored
  simp only [restore, List.foldr, Block.copy] at hr
  exact hr

end Followed

/-! ## The hand-over (R121, R125, R126, R129, R130) -/

section HandOver

variable {call : Bool} {demand : Nat} {s : State}

/-- The demand as the sequencer holds it (R121). -/
def heldOver (call : Bool) (demand : Nat) (s : State) : Nat :=
  if call then clampNat s.config.flareMin s.config.flareMax demand else 0

theorem takeCall_flare :
    (takeCall call demand s).flare = { s.flare with heldCall := call, heldDemand := heldOver call demand s } := rfl

theorem abandonFlare_flare (t : State) : (abandonFlare t).flare = toOff t.flare := rfl

theorem enterHolding_flare (t : State) :
    (enterHolding t).flare = if t.config.minBurn = 0 then toOff t.flare
      else { t.flare with state := .holding, minBurn := some 0, demand := t.config.flareMin } := by
  unfold enterHolding
  split <;> rfl

/-- The held figures are taken in every state, and the permit and the report stay. -/
theorem handOver_held :
    (handOver call demand s).flare.heldCall = call ∧ (handOver call demand s).flare.heldDemand = heldOver call demand s ∧
      (handOver call demand s).flare.permit = s.flare.permit ∧
      (handOver call demand s).flare.report = s.flare.report := by
  have started (f : Flare) : (tryStart f).heldCall = f.heldCall ∧ (tryStart f).heldDemand = f.heldDemand ∧
      (tryStart f).permit = f.permit ∧ (tryStart f).report = f.report := by
    unfold tryStart
    split <;> exact ⟨rfl, rfl, rfl, rfl⟩
  cases h : s.flare.state with
  | off => rw [handOver_off h]; exact started _
  | called => rw [handOver_called h]; split <;> exact ⟨rfl, rfl, rfl, rfl⟩
  | burning =>
    rw [handOver_burning h]
    split
    · exact ⟨rfl, rfl, rfl, rfl⟩
    · rw [enterHolding_flare]
      split <;> exact ⟨rfl, rfl, rfl, rfl⟩
  | holding => rw [handOver_holding h]; split <;> exact ⟨rfl, rfl, rfl, rfl⟩
  | failed => rw [handOver_failed h]; exact ⟨rfl, rfl, rfl, rfl⟩

/-- The sequencer with a call taken. -/
def calling (call : Bool) (held : Nat) (f : Flare) : Flare := { f with heldCall := call, heldDemand := held }

theorem handOver_flare_off (h : s.flare.state = .off) :
    (handOver call demand s).flare = tryStart (calling call (heldOver call demand s) s.flare) := by
  rw [handOver_off h]
  rfl

theorem handOver_flare_called (h : s.flare.state = .called) :
    (handOver call demand s).flare =
      if call then { calling call (heldOver call demand s) s.flare with demand := heldOver call demand s }
      else toOff (calling call (heldOver call demand s) s.flare) := by
  rw [handOver_called h]
  cases call <;> rfl

theorem handOver_flare_burning (h : s.flare.state = .burning) :
    (handOver call demand s).flare =
      if call then { calling call (heldOver call demand s) s.flare with demand := heldOver call demand s }
      else if s.config.minBurn = 0 then toOff (calling call (heldOver call demand s) s.flare)
      else { calling call (heldOver call demand s) s.flare with
        state := .holding, minBurn := some 0, demand := s.config.flareMin } := by
  rw [handOver_burning h]
  cases call
  · exact enterHolding_flare _
  · rfl

theorem handOver_flare_holding (h : s.flare.state = .holding) :
    (handOver call demand s).flare =
      if call then { calling call (heldOver call demand s) s.flare with
        state := .burning, minBurn := none, demand := heldOver call demand s }
      else { calling call (heldOver call demand s) s.flare with demand := s.config.flareMin } := by
  rw [handOver_holding h]
  cases call <;> rfl

theorem handOver_flare_failed (h : s.flare.state = .failed) :
    (handOver call demand s).flare = calling call (heldOver call demand s) s.flare := by
  rw [handOver_failed h]
  rfl

theorem enterHolding_alerts (t : State) : (enterHolding t).alerts = t.alerts := by
  unfold enterHolding
  split <;> rfl

/-- Out of CALLED without a call FLARE_RETRY ends; nowhere else does a hand-over touch a record. -/
theorem handOver_alerts :
    (handOver call demand s).alerts =
      if s.flare.state = .called ∧ call = false then alertEnd .flareRetry s.alerts else s.alerts := by
  cases h : s.flare.state with
  | off => rw [handOver_off h]; rfl
  | called => rw [handOver_called h]; cases call <;> rfl
  | burning => rw [handOver_burning h]; cases call; exacts [enterHolding_alerts _, rfl]
  | holding => rw [handOver_holding h]; cases call <;> rfl
  | failed => rw [handOver_failed h]; rfl

theorem handOver_sameBut : AlertsSameBut [.flareRetry] s (handOver call demand s) := fun n hn => by
  rw [handOver_alerts]
  split
  · exact lower_same_but .flareRetry s n hn
  · rfl

end HandOver

/-- The pass after its flare stage. -/
def flareNoted (p : Pass) : Pass :=
  { p with stage := .flared, decisions := { p.decisions with call := flareCall p, demand := passDemand p } }

/-- Settles O44: the demand is clamped twice, and the hand-over acts by the state. -/
theorem flareStageHandsOverTheCall : Obligations.FlareStageHandsOverTheCall := by
  intro p s hs hp hst hsnap hrange call demand held
  have hdemand : passDemand p = demand := by
    simp only [passDemand, clampNat_eq hsnap]
    rfl
  have hheld : heldOver call demand s = held := by
    simp only [heldOver, clampNat_eq hrange]
    rfl
  obtain ⟨hcall, hdem, hpermit, hreport⟩ := handOver_held (call := call) (demand := demand) (s := s)
  have htouch := (touches_handOver s call demand).andThen (touches_withPass _ (flareNoted p))
  have hbalance : (handOver call demand s).balance = s.balance := (touches_handOver s call demand).same .balance rfl
  obtain ⟨hmeters, hfollowed, halerts⟩ := flare_followed (u := withPass (flareNoted p) (handOver call demand s))
    (htouch.weaken rfl) (handOver_sameBut (call := call) (demand := demand) (s := s)) (by simp)
  have hexec : exec .flareStage s = .next (followFlow s (withPass (flareNoted p) (handOver call demand s))) := by
    rw [exec_inStage_followed (f := flareStep) rfl hs hp hst, ← hdemand]
    rfl
  rw [← hheld]
  refine ⟨_, flareNoted p, hexec, rfl, rfl, by rw [← hdemand]; rfl, hcall, hdem, fun h => ?off, fun h hc => ?called,
    fun h hc => ?abandoned, fun h hc => ?burning, fun h hc hm => ?holds, fun h hc hm => ?stops, fun h hc => ?relit,
    fun h hc => ?held, fun h => ?failed, hpermit, hreport, hmeters, hfollowed, halerts, rfl,
    balance_withPass_frame _ hbalance, frame_of_flare ((htouch.andThen (touches_followFlow s _)).weaken rfl)⟩
  case off =>
    have hf : (handOver call demand s).flare = _ := handOver_flare_off h
    by_cases hlit : call = true ∧ s.flare.permit = true ∧ s.flare.report.isReady = true
    · rw [if_pos hlit]
      obtain ⟨hcall, hpermit, hready⟩ := hlit
      have hf := hf.trans (tryStart_lit h hcall hpermit hready)
      exact ⟨congrArg (·.state) hf, congrArg (·.attempts) hf, congrArg (·.ignition) hf, congrArg (·.demand) hf⟩
    · rw [if_neg hlit]
      have hf := hf.trans (tryStart_unlit fun ⟨_, hlit'⟩ => hlit hlit')
      exact ⟨(congrArg (·.state) hf).trans h, congrArg (·.demand) hf⟩
  case called =>
    have hf : (handOver call demand s).flare = _ := (handOver_flare_called h).trans (if_pos hc)
    exact ⟨(congrArg (·.state) hf).trans h, congrArg (·.demand) hf, congrArg (·.ignition) hf, congrArg (·.attempts) hf⟩
  case abandoned =>
    have hf : (handOver call demand s).flare = _ := (handOver_flare_called h).trans (if_neg (by simp [hc]))
    have hends : AlertEnded .flareRetry s (handOver call demand s) := by
      rw [AlertEnded, alertState, handOver_alerts, if_pos ⟨h, hc⟩]
      exact alertEnded_lower .flareRetry s
    exact ⟨congrArg (·.state) hf, congrArg (·.demand) hf, congrArg (·.attempts) hf, congrArg (·.ignition) hf,
      (followFlow_alertState (by simp) _ _).trans hends⟩
  case burning =>
    have hf : (handOver call demand s).flare = _ := (handOver_flare_burning h).trans (if_pos hc)
    exact ⟨(congrArg (·.state) hf).trans h, congrArg (·.demand) hf⟩
  case holds =>
    have hf : (handOver call demand s).flare = _ :=
      (handOver_flare_burning h).trans ((if_neg (by simp [hc])).trans (if_neg hm))
    exact ⟨congrArg (·.state) hf, congrArg (·.demand) hf, congrArg (·.minBurn) hf, congrArg (·.attempts) hf⟩
  case stops =>
    have hf : (handOver call demand s).flare = _ :=
      (handOver_flare_burning h).trans ((if_neg (by simp [hc])).trans (if_pos hm))
    exact ⟨congrArg (·.state) hf, congrArg (·.demand) hf⟩
  case relit =>
    have hf : (handOver call demand s).flare = _ := (handOver_flare_holding h).trans (if_pos hc)
    exact ⟨congrArg (·.state) hf, congrArg (·.demand) hf, congrArg (·.minBurn) hf, congrArg (·.starts) hf,
      congrArg (·.attempts) hf⟩
  case held =>
    have hf : (handOver call demand s).flare = _ := (handOver_flare_holding h).trans (if_neg (by simp [hc]))
    exact ⟨(congrArg (·.state) hf).trans h, congrArg (·.demand) hf, congrArg (·.minBurn) hf⟩
  case failed =>
    have hf : (handOver call demand s).flare = _ := handOver_flare_failed h
    exact ⟨(congrArg (·.state) hf).trans h, congrArg (·.demand) hf⟩

/-! ## Reports (R123, R126, R127, R129, R130, R132) -/

section Report

variable {r : FlareReport} {s : State}

/-- The sequencer with a report recorded. -/
def reported (r : FlareReport) (f : Flare) : Flare := { f with report := r }

/-- The end of an attempt below the attempts setting. -/
def retried (f : Flare) : Flare := { f with state := .called, attempts := f.attempts + 1, ignition := some 0 }

/-- The end of the last attempt. -/
def gaveUp (f : Flare) : Flare := { f with state := .failed, ignition := none, demand := 0 }

theorem endAttempt_retries {s : State} (h : s.flare.attempts < s.config.flareAttempts) :
    endAttempt s = raise .flareRetry (withFlare retried s) := endAttempt_retry h

theorem endAttempt_gaveUp {s : State} (h : s.config.flareAttempts ≤ s.flare.attempts) :
    endAttempt s = signal .flareFailed (raise .flareFailed (lower .flareRetry (withFlare gaveUp s))) :=
  endAttempt_fails h

/-- What a retry leaves. -/
theorem endAttempt_below (h : s.flare.attempts < s.config.flareAttempts) :
    (endAttempt s).flare = retried s.flare ∧ alertState .flareRetry (endAttempt s) = .active ∧
      AlertsSameBut [.flareRetry] s (endAttempt s) ∧ (endAttempt s).policy = s.policy := by
  rw [endAttempt_retries h]
  exact ⟨rfl, alertState_raise _ _, raise_same_but .flareRetry (withFlare retried s), rfl⟩

/-- What the last attempt leaves. -/
theorem endAttempt_last (h : s.config.flareAttempts ≤ s.flare.attempts) :
    (endAttempt s).flare = gaveUp s.flare ∧ AlertEnded .flareRetry s (endAttempt s) ∧
      alertState .flareFailed (endAttempt s) = .active ∧ AlertsSameBut [.flareFailed, .flareRetry] s (endAttempt s) ∧
      (endAttempt s).policy = { s.policy with
        switch := fireBindings s.config.bindings s.policy.active .flareFailed s.policy.switch } := by
  have hraised : alertState .flareRetry (raise .flareFailed (lower .flareRetry (withFlare gaveUp s))) =
      alertState .flareRetry (lower .flareRetry (withFlare gaveUp s)) :=
    alertState_of_sameBut (raise_same_but .flareFailed _) (by simp)
  rw [endAttempt_gaveUp h]
  exact ⟨rfl, hraised.trans (alertEnded_lower .flareRetry (withFlare gaveUp s)), alertState_raise _ _,
    raise_lower_sameBut (withFlare gaveUp s) _ _, rfl⟩

/-- The end of an attempt touches its two records alone. -/
theorem endAttempt_sameBut (s : State) : AlertsSameBut [.flareRetry, .flareFailed] s (endAttempt s) := fun n hn => by
  simp only [List.map_cons, List.map_nil, List.mem_cons, List.not_mem_nil, or_false, not_or] at hn
  obtain ⟨hretry, hfailed⟩ := hn
  by_cases h : s.flare.attempts < s.config.flareAttempts
  · obtain ⟨-, -, hsame, -⟩ := endAttempt_below h
    exact hsame n (by simpa using hretry)
  · obtain ⟨-, -, -, hsame, -⟩ := endAttempt_last (Nat.not_lt.mp h)
    exact hsame n (by simpa using ⟨hfailed, hretry⟩)

theorem proveFlame_eq (s : State) :
    proveFlame s = lower .flareRetry (withFlare (fun f => { f with
      state := .burning, ignition := none, starts := f.starts + 1 }) s) := rfl

/-- The report is recorded in every state. -/
theorem takeReport_report : (takeReport r s).flare.report = r := by
  have started (f : Flare) : (tryStart f).report = f.report := by
    unfold tryStart
    split <;> rfl
  have ended (t : State) : (endAttempt t).flare.report = t.flare.report := by
    unfold endAttempt
    split <;> rfl
  cases h : s.flare.state with
  | off => rw [takeReport_off h]; exact started _
  | called => rw [takeReport_called h]; split; exacts [rfl, ended _]
  | burning => rw [takeReport_burning h]; split; exacts [rfl, ended _]
  | holding => rw [takeReport_holding h]; split <;> rfl
  | failed => rw [takeReport_failed h]; rfl

theorem recordReport_sameBut (as : List Alert) : AlertsSameBut as s (recordReport r s) := fun _ _ => rfl

/-- A report touches the sequencer's two records alone. -/
theorem takeReport_sameBut : AlertsSameBut [.flareRetry, .flareFailed] s (takeReport r s) := by
  have proved : AlertsSameBut [.flareRetry, .flareFailed] s (proveFlame (recordReport r s)) := fun n hn =>
    lower_same_but .flareRetry (withFlare (fun f => { f with state := .burning, ignition := none, starts := f.starts + 1 })
      (recordReport r s)) n fun h => hn (by simp at h; simp [h])
  have ended : AlertsSameBut [.flareRetry, .flareFailed] s (endAttempt (recordReport r s)) :=
    endAttempt_sameBut (recordReport r s)
  cases h : s.flare.state with
  | off => rw [takeReport_off h]; exact fun _ _ => rfl
  | called => rw [takeReport_called h]; split; exacts [proved, ended]
  | burning => rw [takeReport_burning h]; split; exacts [recordReport_sameBut _, ended]
  | holding => rw [takeReport_holding h]; split <;> exact fun _ _ => rfl
  | failed => rw [takeReport_failed h]; exact recordReport_sameBut _

/-- Nothing but the recorded report changes. -/
theorem recordReport_alerts (h : takeReport r s = recordReport r s) : (followFlow s (takeReport r s)).alerts = s.alerts := by
  have hflow : ∀ m, flowExpected (recordReport r s) m = flowExpected s m := fun _ => flowExpected_congr rfl rfl rfl _
  rw [h, followFlow_same hflow]
  rfl

/-- Nothing but the sequencer changes, and no gas burns before or after. -/
theorem takeReport_alerts {g : Flare → Flare} (h : takeReport r s = withFlare g (recordReport r s))
    (hs : s.flare.state ≠ .burning) (ht : (takeReport r s).flare.state ≠ .burning) :
    (followFlow s (takeReport r s)).alerts = s.alerts := by
  rw [flare_unfollowed ((touches_takeReport s r).weaken rfl) hs ht, h]
  rfl

/-- A FLARE_STATUS taken: all that the answer adds is its own port. -/
theorem flareStatus_taken (flame ready fault : Bool) (hs : s.supplied = true) (hr : (⟨flame, ready, fault⟩ : FlareReport) = r) :
    ∃ t, exec (.flareStatus 6 flame ready fault) s = .next t ∧ answerStatus 6 t = some .done ∧ PortsSameBut 6 s t ∧
      t.flare = (takeReport r s).flare ∧ t.alerts = (followFlow s (takeReport r s)).alerts ∧
      t.policy = (takeReport r s).policy ∧ MetersSameBut flareMeter s t ∧ FlowFollowed s t ∧
      AlertsSameBut [.flareRetry, .flareFailed, .meterStall flareMeter] s t ∧
      { t with flare := s.flare, meters := s.meters, alerts := s.alerts, policy := s.policy, ports := s.ports } = s := by
  have hexec : exec (.flareStatus 6 flame ready fault) s =
      request 6 0x20 (fun s => { state := takeReport r s, status := .done }) s := by
    subst hr
    rfl
  have htouch := touches_takeReport s r
  have hports : (takeReport r s).ports = s.ports := htouch.same .ports rfl
  obtain ⟨hmeters, hfollowed, halerts⟩ := flare_followed (htouch.weaken rfl) takeReport_sameBut (by simp)
  refine ⟨respond 6 0x20 .done [] (followFlow s (takeReport r s)), ?_, answerStatus_respond ..,
    portsSameBut_answered (by simpa using hports) _ _ _, by simp, by simp, by simp, hmeters, hfollowed, halerts,
    frame_of_flareStatus (((htouch.andThen (touches_followFlow s _)).andThen (touches_respond _ _ _ _ _)).weaken rfl)⟩
  rw [hexec, request_served _ hs (by decide)]

theorem takeReport_off_flare (h : s.flare.state = .off) : (takeReport r s).flare = tryStart (reported r s.flare) := by
  rw [takeReport_off h]
  rfl

theorem takeReport_off_alerts (h : s.flare.state = .off) : (followFlow s (takeReport r s)).alerts = s.alerts := by
  refine takeReport_alerts (takeReport_off h) (by simp [h]) ?_
  rw [takeReport_off_flare h]
  exact tryStart_not_burning (by simp [reported, h])

/-- A report with the flame out, out of CALLED and BURNING alike. -/
theorem takeReport_ends (h : s.flare.state = .called ∨ s.flare.state = .burning) (hp : r.proven = false) :
    takeReport r s = endAttempt (recordReport r s) := by
  obtain h | h := h
  · rw [takeReport_called h, hp]
    rfl
  · rw [takeReport_burning h, hp]
    rfl

/-- A report that changes nothing else. -/
theorem takeReport_records
    (h : (s.flare.state = .burning ∨ s.flare.state = .holding) ∧ r.proven = true ∨ s.flare.state = .failed) :
    takeReport r s = recordReport r s := by
  obtain ⟨h | h, hp⟩ | h := h
  · rw [takeReport_burning h, hp]
    rfl
  · rw [takeReport_holding h, hp]
    rfl
  · exact takeReport_failed h

theorem takeReport_active : (takeReport r s).policy.active = s.policy.active := by
  have ended (t : State) : (endAttempt t).policy.active = t.policy.active := by
    unfold endAttempt
    split <;> rfl
  cases h : s.flare.state with
  | off => rw [takeReport_off h]; rfl
  | called => rw [takeReport_called h]; split; exacts [rfl, ended _]
  | burning => rw [takeReport_burning h]; split; exacts [rfl, ended _]
  | holding => rw [takeReport_holding h]; split <;> rfl
  | failed => rw [takeReport_failed h]; rfl

end Report

/-- Settles O46: a report is recorded, and the state decides what follows. -/
theorem flareStatusActsByState : Obligations.FlareStatusActsByState := by
  intro flame ready fault s hs f proven
  obtain ⟨r, hr⟩ : ∃ r : FlareReport, (⟨flame, ready, fault⟩ : FlareReport) = r := ⟨_, rfl⟩
  have hproven : r.proven = proven := by subst hr; rfl
  have hready : r.isReady = true ↔ ready = true ∧ fault = false := by subst hr; simp [FlareReport.isReady]
  obtain ⟨t, hexec, hans, hports, hflare, halerts, hpolicy, hmeters, hfollowed, hsame, hrest⟩ :=
    flareStatus_taken flame ready fault hs hr
  have hstate (a : Alert) (ha : ∀ m, a ≠ .meterStall m) : alertState a t = alertState a (takeReport r s) := by
    rw [alertState, halerts]
    exact followFlow_alertState ha _ _
  rw [hr]
  refine ⟨t, hexec, hans, hports, hflare ▸ takeReport_report,
    fun h hc hp hy hf => ?lit, fun h hn => ?unlit, fun h hp => ?proved, fun h hp => ?burns, fun h hp ha => ?retries,
    fun h hp ha => ?fails, fun h hp => ?goesOut, fun h => ?stays, hmeters, hfollowed, hsame,
    by rw [hpolicy, takeReport_active], hrest⟩
  case lit =>
    rw [hflare, halerts, takeReport_off_flare h, takeReport_off_alerts h]
    exact ⟨tryStart_lit h hc hp (hready.mpr ⟨hy, hf⟩), rfl⟩
  case unlit =>
    rw [hflare, halerts, takeReport_off_flare h, takeReport_off_alerts h]
    exact ⟨tryStart_unlit fun ⟨_, hc, hp, hy⟩ => hn ⟨hc, hp, hready.mp hy⟩, rfl⟩
  case proved =>
    have htake : takeReport r s = proveFlame (recordReport r s) := by rw [takeReport_called h, hproven, hp]; rfl
    rw [hflare, AlertEnded, hstate _ (by simp), htake]
    exact ⟨rfl, alertEnded_lower .flareRetry s⟩
  case burns =>
    have htake : takeReport r s = recordReport r s := takeReport_records (.inl ⟨.inl h, hproven.trans hp⟩)
    rw [hflare, halerts, recordReport_alerts htake, htake]
    exact ⟨rfl, rfl⟩
  case retries =>
    obtain ⟨hf, hretry, -, hpol⟩ := endAttempt_below (s := recordReport r s) ha
    rw [hflare, hstate _ (by simp), hpolicy, takeReport_ends h (hproven.trans hp)]
    exact ⟨hf, hretry, hpol⟩
  case fails =>
    obtain ⟨hf, hended, hfailed, -, hpol⟩ := endAttempt_last (s := recordReport r s) ha
    rw [hflare, AlertEnded, hstate _ (by simp), hstate _ (by simp), hpolicy, takeReport_ends h (hproven.trans hp)]
    exact ⟨hf, hended, hfailed, hpol⟩
  case goesOut =>
    have htake : takeReport r s = withFlare toOff (recordReport r s) := by rw [takeReport_holding h, hproven, hp]; rfl
    have hout : (takeReport r s).flare = toOff (reported r f) := by rw [htake]; rfl
    have hbefore : s.flare.state ≠ .burning := fun e => nomatch e.symm.trans h
    have hafter : (takeReport r s).flare.state ≠ .burning := by simp [hout, toOff]
    rw [hflare, halerts, takeReport_alerts htake hbefore hafter, hout]
    exact ⟨rfl, rfl⟩
  case stays =>
    have htake : takeReport r s = recordReport r s := by
      obtain ⟨h, hp⟩ | h := h
      · exact takeReport_records (.inl ⟨.inr h, hproven.trans hp⟩)
      · exact takeReport_records (.inr h)
    rw [hflare, halerts, recordReport_alerts htake, htake]
    exact ⟨rfl, rfl⟩

/-! ## The flare's timers (R127, R128, R130, R131, R136) -/

section Timers

variable {s : State}

theorem exec_ignitionTimerExpiry (hs : s.supplied = true) :
    exec .ignitionTimerExpiry s = .next (followFlow s (ignitionExpires s)) := flowEvent_supplied _ hs

theorem exec_minimumBurnTimerExpiry (hs : s.supplied = true) :
    exec .minimumBurnTimerExpiry s = .next (followFlow s (minBurnExpires s)) := flowEvent_supplied _ hs

theorem exec_burnTimeSecond (hs : s.supplied = true) :
    exec .burnTimeSecond s = .next (if 1000 ≤ s.flare.burnMs then
      withFlare (fun f => { f with burnMs := 0, burnSeconds := f.burnSeconds + 1 }) s else s) := event_supplied _ hs

/-- Out of CALLED an attempt ends without gas that burns before or after. -/
theorem endAttempt_unfollowed (h : ignitionOver s = true) : followFlow s (endAttempt s) = endAttempt s := by
  have hcalled : s.flare.state ≠ .burning := by simp [((ignitionOver_iff s).mp h).1]
  have hended : (endAttempt s).flare.state ≠ .burning := by
    by_cases ha : s.flare.attempts < s.config.flareAttempts
    · simp [(endAttempt_below ha).1, retried]
    · simp [(endAttempt_last (Nat.not_lt.mp ha)).1, gaveUp]
  exact flare_unfollowed ((touches_endAttempt s).weaken rfl) hcalled hended

theorem exec_ignitionTimerExpiry_at (hs : s.supplied = true) (h : ignitionOver s = true) :
    exec .ignitionTimerExpiry s = .next (endAttempt s) := by
  rw [exec_ignitionTimerExpiry hs, ignitionExpires_at h, endAttempt_unfollowed h]

theorem frame_of_alertedFlare {t : State} (h : TouchesOnly [.flare, .alerts, .policy] s t) :
    { t with flare := s.flare, alerts := s.alerts, policy := s.policy } = s := by
  have hr := h.restored
  simp only [restore, List.foldr, Block.copy] at hr
  exact hr

end Timers

/-- Settles O47: each timer is judged by its own test, and acts where it is met. -/
theorem flareTimersAct : Obligations.FlareTimersAct := by
  intro s hs lit held
  have hlit : lit ↔ ignitionOver s = true := (ignitionOver_iff s).symm
  have hheld : held ↔ minBurnOver s = true := (minBurnOver_iff s).symm
  refine ⟨fun h ha => ?retries, fun h ha => ?fails, fun h => ?unlit, fun h => ?stops, fun h => ?burns, fun h => ?second,
    fun h => ?none⟩
  case retries =>
    obtain ⟨hf, hretry, hsame, hpol⟩ := endAttempt_below ha
    have hframe := frame_of_alertedFlare (touches_endAttempt s)
    rw [← hpol] at hframe
    have hcalled : (endAttempt s).flare = { s.flare with attempts := s.flare.attempts + 1, ignition := some 0 } := by
      rw [hf, retried, ← h.1]
    exact ⟨_, exec_ignitionTimerExpiry_at hs (hlit.mp h), hcalled, hretry, hsame, hframe⟩
  case fails =>
    obtain ⟨hf, hended, hfailed, -, hpol⟩ := endAttempt_last ha
    exact ⟨_, exec_ignitionTimerExpiry_at hs (hlit.mp h), hf, hended, hfailed, endAttempt_sameBut s, hpol,
      frame_of_alertedFlare (touches_endAttempt s)⟩
  case unlit =>
    have hover : ignitionOver s = false := Bool.eq_false_iff.mpr (hlit.not.mp h)
    rw [exec_ignitionTimerExpiry hs, ignitionExpires_early hover, followFlow_self]
  case stops =>
    have hnot : s.flare.state ≠ .burning := by simp [h.1]
    refine ⟨withFlare toOff s, ?_, rfl, rfl⟩
    rw [exec_minimumBurnTimerExpiry hs, minBurnExpires_at (hheld.mp h),
      flare_unfollowed ((touches_withFlare s toOff).weaken rfl) hnot (by simp [toOff])]
  case burns =>
    have hover : minBurnOver s = false := Bool.eq_false_iff.mpr (hheld.not.mp h)
    rw [exec_minimumBurnTimerExpiry hs, minBurnExpires_early hover, followFlow_self]
  case second =>
    refine ⟨withFlare (fun f => { f with burnMs := 0, burnSeconds := f.burnSeconds + 1 }) s, ?_, rfl, rfl⟩
    rw [exec_burnTimeSecond hs, if_pos h]
  case none => rw [exec_burnTimeSecond hs, if_neg (by omega)]

end Sys2Proof.Machine
end

section
/-! Reception on a link port: single bytes, the frame check, and a whole request frame (R153 to R157). -/

namespace Sys2Proof.Machine

open Sys2Proof

/-! ## One byte in RECEIVE (R153) -/

section Bytes

variable {p : Port} {b v : Byte}

theorem portByte_hunt (h : p.state = .hunt) : portByte b p = if b = 0xA5 then toReceive p else p := by
  simp only [portByte, h]

theorem portByte_receive (h : p.state = .receive) (hc : frameComplete p.body = false) :
    portByte b p = receiveByte b p := by simp [portByte, h, hc]

/-- In HOLD and SEND every byte is ignored, and in HUNT every byte but 0xA5. -/
theorem portByte_ignored (h : p.state = .hold ∨ p.state = .send ∨ (p.state = .hunt ∧ b ≠ 0xA5)) :
    portByte b p = p := by
  obtain h | h | ⟨h, hb⟩ := h
  · simp only [portByte, h]
  · simp only [portByte, h]
  · rw [portByte_hunt h, if_neg hb]

theorem receiveByte_start : receiveByte 0xA5 p = toReceive p := if_pos rfl

theorem receiveByte_answerStart (he : p.escaped = false) : receiveByte 0x5A p = toHunt p := by
  simp [receiveByte, he]

theorem receiveByte_escape (he : p.escaped = false) : receiveByte 0xA6 p = { p with escaped := true, gap := some 0 } := by
  simp [receiveByte, he]

theorem receiveByte_badSecond (he : p.escaped = true) (h1 : b ≠ 0x01) (h2 : b ≠ 0x02) (h3 : b ≠ 0x03) (h5 : b ≠ 0xA5) :
    receiveByte b p = toHunt p := by
  rw [receiveByte, if_neg h5, if_pos he, unescape, if_neg h1, if_neg h2, if_neg h3]

/-- The byte stands for `v` in the body: as it is, or as the second of an escape pair. -/
def Spells (escaped : Bool) (b v : Byte) : Prop :=
  (escaped = false ∧ b ≠ 0xA5 ∧ b ≠ 0xA6 ∧ b ≠ 0x5A ∧ v = b) ∨
    (escaped = true ∧ (b = 0x01 ∧ v = 0xA5 ∨ b = 0x02 ∧ v = 0xA6 ∨ b = 0x03 ∧ v = 0x5A))

theorem receiveByte_spells (h : Spells p.escaped b v) : receiveByte b p = addBody v p := by
  obtain ⟨he, h5, h6, hA, rfl⟩ | ⟨he, ⟨rfl, rfl⟩ | ⟨rfl, rfl⟩ | ⟨rfl, rfl⟩⟩ := h
  · rw [receiveByte, if_neg h5, if_neg (Bool.eq_false_iff.mp he), if_neg hA, if_neg h6]
  all_goals simp [receiveByte, unescape, he]

theorem addBody_long (hl : p.body.length = 2) (hv : 48 < v.toNat) : addBody v p = toHunt p := by
  simp [addBody, hl, hv]

theorem addBody_added (h : p.body.length ≠ 2 ∨ v.toNat ≤ 48) :
    addBody v p = { p with body := p.body ++ [v], escaped := false, gap := some 0 } := by
  refine if_neg ?_
  simp only [Bool.and_eq_true, decide_eq_true_eq]
  omega

end Bytes

theorem byteReceived_next {s : State} (hs : s.supplied = true) (l : Link) (b : Byte) :
    exec (.byteReceived l b) s = .next { s with ports := s.ports.modify l (portByte b) } :=
  (exec_byteReceived l b s).trans (event_supplied _ hs)

theorem portsSameBut_modify (s : State) (l : Link) (f : Port → Port) :
    PortsSameBut l s { s with ports := s.ports.modify l f } := fun _ hk => Tab.get_modify_ne _ _ hk

/-- Settles O57: the port's table, state by state. -/
theorem bytesMoveThePortAsTabled : Obligations.BytesMoveThePortAsTabled := by
  intro l b s hs p
  refine ⟨_, byteReceived_next hs l b, portsSameBut_modify s l _, rfl, ?_⟩
  simp only [Tab.get_modify_same]
  refine ⟨portByte_ignored, fun h hb => ?starts, fun h hc => ?receives⟩
  case starts => exact (portByte_hunt h).trans (if_pos hb)
  case receives =>
    rw [portByte_receive h hc]
    refine ⟨?_, ?_, ?_, fun he h1 h2 h3 h5 => ?_, fun v hv => ?_⟩
    · rintro rfl
      exact receiveByte_start
    · rintro he rfl
      exact congrArg Port.state (receiveByte_answerStart he)
    · rintro he rfl
      exact receiveByte_escape he
    · exact congrArg Port.state (receiveByte_badSecond he h1 h2 h3 h5)
    · rw [receiveByte_spells hv]
      exact ⟨fun hl hlong => congrArg Port.state (addBody_long hl hlong), addBody_added⟩

/-! ## A frame's body byte by byte (R153, R154) -/

/-- A port that has taken the bytes in their order. -/
def takeBytes (bs : List Byte) (p : Port) : Port := bs.foldl (fun p b => portByte b p) p

theorem takeBytes_append (as bs : List Byte) (p : Port) : takeBytes (as ++ bs) p = takeBytes bs (takeBytes as p) :=
  List.foldl_append

/-- A port in the middle of a frame, between two body bytes. -/
def receiving (body : List Byte) (p : Port) : Port := { p with state := .receive, body, escaped := false, gap := some 0 }

/-- One body byte, sent as it is or as its escape pair, is added to the body. -/
theorem takeBytes_escapeByte {x : List Byte} {b : Byte} (p : Port) (hc : frameComplete x = false)
    (hlen : x.length ≠ 2 ∨ b.toNat ≤ 48) : takeBytes (escapeByte b) (receiving x p) = receiving (x ++ [b]) p := by
  have plain (q : Port) {c : Byte} (hq : q.state = .receive) (hb : q.body = x) (h : Spells q.escaped c b) :
      portByte c q = { q with body := x ++ [b], escaped := false, gap := some 0 } := by
    subst hb
    rw [portByte_receive hq hc, receiveByte_spells h, addBody_added hlen]
  have escaped {c : Byte} (h : Spells true c b) : takeBytes [0xA6, c] (receiving x p) = receiving (x ++ [b]) p := by
    have hfirst : portByte 0xA6 (receiving x p) = { receiving x p with escaped := true } :=
      (portByte_receive rfl hc).trans (receiveByte_escape rfl)
    rw [takeBytes, List.foldl_cons, hfirst]
    exact plain { receiving x p with escaped := true } rfl rfl h
  unfold escapeByte
  split
  · next h => exact escaped (.inr ⟨rfl, .inl ⟨rfl, h⟩⟩)
  · next h5 =>
    split
    · next h => exact escaped (.inr ⟨rfl, .inr (.inl ⟨rfl, h⟩)⟩)
    · next h6 =>
      split
      · next h => exact escaped (.inr ⟨rfl, .inr (.inr ⟨rfl, h⟩)⟩)
      · next hA => exact plain (receiving x p) rfl rfl (.inl ⟨rfl, h5, h6, hA, rfl⟩)

/-- The body announces its own length, 48 payload bytes at most. -/
def Announced (body : List Byte) : Prop := ∃ n : Byte, body[2]? = some n ∧ n.toNat ≤ 48 ∧ body.length = n.toNat + 5

/-- Before its last byte a frame is not complete. -/
theorem Announced.incomplete {x y : List Byte} {b : Byte} (h : Announced (x ++ b :: y)) : frameComplete x = false := by
  obtain ⟨n, hn, -, hlen⟩ := h
  rw [List.length_append, List.length_cons] at hlen
  by_cases hx : 2 < x.length
  · rw [List.getElem?_append_left hx] at hn
    simp only [frameComplete, bodyLength, hn, Option.map_some, Option.some.injEq, decide_eq_false_iff_not]
    omega
  · simp [frameComplete, bodyLength, List.getElem?_eq_none (Nat.not_lt.mp hx)]

theorem Announced.lengthByte {x y : List Byte} {b : Byte} (h : Announced (x ++ b :: y)) (hx : x.length = 2) :
    b.toNat ≤ 48 := by
  obtain ⟨n, hn, hle, -⟩ := h
  rw [List.getElem?_append_right (by omega), hx] at hn
  cases hn
  exact hle

theorem Announced.complete {body : List Byte} (h : Announced body) : frameComplete body = true := by
  obtain ⟨n, hn, -, hlen⟩ := h
  rw [frameComplete, bodyLength, hn, hlen]
  exact decide_eq_true rfl

/-- The rest of an announced body, sent with its escapes, completes it. -/
theorem takeBytes_body {x y : List Byte} (p : Port) (h : Announced (x ++ y)) :
    takeBytes (y.flatMap escapeByte) (receiving x p) = receiving (x ++ y) p := by
  induction y generalizing x with
  | nil => simp [takeBytes]
  | cons b y ih =>
    have hlen : x.length ≠ 2 ∨ b.toNat ≤ 48 := Decidable.not_or_of_imp h.lengthByte
    have h' : Announced ((x ++ [b]) ++ y) := by simpa using h
    rw [List.flatMap_cons, takeBytes_append, takeBytes_escapeByte p h.incomplete hlen, ih h', List.append_assoc]
    rfl

/-- The body of a request frame, CRC included. -/
def requestBody (l : Link) (code : Nat) (payload : List Byte) : List Byte :=
  withCrc ([byte l.val, byte code, byte payload.length] ++ payload)

theorem requestFrame_eq (l : Link) (code : Nat) (payload : List Byte) :
    requestFrame l code payload = 0xA5 :: (requestBody l code payload).flatMap escapeByte := rfl

theorem byte_toNat {n : Nat} (h : n < 256) : (byte n).toNat = n := by
  rw [byte, BitVec.toNat_ofNat]
  exact Nat.mod_eq_of_lt h

section Body

variable {l : Link} {code : Nat} {payload : List Byte}

theorem announced_requestBody (hp : payload.length ≤ 48) : Announced (requestBody l code payload) :=
  ⟨byte payload.length, rfl, by rwa [byte_toNat (by omega)],
    by rw [byte_toNat (by omega)]; simp [requestBody, withCrc, bytes16]⟩

theorem frameValid_requestBody : frameValid l (requestBody l code payload) = true := by
  have hsplit (xs ys : List Byte) (h : ys.length = 2) :
      (xs ++ ys).drop ((xs ++ ys).length - 2) = ys ∧ (xs ++ ys).take ((xs ++ ys).length - 2) = xs := by
    rw [List.length_append, h, Nat.add_sub_cancel]
    exact ⟨List.drop_left, List.take_left⟩
  obtain ⟨hdrop, htake⟩ := hsplit ([byte l.val, byte code, byte payload.length] ++ payload)
    (bytes16 (crc16 ([byte l.val, byte code, byte payload.length] ++ payload)).toNat) rfl
  simp only [frameValid, requestBody, withCrc, hdrop, htake]
  simp

/-- What a body holds: its code, and the payload between its three bytes of head and its CRC. -/
theorem heldOf_body (link code n c1 c0 : Byte) (payload : List Byte) :
    heldOf ([link, code, n] ++ payload ++ [c1, c0]) = ⟨code.toNat, payload⟩ := by
  simp [heldOf]

theorem heldOf_requestBody (hc : code < 256) : heldOf (requestBody l code payload) = ⟨code, payload⟩ := by
  rw [requestBody, withCrc, bytes16, heldOf_body, byte_toNat hc]

/-- A request frame takes a port from HUNT to a complete, sound body. -/
theorem takeBytes_requestFrame {p : Port} (hp : p.state = .hunt) (hlen : payload.length ≤ 48) :
    takeBytes (requestFrame l code payload) p = receiving (requestBody l code payload) p := by
  have hfirst : portByte 0xA5 p = receiving [] p := (portByte_hunt hp).trans (if_pos rfl)
  rw [requestFrame_eq, takeBytes, List.foldl_cons, hfirst]
  exact takeBytes_body p (announced_requestBody hlen)

end Body

/-! ## The frame check (R154, R157) -/

section Check

variable {l : Link} {s : State}

theorem frameReceived_valid (hs : s.supplied = true) (h : (s.ports.get l).state = .receive)
    (hc : frameComplete (s.ports.get l).body = true) (hv : frameValid l (s.ports.get l).body = true) :
    exec (.frameReceived l) s = .next (admitFrame l (heldOf (s.ports.get l).body) s) := by
  refine (event_supplied _ hs).trans ?_
  simp only [h, hc, hv, decide_true, Bool.and_self, if_true]

theorem frameReceived_invalid (hs : s.supplied = true) (h : (s.ports.get l).state = .receive)
    (hc : frameComplete (s.ports.get l).body = true) (hv : frameValid l (s.ports.get l).body = false) :
    exec (.frameReceived l) s = .next { s with ports := s.ports.modify l toHunt } := by
  refine (event_supplied _ hs).trans ?_
  simp only [h, hc, hv, decide_true, Bool.and_self, if_true, Bool.false_eq_true, if_false]

/-- A port that holds a checked request. -/
def holding (h : HeldRequest) (p : Port) : Port :=
  { p with state := .hold, body := [], escaped := false, gap := none, held := some h }

theorem frameHeld_ports (l : Link) (h : HeldRequest) (s : State) :
    (frameHeld l h s).ports = s.ports.modify l (holding h) :=
  (touches_restartLease _ l).same .ports rfl

theorem frameHeld_claims (l : Link) (h : HeldRequest) (s : State) :
    (frameHeld l h s).claims = (restartLease l s).claims := by
  unfold frameHeld restartLease
  cases linkSlot l <;> rfl

theorem admitFrame_claims (l : Link) (h : HeldRequest) (s : State) :
    (admitFrame l h s).claims = (restartLease l s).claims := by
  rw [← frameHeld_claims l h, admitFrame_eq]
  cases checkRequest l h.code h.payload <;> rfl

theorem restartLease_running {c : Slot} (hl : linkSlot l = some c) (hst : leased (s.claims.get c).state = true)
    (hlease : (s.claims.get c).lease ≠ none) :
    (restartLease l s).claims.get c = { s.claims.get c with lease := some 0 } := by
  obtain ⟨ms, hms⟩ := Option.ne_none_iff_exists'.mp hlease
  simp [restartLease, hl, hst, hms]

theorem restartLease_ne {c : Slot} (hl : linkSlot l ≠ some c) : (restartLease l s).claims.get c = s.claims.get c := by
  unfold restartLease
  split
  · next d hd => exact Tab.get_modify_ne _ _ fun e => hl (hd.trans (congrArg some e.symm))
  · rfl

theorem portsSameBut_admitFrame (l : Link) (h : HeldRequest) (s : State) : PortsSameBut l s (admitFrame l h s) := by
  have hheld : PortsSameBut l s (frameHeld l h s) := fun k hk => by
    rw [frameHeld_ports, Tab.get_modify_ne _ _ hk]
  have hanswered (st) : PortsSameBut l s (respond l h.code st [] (frameHeld l h s)) := fun k hk =>
    (respond_ports_same_but _ _ _ _ _ k hk).trans (hheld k hk)
  rw [admitFrame_eq]
  cases checkRequest l h.code h.payload with
  | notAllowed => exact hanswered _
  | badForm => exact hanswered _
  | unknownCode => exact hheld
  | request => exact hheld

/-- An answer to a request in HOLD is sent. -/
theorem respond_frameHeld_sends (l : Link) (h : HeldRequest) (st : Status) (s : State) :
    ((respond l h.code st [] (frameHeld l h s)).ports.get l).state = .send := by
  rw [respond_ports, frameHeld_ports, Tab.get_modify_same, Tab.get_modify_same]
  rfl

theorem checkRequest_notAllowed {code : Nat} {payload : List Byte} (hk : codeKnown code = true)
    (ha : codeAllowed l code = false) : checkRequest l code payload = .notAllowed := by simp [checkRequest, hk, ha]

theorem checkRequest_badForm {code : Nat} {payload : List Byte} (hk : codeKnown code = true)
    (ha : codeAllowed l code = true) (hp : parseRequest l code payload = none) :
    checkRequest l code payload = .badForm := by simp [checkRequest, hk, ha, hp]

theorem admitFrame_notAllowed {h : HeldRequest} (hk : codeKnown h.code = true) (ha : codeAllowed l h.code = false) :
    admitFrame l h s = respond l h.code .refusedAuthority [] (frameHeld l h s) := by
  rw [admitFrame_eq, checkRequest_notAllowed hk ha]

theorem admitFrame_badForm {h : HeldRequest} (hk : codeKnown h.code = true) (ha : codeAllowed l h.code = true)
    (hp : parseRequest l h.code h.payload = none) :
    admitFrame l h s = respond l h.code .refusedUnknown [] (frameHeld l h s) := by
  rw [admitFrame_eq, checkRequest_badForm hk ha hp]

/-- A request that passes the checks, and an unknown code, waits in HOLD. -/
theorem admitFrame_waits {h : HeldRequest}
    (hw : codeKnown h.code = false ∨ codeAllowed l h.code = true ∧ parseRequest l h.code h.payload ≠ none) :
    admitFrame l h s = frameHeld l h s := by
  rw [admitFrame_eq]
  obtain hk | ⟨ha, hp⟩ := hw
  · simp [checkRequest, hk]
  · obtain ⟨i, hi⟩ := Option.ne_none_iff_exists'.mp hp
    cases hk : codeKnown h.code with
    | false => simp [checkRequest, hk]
    | true => simp [checkRequest, hk, ha, hi]

theorem frame_of_admitted {t : State} (h : TouchesOnly [.claims, .ports] s t) :
    { t with claims := s.claims, ports := s.ports } = s := by
  have hr := h.restored
  simp only [restore, List.foldr, Block.copy] at hr
  exact hr

end Check

/-- Settles O58: the frame check first, then the two ways back to HUNT and the unknown code. -/
theorem framesAreCheckedAndPortsReturn : Obligations.FramesAreCheckedAndPortsReturn := by
  intro l s hs p
  refine ⟨fun h hc => ?checked, fun h hc hgap => ?gap, fun h => ?early, fun h => ?sent, fun code => ?unknown⟩
  case checked =>
    cases hv : frameValid l p.body with
    | false =>
      refine ⟨_, frameReceived_invalid hs h hc hv, portsSameBut_modify s l _, fun _ => ⟨?_, rfl⟩, by simp⟩
      rw [Tab.get_modify_same]
      rfl
    | true =>
      refine ⟨_, frameReceived_valid hs h hc hv, portsSameBut_admitFrame l _ s, by simp, fun _ =>
        ⟨fun code payload link n c1 c0 hbody => ?_, fun c hl hst hlease => ?_, fun c hl => ?_,
          frame_of_admitted (touches_admitFrame s l _)⟩⟩
      · have hheld : heldOf (s.ports.get l).body = ⟨code.toNat, payload⟩ :=
          (congrArg heldOf hbody).trans (heldOf_body ..)
        rw [hheld]
        refine ⟨fun hk ha => ?_, fun hk ha hp => ?_, fun hw => ?_⟩
        · rw [admitFrame_notAllowed hk ha]
          exact ⟨respond_frameHeld_sends _ _ _ _, answerStatus_respond ..⟩
        · rw [admitFrame_badForm hk ha hp]
          exact ⟨respond_frameHeld_sends _ _ _ _, answerStatus_respond ..⟩
        · rw [admitFrame_waits hw, frameHeld_ports, Tab.get_modify_same]
          exact ⟨rfl, rfl⟩
      · rw [admitFrame_claims, restartLease_running hl hst hlease]
      · rw [admitFrame_claims, restartLease_ne hl]
  case gap =>
    refine ⟨_, (exec_gapTimerExpiry l s).trans (event_supplied _ hs), ?_, ?_, portsSameBut_modify s l _, rfl⟩
    all_goals
      rw [Tab.get_modify_same, if_pos ((gapOver_iff _).mpr ⟨h, hc, hgap⟩)]
      rfl
  case early =>
    have hover : ¬gapOver (s.ports.get l) = true := fun e => by
      obtain ⟨hr, -, hgap⟩ := (gapOver_iff _).mp e
      exact h.elim (fun h => h hr) fun h => h hgap
    rw [exec_gapTimerExpiry, event_supplied _ hs, Tab.modify, if_neg hover, Tab.set_get_self]
  case sent =>
    refine ⟨_, (exec_answerSent l s).trans (event_supplied _ hs), ?_, portsSameBut_modify s l _, rfl⟩
    rw [Tab.get_modify_same, if_pos h]
    rfl
  case unknown =>
    exact ⟨_, event_supplied (respond l code .refusedUnknown []) hs, answerStatus_respond ..,
      respond_ports_same_but _ _ _ _ _, rfl⟩

/-! ## A run over a whole frame -/

section Run

variable {s : State} {l : Link}

/-- A step that is not refused is taken, and the run goes on from it. -/
theorem run_step {s t : State} (k : Nat) (h : step s = .next t) :
    Host.Core.run core (k + 1) s = Host.Core.run core k t := by
  have hcore : core.step s = .next t := h
  simp only [Host.Core.run, hcore]

/-- Bytes waiting in the queue are taken by their port one step each. -/
theorem run_bytes {bs : List Byte} {rest : List Instr} (k : Nat) (hs : s.supplied = true)
    (hq : s.pending = bs.map (fun b => Instr.byteReceived l b) ++ rest) :
    Host.Core.run core (bs.length + k) s =
      Host.Core.run core k { s with ports := s.ports.modify l (takeBytes bs), pending := rest } := by
  induction bs generalizing s with
  | nil =>
    have hp : s.ports.modify l (takeBytes []) = s.ports := Tab.set_get_self _ _
    rw [hp, ← show s.pending = rest from hq, List.length_nil, Nat.zero_add]
  | cons b bs ih =>
    have hstep : step s = .next { s with ports := s.ports.modify l (portByte b),
                                         pending := bs.map (fun b => Instr.byteReceived l b) ++ rest } := by
      rw [step, hq]
      exact byteReceived_next (s := { s with pending := bs.map (fun b => Instr.byteReceived l b) ++ rest }) hs l b
    have hports : (s.ports.modify l (portByte b)).modify l (takeBytes bs) = s.ports.modify l (takeBytes (b :: bs)) :=
      Tab.ext_get fun i => by
        rw [Tab.get_modify, Tab.get_modify_same, Tab.get_modify, Tab.get_modify]
        split <;> rfl
    rw [List.length_cons, Nat.add_right_comm, run_step _ hstep, ← hports]
    exact ih hs rfl

end Run

/-- A complete request frame that passes the checks waits in HOLD. -/
theorem frameReceived_requestBody {s : State} {l : Link} {code : Nat} {payload : List Byte} {i : Instr} {p : Port}
    (hs : s.supplied = true) (hport : s.ports.get l = receiving (requestBody l code payload) p) (hcode : code < 256)
    (hlen : payload.length ≤ 48) (hcheck : checkRequest l code payload = .request i) :
    exec (.frameReceived l) s = .next (frameHeld l ⟨code, payload⟩ s) := by
  have hstate : (s.ports.get l).state = .receive := by rw [hport]; rfl
  have hbody : (s.ports.get l).body = requestBody l code payload := by rw [hport]; rfl
  have hcomplete : frameComplete (s.ports.get l).body = true := hbody ▸ (announced_requestBody hlen).complete
  have hvalid : frameValid l (s.ports.get l).body = true := hbody ▸ frameValid_requestBody
  rw [frameReceived_valid hs hstate hcomplete hvalid, hbody, heldOf_requestBody hcode, admitFrame_eq]
  simp only [hcheck]

/-- Settles O7: the bytes complete a sound body, and the check leaves it waiting in HOLD. -/
theorem frameBytesReachHold : Obligations.FrameBytesReachHold := by
  intro s l code payload i hcode hlen hcheck hs hhunt hq
  let u : State := { s with ports := s.ports.modify l (takeBytes (requestFrame l code payload)), pending := [] }
  have hport : u.ports.get l = receiving (requestBody l code payload) (s.ports.get l) := by
    rw [show u.ports = s.ports.modify l _ from rfl, Tab.get_modify_same, takeBytes_requestFrame hhunt hlen]
  have hadmit := frameReceived_requestBody (s := u) hs hport hcode hlen hcheck
  refine ⟨frameHeld l ⟨code, payload⟩ u, ?_, ?_, ?_, ?_, fun k hk => ?_⟩
  · rw [run_bytes 1 hs hq]
    exact run_step 0 hadmit
  · rw [frameHeld_ports, Tab.get_modify_same]
    rfl
  · rw [frameHeld_ports, Tab.get_modify_same]
    rfl
  · exact (touches_frameHeld u l _).same .pending rfl
  · rw [frameHeld_ports, Tab.get_modify_ne _ _ hk]
    exact Tab.get_modify_ne _ _ hk

end Sys2Proof.Machine
end

section
/-! Requests read back from their own code and payload (R157, R166). -/

namespace Sys2Proof.Machine

open Sys2Proof

/-! ## Fields -/

theorem nat16_bytes {n : Nat} (h : n < 65536) : nat16 (byte (n / 256)) (byte n) = n := by
  simp only [nat16, byte, BitVec.toNat_ofNat]
  omega

theorem int16_bytes {v : Int} (hlo : -32768 ≤ v) (hhi : v < 32768) :
    int16 (byte ((v % 65536).toNat / 256)) (byte (v % 65536).toNat) = v := by
  have hn := nat16_bytes (n := (v % 65536).toNat) (by omega)
  rw [int16, hn, byte, BitVec.toNat_ofNat]
  split <;> omega

theorem nat32_bytes {n : Nat} (h : n < 4294967296) :
    nat16 (byte (n / 16777216)) (byte (n / 65536)) * 65536 + nat16 (byte (n / 256)) (byte n) = n := by
  simp only [nat16, byte, BitVec.toNat_ofNat]
  omega

theorem int32_bytes {v : Int} (hlo : -2147483648 ≤ v) (hhi : v < 2147483648) :
    int32 (byte ((v % 4294967296).toNat / 16777216)) (byte ((v % 4294967296).toNat / 65536))
      (byte ((v % 4294967296).toNat / 256)) (byte (v % 4294967296).toNat) = v := by
  have hn := nat32_bytes (n := (v % 4294967296).toNat) (by omega)
  rw [int32, hn, byte, BitVec.toNat_ofNat]
  split <;> omega

theorem flagOf_flagByte (b : Bool) : flagOf (flagByte b) = some b := by cases b <;> rfl

theorem rowFlags_byte (restore admits flare cutAll : Bool) :
    rowFlags (byte (restore.toNat + 2 * admits.toNat + 4 * flare.toNat + 8 * cutAll.toNat)) =
      some (restore, admits, flare, cutAll) := by
  cases restore <;> cases admits <;> cases flare <;> cases cutAll <;> rfl

/-! ## The three rows of CONFIGURE (R175) -/

theorem configureRequest_geometry (l : Link) {bank : Nat} (h : bank < 4) (which : Geometry) (value : Int) :
    configureRequest l (0x200 + 16 * bank + which.offset) value = .configureBandGeometry l bank which value := by
  have hitem : geometryItem (0x200 + 16 * bank + which.offset) = some (bank, which) := by
    interval_cases bank <;> cases which <;> rfl
  simp only [configureRequest, hitem]

theorem configureRequest_binding (l : Link) {number : Nat} (h1 : 1 ≤ number) (h6 : number ≤ 6) (value : Int) :
    configureRequest l (0x300 + number) value = .configureEventBinding l number value := by
  have hgeometry : geometryItem (0x300 + number) = none := if_neg (by omega)
  have hitem : bindingItem (0x300 + number) = some number := by
    rw [bindingItem, if_pos (by omega), Nat.add_sub_cancel_left]
  simp only [configureRequest, hgeometry, hitem]

theorem configureRequest_other (l : Link) {item : Nat} (hg : geometryItem item = none) (hb : bindingItem item = none)
    (value : Int) : configureRequest l item value = .configure l item value := by
  simp only [configureRequest, hg, hb]

/-- A CONFIGURE frame reads back as its row of the table. -/
theorem parseRequest_configure (l : Link) {item : Nat} {value : Int} (hi : item < 65536) (hv : fits32 value = true) :
    parseRequest l 0x30 (bytes16 item ++ signed32 value) = some (configureRequest l item value) := by
  obtain ⟨hlo, hhi⟩ : -2147483648 ≤ value ∧ value < 2147483648 := by simpa [fits32] using hv
  rw [← congrArg (fun n => some (configureRequest l n value)) (nat16_bytes hi)]
  exact congrArg (fun v => some (configureRequest l _ v)) (int32_bytes hlo hhi)

/-! ## The round trip -/

theorem parseRequest_writeRow (l : Link) {bank row : Nat} {r : RowRecord} (hb : bank < 256) (hr : row < 256)
    (hf : r.fits = true) : parseRequest l 0x31 (writeRowPayload bank row r) = some (.writeRow l bank row r) := by
  obtain ⟨⟨⟨⟨⟨hlo, hhi⟩, hsteps⟩, hadmission⟩, hrestore⟩, hshed⟩ : ((((( -32768 ≤ r.trim ∧ r.trim < 32768) ∧
      r.steps < 256) ∧ r.admissionMargin < 65536) ∧ r.restoreMargin < 65536) ∧ r.shedStep < 65536) := by
    simpa [RowRecord.fits] using hf
  show (rowFlags _).map _ = _
  rw [rowFlags_byte]
  simp [byte_toNat hb, byte_toNat hr, byte_toNat hsteps, int16_bytes hlo hhi, nat16_bytes hadmission,
    nat16_bytes hrestore, nat16_bytes hshed]

theorem parseRequest_setClock (l : Link) {d : DateTime} (h : d.fits = true) :
    parseRequest l 0x44 (bytes16 d.year ++ [byte d.month, byte d.day, byte d.hour, byte d.minute, byte d.second]) =
      some (.setClock l d) := by
  obtain ⟨⟨⟨⟨⟨hy, hmo⟩, hd⟩, hh⟩, hmi⟩, hs⟩ : ((((d.year < 65536 ∧ d.month < 256) ∧ d.day < 256) ∧ d.hour < 256) ∧
      d.minute < 256) ∧ d.second < 256 := by simpa [DateTime.fits] using h
  show some (Instr.setClock l ⟨nat16 _ _, _, _, _, _, _⟩) = _
  rw [nat16_bytes hy, byte_toNat hmo, byte_toNat hd, byte_toNat hh, byte_toNat hmi, byte_toNat hs]

theorem parseRequest_readStatus {l : Link} {group : Nat} (h : if l = 0 then group < 256 else group = 0) :
    parseRequest l 0x01 (if l = 0 then [byte group] else []) = some (.readStatus l group) := by
  by_cases hl : l = 0
  · rw [if_pos hl] at h
    subst hl
    show some (Instr.readStatus 0 (byte group).toNat) = _
    rw [byte_toNat h]
  · rw [if_neg hl] at h
    simp [parseRequest, parseReadStatus, hl, h]

/-- Every well-formed request is what its own code and payload spell. -/
theorem parseRequest_encodeRequest {i : Instr} {l : Link} {code : Nat} {payload : List Byte} (hw : wellFormed i = true)
    (h : encodeRequest i = some (l, code, payload)) : parseRequest l code payload = some i := by
  cases i with
  | register _ m x u =>
    cases h
    obtain ⟨⟨hm, hx⟩, hu⟩ : (m < 65536 ∧ x < 65536) ∧ u < 65536 := by simpa [wellFormed] using hw
    show some (Instr.register l (nat16 _ _) (nat16 _ _) (nat16 _ _)) = _
    rw [nat16_bytes hm, nat16_bytes hx, nat16_bytes hu]
  | claim _ r =>
    cases h
    exact congrArg (fun n => some (Instr.claim l n)) (nat16_bytes (of_decide_eq_true hw))
  | amend _ r =>
    cases h
    exact congrArg (fun n => some (Instr.amend l n)) (nat16_bytes (of_decide_eq_true hw))
  | report _ running rate =>
    cases h
    show (flagOf (flagByte running)).map (fun b => Instr.report l b (nat16 _ _)) = _
    rw [flagOf_flagByte, nat16_bytes (of_decide_eq_true hw)]
    rfl
  | holdSlots _ mask on =>
    cases h
    show (flagOf (flagByte on)).map (fun b => Instr.holdSlots l (byte mask).toNat b) = _
    rw [flagOf_flagByte, byte_toNat (of_decide_eq_true hw)]
    rfl
  | forceVacant _ slot =>
    cases h
    exact congrArg (fun n => some (Instr.forceVacant l n)) (byte_toNat (of_decide_eq_true hw))
  | readClaim _ slot =>
    cases h
    exact congrArg (fun n => some (Instr.readClaim l n)) (byte_toNat (of_decide_eq_true hw))
  | readStack _ position =>
    cases h
    exact congrArg (fun n => some (Instr.readStack l n)) (byte_toNat (of_decide_eq_true hw))
  | switchBank _ bank =>
    cases h
    exact congrArg (fun n => some (Instr.switchBank l n)) (byte_toNat (of_decide_eq_true hw))
  | flareStatus _ flame ready fault =>
    cases h
    simp [parseRequest, parseFlareStatus, flagOf_flagByte]
  | flarePermit _ on =>
    cases h
    show (flagOf (flagByte on)).map (fun b => Instr.flarePermit l b) = _
    rw [flagOf_flagByte]
    rfl
  | writeRow _ bank row r =>
    cases h
    obtain ⟨⟨hb, hr⟩, hf⟩ : (bank < 256 ∧ row < 256) ∧ r.fits = true := by simpa [wellFormed] using hw
    exact parseRequest_writeRow l hb hr hf
  | setRank _ bank slot rank =>
    cases h
    obtain ⟨⟨hb, hs⟩, hr⟩ : (bank < 256 ∧ slot < 256) ∧ rank < 256 := by simpa [wellFormed] using hw
    show some (Instr.setRank l (byte bank).toNat (byte slot).toNat (byte rank).toNat) = _
    rw [byte_toNat hb, byte_toNat hs, byte_toNat hr]
  | setLimits _ mask max =>
    cases h
    obtain ⟨hk, hm⟩ : mask < 256 ∧ max < 65536 := by simpa [wellFormed] using hw
    show some (Instr.setLimits l (byte mask).toNat (nat16 _ _)) = _
    rw [byte_toNat hk, nat16_bytes hm]
  | readBank _ bank row =>
    cases h
    obtain ⟨hb, hr⟩ : bank < 256 ∧ row < 256 := by simpa [wellFormed] using hw
    show some (Instr.readBank l (byte bank).toNat (byte row).toNat) = _
    rw [byte_toNat hb, byte_toNat hr]
  | readTotals _ record group =>
    cases h
    obtain ⟨hr, hg⟩ : record < 256 ∧ group < 256 := by simpa [wellFormed] using hw
    show some (Instr.readTotals l (byte record).toNat (byte group).toNat) = _
    rw [byte_toNat hr, byte_toNat hg]
  | configure _ item value =>
    cases h
    obtain ⟨⟨⟨hi, hv⟩, hg⟩, hb⟩ : ((item < 65536 ∧ fits32 value = true) ∧ geometryItem item = none) ∧
        bindingItem item = none := by simpa [wellFormed] using hw
    rw [parseRequest_configure l hi hv, configureRequest_other l hg hb]
  | configureBandGeometry _ bank which value =>
    cases h
    obtain ⟨hb, hv⟩ : bank < 4 ∧ fits32 value = true := by simpa [wellFormed] using hw
    have hoffset : which.offset < 3 := by cases which <;> decide
    rw [parseRequest_configure l (by omega) hv, configureRequest_geometry l hb]
  | configureEventBinding _ number value =>
    cases h
    obtain ⟨⟨h1, h6⟩, hv⟩ : (1 ≤ number ∧ number ≤ 6) ∧ fits32 value = true := by simpa [wellFormed] using hw
    rw [parseRequest_configure l (by omega) hv, configureRequest_binding l h1 h6]
  | readStatus _ group =>
    cases h
    exact parseRequest_readStatus (by simpa [wellFormed] using hw)
  | setClock _ d => cases h; exact parseRequest_setClock l hw
  | qualityResume | release | flareReset | ackAlerts | saveConfig | restart => cases h; rfl
  | _ => cases h

theorem codeKnown_of_allowed {l : Link} {code : Nat} (h : codeAllowed l code = true) : codeKnown code = true := by
  unfold codeAllowed at h
  unfold codeKnown
  split_ifs at h <;> simp at h ⊢ <;> omega

/-- Settles O6: the code is allowed, so it is known, and the form check reads the request back. -/
theorem requestPayloadReadsBack : Obligations.RequestPayloadReadsBack := by
  intro i l code payload hw h ha
  simp [checkRequest, codeKnown_of_allowed ha, ha, parseRequest_encodeRequest hw h]

end Sys2Proof.Machine
end

section
/-! Every request is answered at once, and a refused one changes nothing (R156 to R159, R163, R164). -/

namespace Sys2Proof.Machine

open Sys2Proof

/-! ## What an owning block makes of a request (R158) -/

/-- A block has served a request soundly: it was taken, or it left the state alone. -/
def Served.Sound (s : State) (v : Served) : Prop := v.status = .done ∨ v.status = .clamped ∨ v.state = s

namespace Served.Sound

variable {s : State} {v : Served}

theorem taken (h : v.status = .done) : v.Sound s := .inl h

theorem kept (h : v.state = s) : v.Sound s := .inr (.inr h)

/-- A request whose value was or was not clamped is taken. -/
theorem doneOr {b : Bool} (h : v.status = Machine.doneOr b) : v.Sound s := by
  cases b with
  | false => exact .inl h
  | true => exact .inr (.inl h)

end Served.Sound

section Serves

variable (s : State)

theorem sound_serveRegister (m x u : Nat) (c : Slot) : (serveRegister m x u c s).Sound s := by
  cases h : (s.claims.get c).state with
  | idle => rw [serveRegister_idle m x u h]; exact .doneOr rfl
  | vacant => rw [serveRegister_vacant m x u h]; exact .doneOr rfl
  | lapsed => rw [serveRegister_lapsed m x u h]; exact .doneOr rfl
  | waiting | admitted | running | shed | locked => exact .kept (by simp only [serveRegister, h])

theorem sound_serveClaim (r : Nat) (c : Slot) : (serveClaim r c s).Sound s := by
  cases h : (s.claims.get c).state with
  | idle => rw [serveClaim_idle r h]; exact .doneOr rfl
  | lapsed => rw [serveClaim_lapsed r h]; exact .doneOr rfl
  | locked =>
    cases hst : (s.claims.get c).standing with
    | false => rw [serveClaim_locked r h hst]; exact .doneOr rfl
    | true => exact .kept (by simp only [serveClaim, h, hst, if_true])
  | vacant | waiting | admitted | running | shed => exact .kept (by simp only [serveClaim, h])

theorem sound_serveAmend (r : Nat) (c : Slot) : (serveAmend r c s).Sound s := by
  unfold serveAmend
  dsimp only
  split
  · exact .kept rfl
  · exact .doneOr rfl
  · exact .doneOr rfl
  · exact .doneOr rfl
  · exact .doneOr rfl
  · split
    · exact .doneOr rfl
    · exact .kept rfl
  · exact .kept rfl
  · exact .kept rfl

theorem sound_serveReport (running : Bool) (rate : Nat) (c : Slot) : (serveReport running rate c s).Sound s := by
  unfold serveReport
  dsimp only
  split
  · exact .kept rfl
  all_goals exact .doneOr rfl

theorem sound_serveRelease (c : Slot) : (serveRelease c s).Sound s := by
  unfold serveRelease
  split
  · exact .kept rfl
  all_goals exact .taken rfl

theorem sound_serveHoldSlots (mask : Nat) (on : Bool) : (serveHoldSlots mask on s).Sound s := by
  unfold serveHoldSlots
  split
  · exact .taken rfl
  · exact .kept rfl

theorem sound_serveForceVacant (slot : Nat) : (serveForceVacant slot s).Sound s := by
  unfold serveForceVacant
  split
  · exact .kept rfl
  · split
    · exact .kept rfl
    · exact .taken rfl

theorem sound_serveQualityResume : (serveQualityResume s).Sound s := by
  unfold serveQualityResume
  split_ifs
  · exact .taken rfl
  · exact .taken rfl
  · exact .kept rfl

theorem sound_serveFlareReset : (serveFlareReset s).Sound s := by
  unfold serveFlareReset
  split
  · exact .taken rfl
  · exact .kept rfl

theorem sound_serveSwitchBank (bank : Nat) : (serveSwitchBank bank s).Sound s := by
  unfold serveSwitchBank
  split
  · exact .kept rfl
  · exact .taken rfl

theorem sound_writeBank (bank : Nat) (known : Bank → Bool) (write : Bank → Bank × Bool) :
    (writeBank bank known write s).Sound s := by
  unfold writeBank
  split
  · exact .kept rfl
  · split
    · exact .kept rfl
    · split_ifs
      · exact .kept rfl
      · exact .kept rfl
      · exact .kept rfl
      · exact .doneOr rfl

theorem sound_serveBinding (number : Nat) (value : Int) : (serveBinding number value s).Sound s := by
  unfold serveBinding
  split
  · exact .kept rfl
  · split
    · exact .taken rfl
    · exact .kept rfl

theorem sound_serveSetLimits (mask max : Nat) : (serveSetLimits mask max s).Sound s := by
  unfold serveSetLimits
  split_ifs
  · exact .kept rfl
  · exact .kept rfl
  · exact .doneOr rfl

theorem sound_serveItem (i : Item) (value : Int) : (serveItem i value s).Sound s := by
  cases i with
  | setting k =>
    simp only [serveItem, serveSetting]
    split
    · exact .kept rfl
    · exact .doneOr rfl
  | factor m => exact .doneOr rfl
  | inUse l =>
    simp only [serveItem, serveInUse]
    split
    · exact .taken rfl
    · exact .kept rfl
  | range a high =>
    simp only [serveItem, serveRange]
    generalize (if high = true then _ else _ : Range) = new
    split
    · exact .doneOr rfl
    · exact .kept rfl

theorem sound_serveConfigure (item : Nat) (value : Int) : (serveConfigure item value s).Sound s := by
  unfold serveConfigure
  split
  · exact .kept rfl
  · split
    · exact sound_writeBank s _ _ _
    · exact sound_serveBinding s _ _
    · exact sound_serveItem s _ _
    · exact .kept rfl

theorem sound_serveSetClock (d : DateTime) : (serveSetClock d s).Sound s := by
  unfold serveSetClock
  split
  · exact .taken rfl
  · exact .kept rfl

theorem sound_serveSaveConfig : (serveSaveConfig s).Sound s := by
  unfold serveSaveConfig
  split
  · exact .kept rfl
  · exact .taken rfl

end Serves

/-! ## Every request of the code table (R157) -/

/-- The command is a request of the code on the link, soundly served without a port. -/
def IsRequest (i : Instr) (l : Link) (code : Nat) : Prop :=
  ∃ serve : State → Served, exec i = request l code serve ∧ ∀ s, (serve s).Sound s ∧ (serve s).state.ports = s.ports

namespace IsRequest

variable {i : Instr} {l : Link} {code : Nat} {bs : List Block}

theorem of_touches (serve : State → Served) (hi : exec i = request l code serve) (hserve : ∀ s, (serve s).Sound s)
    (htouch : ∀ s, TouchesOnly bs s (serve s).state) (hb : decide (Block.ports ∉ bs) = true) : IsRequest i l code :=
  ⟨serve, hi, fun s => ⟨hserve s, (htouch s).same .ports hb⟩⟩

theorem of_consumer (serve : Slot → State → Served) (hi : exec i = consumerRequest l code serve)
    (hserve : ∀ s c, (serve c s).Sound s) (htouch : ∀ s c, TouchesOnly bs s (serve c s).state)
    (hb : decide (Block.ports ∉ bs) = true) : IsRequest i l code :=
  of_touches (bs := bs) _ hi
    (fun s => by
      split
      · exact hserve s _
      · exact .kept rfl)
    (fun s => by
      split
      · exact htouch s _
      · exact .refl _ _) hb

theorem of_read (serve : State → Served) (hi : exec i = request l code serve) (hserve : ∀ s, (serve s).state = s) :
    IsRequest i l code :=
  ⟨serve, hi, fun s => ⟨.kept (hserve s), congrArg State.ports (hserve s)⟩⟩

end IsRequest

/-- The commands that a frame can carry are the requests. -/
theorem isRequest_of_encoded {i : Instr} {l : Link} {code : Nat} {payload : List Byte}
    (h : encodeRequest i = some (l, code, payload)) : IsRequest i l code := by
  cases i with
  | register _ m x u =>
    cases h
    exact .of_consumer _ rfl (fun s => sound_serveRegister s m x u) (fun s => touches_serveRegister s m x u) rfl
  | claim _ r => cases h; exact .of_consumer _ rfl (fun s => sound_serveClaim s r) (fun s => touches_serveClaim s r) rfl
  | amend _ r => cases h; exact .of_consumer _ rfl (fun s => sound_serveAmend s r) (fun s => touches_serveAmend s r) rfl
  | report _ running rate =>
    cases h
    exact .of_consumer _ rfl (fun s => sound_serveReport s running rate) (fun s => touches_serveReport s running rate) rfl
  | release => cases h; exact .of_consumer _ rfl sound_serveRelease touches_serveRelease rfl
  | holdSlots _ mask on =>
    cases h
    exact .of_touches _ rfl (fun s => sound_serveHoldSlots s mask on) (fun s => touches_serveHoldSlots s mask on) rfl
  | forceVacant _ slot =>
    cases h
    exact .of_touches _ rfl (fun s => sound_serveForceVacant s slot) (fun s => touches_serveForceVacant s slot) rfl
  | readClaim _ slot => cases h; exact .of_read _ rfl fun _ => serveReadClaim_state _ slot
  | readStack _ position => cases h; exact .of_read _ rfl fun _ => serveReadStack_state _ position
  | readBank _ bank row => cases h; exact .of_read _ rfl fun _ => serveReadBank_state _ bank row
  | readStatus _ group => cases h; exact .of_read _ rfl fun _ => serveReadStatus_state _ _ group
  | readTotals _ record group => cases h; exact .of_read _ rfl fun _ => serveReadTotals_state _ record group
  | qualityResume => cases h; exact .of_touches _ rfl sound_serveQualityResume touches_serveQualityResume rfl
  | flareStatus _ flame ready fault =>
    cases h
    exact .of_touches (fun s => { state := takeReport ⟨flame, ready, fault⟩ s, status := .done }) rfl
      (fun _ => .taken rfl) (fun s => touches_takeReport s _) rfl
  | flareReset => cases h; exact .of_touches _ rfl sound_serveFlareReset touches_serveFlareReset rfl
  | flarePermit _ on =>
    cases h
    exact .of_touches _ (funext fun s => exec_flarePermit _ on s) (fun _ => .taken rfl) (fun s => touches_setPermit s on) rfl
  | switchBank _ bank =>
    cases h
    exact .of_touches _ rfl (fun s => sound_serveSwitchBank s bank) (fun s => touches_serveSwitchBank s bank) rfl
  | writeRow | setRank | configureBandGeometry =>
    cases h
    exact .of_touches _ rfl (fun s => sound_writeBank s _ _ _) (fun s => touches_writeBank s _ _ _) rfl
  | configureEventBinding _ number value =>
    cases h
    exact .of_touches _ rfl (fun s => sound_serveBinding s number value) (fun s => touches_serveBinding s number value) rfl
  | configure _ item value =>
    cases h
    exact .of_touches _ rfl (fun s => sound_serveConfigure s item value) (fun s => touches_serveConfigure s item value) rfl
  | setLimits _ mask max =>
    cases h
    exact .of_touches _ rfl (fun s => sound_serveSetLimits s mask max) (fun s => touches_serveSetLimits s mask max) rfl
  | ackAlerts => cases h; exact .of_touches _ rfl (fun _ => .taken rfl) touches_serveAckAlerts rfl
  | setClock _ d =>
    cases h
    exact .of_touches _ rfl (fun s => sound_serveSetClock s d) (fun s => touches_serveSetClock s d) rfl
  | saveConfig => cases h; exact .of_touches _ rfl sound_serveSaveConfig touches_serveSaveConfig rfl
  | restart =>
    cases h
    exact .of_touches (bs := [.restartPending]) _ (funext fun s => exec_restart _ s) (fun _ => .taken rfl)
      (fun _ => .of_restore rfl) rfl
  | _ => cases h

/-- Settles O4: the authority check comes before the block, and a block that refuses leaves the state alone. -/
theorem refusedRequestsChangeNothing : Obligations.RefusedRequestsChangeNothing := by
  refine ⟨fun i l code payload s h hs ha => ?_, fun i l code payload s t st h hs ht hst hdone hclamped => ?_⟩
  · obtain ⟨serve, hi, -⟩ := isRequest_of_encoded h
    exact answeredUnchanged_notAllowed (congrFun hi s) hs ha
  · obtain ⟨serve, hi, hsound⟩ := isRequest_of_encoded h
    rw [hi] at ht
    obtain ⟨hno, -⟩ | ⟨-, -, rfl⟩ | ⟨-, -, rfl⟩ := request_next ht
    · rw [hs] at hno
      cases hno
    · rfl
    · rw [answerStatus_respond, Option.some.injEq] at hst
      obtain hd | hc | hkept := (hsound s).1
      · exact absurd (hst.symm.trans hd) hdone
      · exact absurd (hst.symm.trans hc) hclamped
      · rw [hkept, followFlow_self]
        rfl

/-! ## The attention byte (R163) and the alarm relay (R164) -/

/-- Bits packed into a number, the first of them lowest. -/
def packBits : List Bool → Nat
  | [] => 0
  | b :: bs => b.toNat + 2 * packBits bs

theorem testBit_packBits (bs : List Bool) (k : Nat) : (packBits bs).testBit k = (bs[k]?).getD false := by
  induction bs generalizing k with
  | nil => simp [packBits]
  | cons b bs ih =>
    cases k with
    | zero => cases b <;> simp [packBits, Nat.testBit_zero]
    | succ k =>
      have hdiv : (b.toNat + 2 * packBits bs) / 2 = packBits bs := by
        rw [Nat.add_mul_div_left _ _ two_pos, Nat.div_eq_of_lt (Bool.toNat_lt b), Nat.zero_add]
      rw [packBits, Nat.testBit_succ, hdiv, ih, List.getElem?_cons_succ]

theorem packBits_lt (bs : List Bool) : packBits bs < 2 ^ bs.length := by
  induction bs with
  | nil => decide
  | cons b bs ih =>
    have hb := Bool.toNat_le b
    rw [packBits, List.length_cons, Nat.pow_succ]
    omega

theorem attentionByte_eq (s : State) :
    attentionByte s = packBits [latchedIn 0 28 s.alerts, latchedIn 29 31 s.alerts, latchedIn 32 33 s.alerts,
      latchedIn 34 37 s.alerts, latchedIn 38 53 s.alerts, latchedIn 54 55 s.alerts, latchedIn 56 57 s.alerts,
      !relayEnergized s] := by
  simp only [attentionByte, packBits]
  omega

theorem latchedIn_iff {lo hi : Nat} {t : Tab 58 AlertState} :
    latchedIn lo hi t = true ↔ ∃ n : Fin 58, (lo ≤ n.val ∧ n.val ≤ hi) ∧ t.get n ≠ .clear := by
  have hlen := t.len
  simp only [latchedIn, List.any_eq_true, isLatched, decide_eq_true_eq, List.mem_drop_iff_getElem, List.length_take,
    List.getElem_take]
  constructor
  · rintro ⟨x, ⟨k, hk, rfl⟩, hx⟩
    exact ⟨⟨lo + k, by omega⟩, ⟨Nat.le_add_right _ _, by show lo + k ≤ hi; omega⟩, hx⟩
  · rintro ⟨n, ⟨hlo, hhi⟩, hn⟩
    refine ⟨_, ⟨n.val - lo, by omega, rfl⟩, ?_⟩
    simp only [Nat.add_sub_cancel' hlo]
    exact hn

/-- A run of record numbers holds a latched record where one of its alerts is active or latched. -/
theorem latchedIn_group {lo hi : Nat} {as : List Alert} (s : State)
    (h : ∀ n : Fin 58, (lo ≤ n.val ∧ n.val ≤ hi) ↔ n ∈ as.map alertNumber) :
    latchedIn lo hi s.alerts = true ↔ ∃ a ∈ as, alertState a s ≠ .clear := by
  rw [latchedIn_iff]
  constructor
  · rintro ⟨n, hn, hlatched⟩
    obtain ⟨a, ha, rfl⟩ := List.mem_map.mp ((h n).mp hn)
    exact ⟨a, ha, hlatched⟩
  · rintro ⟨a, ha, hlatched⟩
    exact ⟨alertNumber a, (h _).mpr (List.mem_map.mpr ⟨a, ha, rfl⟩), hlatched⟩

theorem relaySetLatched_iff (s : State) : relaySetLatched s.alerts = true ↔
    ∃ a ∈ [Alert.gasRoom, .estop, .sourGas, .flareFailed, .holderOverfill, .pressureHigh, .balanceMismatch],
      alertState a s ≠ .clear := by
  have hfirst := latchedIn_group (lo := 31) (hi := 34) (as := [.sourGas, .gasRoom, .estop, .holderOverfill]) s (by decide +kernel)
  have hsecond := latchedIn_group (lo := 36) (hi := 37) (as := [.pressureHigh, .balanceMismatch]) s (by decide +kernel)
  have hthird := latchedIn_group (lo := 55) (hi := 55) (as := [.flareFailed]) s (by decide +kernel)
  simp only [relaySetLatched, Bool.or_eq_true, hfirst, hsecond, hthird, List.mem_cons, List.not_mem_nil, or_false,
    exists_eq_or_imp, exists_eq_left]
  simp only [or_assoc, or_comm, or_left_comm]

theorem relayEnergized_iff (s : State) : relayEnergized s = true ↔ relayHeld s := by
  rw [relayEnergized, relayHeld, Bool.and_eq_true, Bool.not_eq_true', ← Bool.not_eq_true, relaySetLatched_iff]
  simp only [not_exists, not_and, ne_eq, not_not]

/-- Bits 0 to 6 of the attention byte stand for their groups. -/
theorem attentionByte_testBit (s : State) {k : Nat} (hk : k < 7) :
    (attentionByte s).testBit k = true ↔ ∃ x ∈ attentionGroup k, alertState x s ≠ .clear := by
  rw [attentionByte_eq, testBit_packBits]
  interval_cases k
  · exact latchedIn_group s (by decide +kernel)
  · exact latchedIn_group s (by decide +kernel)
  · exact latchedIn_group s (by decide +kernel)
  · exact latchedIn_group s (by decide +kernel)
  · exact latchedIn_group s (by decide +kernel)
  · exact latchedIn_group s (by decide +kernel)
  · exact latchedIn_group s (by decide +kernel)

theorem attentionByte_testBit_relay (s : State) : (attentionByte s).testBit 7 = true ↔ ¬relayHeld s := by
  rw [← relayEnergized_iff, attentionByte_eq, testBit_packBits]
  simp

theorem attentionByte_lt (s : State) : attentionByte s < 256 := by
  rw [attentionByte_eq]
  exact (packBits_lt _).trans_eq (by simp)

/-! ## The answer (R156, R158, R159) -/

section Respond

variable {l : Link} {code : Nat} {st : Status} {figures : List Byte} {s t : State}

theorem respond_answer : ((respond l code st figures s).ports.get l).answer = some (buildAnswer l code st figures s) := by
  rw [respond_ports, Tab.get_modify_same, answered]
  split <;> rfl

theorem respond_sends (h : (s.ports.get l).state = .hold) : ((respond l code st figures s).ports.get l).state = .send := by
  rw [respond_ports, Tab.get_modify_same, answered, if_pos h]

/-- The attention byte and the summary of an answer are those of the state that it is built from. -/
theorem respond_reads : attentionByte (respond l code st figures s) = attentionByte s ∧
    summaryOf l (respond l code st figures s) = summaryOf l s := by
  constructor
  · simp [attentionByte, relayEnergized]
  · simp [summaryOf, slotSummary, flareSummary]

end Respond

/-- A request is answered on its own link, refused or served, and its block moves no port. -/
theorem request_responds {i : Instr} {l : Link} {code : Nat} {s t : State} (h : IsRequest i l code)
    (hs : s.supplied = true) (ht : exec i s = .next t) :
    ∃ u st figures, u.ports = s.ports ∧ t = respond l code st figures u := by
  obtain ⟨serve, hi, hserve⟩ := h
  rw [hi] at ht
  obtain ⟨hno, -⟩ | ⟨-, -, rfl⟩ | ⟨-, -, rfl⟩ := request_next ht
  · rw [hs] at hno
    cases hno
  · exact ⟨s, _, _, rfl, rfl⟩
  · exact ⟨followFlow s (serve s).state, _, _, (followFlow_ports _ _).trans (hserve s).2, rfl⟩

/-- Settles O5: whether refused or served, the answer is built from the state that it leaves. -/
theorem everyRequestIsAnsweredAtOnce : Obligations.EveryRequestIsAnsweredAtOnce := by
  intro i l code payload s h hs
  obtain ⟨t, ht⟩ := exec_completes i s
  obtain ⟨u, st, figures, hports, rfl⟩ := request_responds (isRequest_of_encoded h) hs ht
  obtain ⟨hattention, hsummary⟩ := respond_reads (l := l) (code := code) (st := st) (figures := figures) (s := u)
  refine ⟨_, _, ht, respond_answer, rfl, rfl, hattention.symm, attentionByte_lt u, fun k hk => ?_, ?_, ⟨figures, ?_⟩,
    fun hp => respond_sends (by rwa [hports]), fun k hk => ?_⟩
  · exact attentionByte_testBit u hk
  · exact attentionByte_testBit_relay u
  · rw [hsummary]
    rfl
  · rw [respond_ports_same_but _ _ _ _ _ k hk, hports]

end Sys2Proof.Machine
end

section
/-! Reads are answered with their figures in the order and widths of R166, and change nothing (R81, R119, R148, R160,
R172). -/

namespace Sys2Proof.Machine

open Sys2Proof

/-! ## Fields (R166) -/

theorem saturate_eq (max n : Nat) : saturate max n = Nat.min n max := by
  show _ = min n max
  rw [saturate, Nat.min_def]
  split_ifs <;> omega

theorem field_one (n : Nat) : field 1 n = put8 n := by
  show [byte (Nat.min n 255 / 1)] = [byte (saturate 255 n)]
  rw [saturate_eq, Nat.div_one]

theorem field_two (n : Nat) : field 2 n = put16 n := by
  show [byte (Nat.min n 65535 / 256), byte (Nat.min n 65535 / 1)] = bytes16 (saturate 65535 n)
  rw [saturate_eq, Nat.div_one]
  rfl

theorem field_four (n : Nat) : field 4 n = put32 n := by
  show [byte (Nat.min n 4294967295 / 16777216), byte (Nat.min n 4294967295 / 65536),
    byte (Nat.min n 4294967295 / 256), byte (Nat.min n 4294967295 / 1)] = bytes32 (saturate 4294967295 n)
  rw [saturate_eq, Nat.div_one]
  rfl

theorem saturate_of_le {max n : Nat} (h : n ≤ max) : saturate max n = n := if_neg (Nat.not_lt.mpr h)

theorem signedField_two (v : Int) : signedField 2 v = putSigned16 v := by
  have hfit : max (-32768) (min 32767 v) = clampInt (-32768) 32767 v := (clampInt_eq (by decide) v).symm
  have hlo : -32768 ≤ clampInt (-32768) 32767 v := hfit ▸ le_max_left _ _
  have hhi : clampInt (-32768) 32767 v ≤ 32767 := hfit ▸ max_le (by decide) (min_le_left _ _)
  show field 2 (if max (-32768) (min 32767 v) < 0 then max (-32768) (min 32767 v) + 65536
    else max (-32768) (min 32767 v)).toNat = _
  rw [hfit, field_two, putSigned16, put16, signed16]
  generalize clampInt (-32768) 32767 v = w at hlo hhi
  refine congrArg bytes16 ?_
  rw [saturate]
  split_ifs <;> omega

theorem signedField_four (v : Int) : signedField 4 v = putSigned32 v := by
  have hfit : max (-2147483648) (min 2147483647 v) = clampInt (-2147483648) 2147483647 v :=
    (clampInt_eq (by decide) v).symm
  have hlo : -2147483648 ≤ clampInt (-2147483648) 2147483647 v := hfit ▸ le_max_left _ _
  have hhi : clampInt (-2147483648) 2147483647 v ≤ 2147483647 := hfit ▸ max_le (by decide) (min_le_left _ _)
  show field 4 (if max (-2147483648) (min 2147483647 v) < 0 then max (-2147483648) (min 2147483647 v) + 4294967296
    else max (-2147483648) (min 2147483647 v)).toNat = _
  rw [hfit, field_four, putSigned32, put32, signed32]
  generalize clampInt (-2147483648) 2147483647 v = w at hlo hhi
  refine congrArg bytes32 ?_
  rw [saturate]
  split_ifs <;> omega

theorem flagField_eq (b : Bool) : flagField b = putFlag b := by cases b <;> rfl

theorem optionalField_one (v : Option Nat) : optionalField 1 v = putOpt8 v := by
  cases v with
  | none => rfl
  | some n => exact field_one n

theorem optionalField_two (v : Option Nat) : optionalField 2 v = putOpt16 v := by
  cases v with
  | none => rfl
  | some n => exact field_two n

theorem secondsField_eq (t : Timer) : secondsField t = putTimer t := optionalField_two _

theorem eachField_eq {n : Nat} {α : Type} (t : Tab n α) (f : α → List Byte) : eachField t f = putTab f t := by
  rw [putTab, Tab.list_eq_map, List.flatMap_map]
  rfl

/-! ## Codes -/

theorem claimStateField_eq (st : ClaimState) : claimStateField st = put8 st.code := by cases st <;> rfl

theorem flareStateField_eq (st : FlareState) : flareStateField st = put8 st.code := by cases st <;> rfl

theorem sourceField_eq (q : QualitySource) : sourceField q = put8 q.code := by cases q <;> rfl

theorem shedReport_code (k : ShedReport) : [ShedReport.none, .steps, .cutAll, .pressureLow].idxOf k = k.code := by
  cases k <;> rfl

theorem bandField_eq (b : Band) : bandField b = put8 b.code := by
  cases b with
  | row n => exact field_one n
  | fallThrough => rfl

theorem slotField_eq (c : Option Slot) : slotField c = putSlot c := by
  cases c with
  | none => rfl
  | some c => exact field_one _

theorem locksField_eq (k : Locks) : locksField k = put8 k.code := by
  obtain ⟨sour, gasRoom, estop, held⟩ := k
  cases sour <;> cases gasRoom <;> cases estop <;> cases held <;> rfl

theorem bindingField_eq (b : Option Binding) : bindingField b = bindingFigures b := by
  cases b with
  | none => rfl
  | some b =>
    obtain ⟨source, bank⟩ := b
    have hsource : field 1 ([Source.k2, .k3, .k4, .sour, .substituted, .flareFailed, .mismatch].idxOf source + 1) =
        put8 source.code := by cases source <;> rfl
    exact congrArg₂ (· ++ ·) hsource (field_one _)

theorem recordCeiling_eq (c : Claim) : recordCeiling c = c.ceiling := by
  unfold recordCeiling Claim.ceiling ceilingOf Claim.max
  cases c.request <;> cases c.limits <;> simp

/-! ## Figures -/

section Figures

variable (s : State)

theorem slotSummary_eq (c : Slot) : slotSummary s c = slotSummaryBytes (s.claims.get c) := by
  simp only [slotSummary, slotSummaryBytes, claimStateField_eq, field_two, field_four, recordCeiling_eq, locksField_eq,
    flagField_eq]

theorem flareSummary_eq : flareSummary s = flareSummaryBytes s.flare := by
  simp only [flareSummary, flareSummaryBytes, flareStateField_eq, field_one, field_two, flagField_eq]

theorem claimFigures_eq (c : Slot) : claimFigures s c = claimBytes s c := by
  have hkind : (if c.val < 4 then 0 else 1) = if c.val = 4 then 1 else 0 := by have := c.isLt; split_ifs <;> omega
  simp only [claimFigures, claimBytes, hkind, claimStateField_eq, field_one, field_two, field_four, optionalField_two,
    recordCeiling_eq, locksField_eq, flagField_eq, secondsField_eq, slotCount]

/-- The records from a position downwards, one by one. -/
theorem recordsFrom_take (rs : List ShedRecord) (position n : Nat) :
    recordsFrom position (rs.take n) = (List.range n).flatMap fun k =>
      match rs[k]? with
      | some r => recordFigures (position + k) r
      | none => [] := by
  induction n generalizing rs position with
  | zero => rfl
  | succ n ih =>
    cases rs with
    | nil => simp [recordsFrom]
    | cons r rs =>
      rw [List.take_succ_cons, recordsFrom, ih, List.range_succ_eq_map, List.flatMap_cons, List.flatMap_map]
      simp only [List.getElem?_cons_zero, List.getElem?_cons_succ, Nat.add_zero, Nat.succ_eq_add_one,
        Nat.add_right_comm position 1]
      rfl

theorem recordFigures_eq (position : Nat) (r : ShedRecord) :
    recordFigures position r =
      field 1 position ++ slotField (some r.slot) ++ field 1 (match r.kind with | .trim => 0 | .whole => 1) ++
        field 2 r.amount ++ bandField r.band ++ field 2 r.passNumber ++ flagField r.pending := by
  simp only [recordFigures, bandField_eq, flagField_eq, field_one, field_two, slotField_eq]
  rfl

theorem stackFigures_eq (position : Nat) : stackFigures s position = stackBytes s position := by
  simp only [stackFigures, stackBytes, recordsFrom_take, List.getElem?_drop, recordFigures_eq, eachField_eq, field_one,
    field_four, flagField_eq, overflowFlag, isActive] <;> rfl

theorem rowFigures_eq (r : RowRecord) :
    rowFigures r = signedField 2 r.trim ++ field 1 r.steps ++ flagField r.restore ++ flagField r.admits ++
      flagField r.flare ++ flagField r.cutAll ++ field 2 r.admissionMargin ++ field 2 r.restoreMargin ++
      field 2 r.shedStep := by
  simp only [rowFigures, signedField_two, field_one, field_two, flagField_eq]

theorem bankFigures_eq (b : BankNo) (row : Nat) : bankFigures s b row = bankBytes s b row := by
  have hfield : bindingField = bindingFigures := funext bindingField_eq
  have hone : field 1 = put8 := funext field_one
  simp only [bankFigures, bankBytes, rowFigures_eq, eachField_eq, hfield, hone, field_two, optionalField_one, bandField_eq,
    bankRow]

theorem totalsFigures_eq (k : Totals) (g : GasDay) {group : Nat} (h : group ≤ 3) :
    totalsFigures k g group = totalsBytes k g group := by
  have hfour : field 4 = put32 := funext field_four
  have hdate : putDate g.start = match g.start with
      | some d => field 2 d.year ++ field 1 d.month ++ field 1 d.day
      | none => List.replicate 4 255 := by
    cases g.start with
    | none => rfl
    | some d => simp only [putDate, field_one, field_two]
  interval_cases group
  · simp only [totalsFigures, totalsBytes, hdate, putClock, field_one, field_two, hfour, flagField_eq, if_true,
      List.append_assoc] <;> rfl
  · simp only [totalsFigures, totalsBytes, eachField_eq, hfour]
    rfl
  · simp only [totalsFigures, totalsBytes, eachField_eq, hfour]
    rfl
  · simp only [totalsFigures, totalsBytes, eachField_eq, hfour]
    rfl

theorem slotMask_eq (t : Tab 5 Bool) : slotMask t = (allSlots.map fun c => if t.get c then 2 ^ c.val else 0).sum := by
  have hget (k : Fin 5) : t.list[k.val]? = some (t.get k) := List.getElem?_eq_getElem (by rw [t.len]; exact k.isLt)
  have h0 := hget 0
  have h1 := hget 1
  have h2 := hget 2
  have h3 := hget 3
  have h4 := hget 4
  simp [slotMask, allSlots, List.range, List.range.loop] at h0 h1 h2 h3 h4 ⊢
  simp only [h0, h1, h2, h3, h4, Option.getD_some]
  omega

theorem groupFigures_eq {group : Nat} (h : group ≤ 4) : groupFigures s group = statusBytes s group := by
  have htwo : field 2 = put16 := funext field_two
  have hsummary : slotSummary s = fun c => slotSummaryBytes (s.claims.get c) := funext (slotSummary_eq s)
  interval_cases group
  · simp only [groupFigures, groupResults, statusBytes, if_true, slotMask_eq, shedReport_code, bandField_eq,
      slotField_eq, flagField_eq, sourceField_eq, field_one, htwo]
  · simp only [groupFigures, groupHolder, statusBytes, signedField_two, signedField_four, bandField_eq, flagField_eq,
      eachField_eq, htwo, field_four]
    rfl
  · simp only [groupFigures, groupQuality, statusBytes, sourceField_eq, flagField_eq, eachField_eq, secondsField_eq,
      field_one, htwo]
    rfl
  · simp only [groupFigures, groupFlare, statusBytes, flareStateField_eq, flagField_eq, secondsField_eq, field_one, htwo]
    rfl
  · simp only [groupFigures, groupClaims, statusBytes, hsummary, optionalField_one, flagField_eq, field_one, overflowFlag,
      isActive]
    rfl

end Figures

/-! ## The alert register (group 5 of R160) -/

theorem indicationByte_eq (p : AlertState → Bool) (t : Tab 58 AlertState) (k : Nat) :
    indicationByte p t k = byte (packBits ((List.range 8).map fun b => (t.list[8 * k + b]?.map p).getD false)) := by
  have hbit (c : Bool) (v : Nat) : (if c then v else 0) = v * c.toNat := by cases c <;> simp
  refine congrArg byte ?_
  simp only [List.range, List.range.loop, List.foldl_cons, List.foldl_nil, List.map_cons, List.map_nil, packBits, hbit]
  omega

/-- Bit `b` of byte `k` indicates record `8k + b`, where there is one. -/
theorem indicationByte_bit (p : AlertState → Bool) (t : Tab 58 AlertState) (k b : Nat) :
    (indicationByte p t k).getLsbD b = (decide (b < 8) && (t.list[8 * k + b]?.map p).getD false) := by
  rw [indicationByte_eq, byte, BitVec.getLsbD_ofNat, testBit_packBits]
  by_cases hb : b < 8
  · simp [hb]
  · simp [hb]

theorem indicationBytes_length (p : AlertState → Bool) (t : Tab 58 AlertState) : (indicationBytes p t).length = 8 := by
  simp [indicationBytes]

theorem groupAlerts_active (s : State) {k : Nat} (h : k < 8) :
    (groupAlerts s).getD k 0 = indicationByte (fun a => a = .active) s.alerts k := by
  rw [groupAlerts, List.append_assoc, List.getD_append _ _ _ _ (by rwa [indicationBytes_length]), indicationBytes,
    List.getD_eq_getElem?_getD]
  simp [h]

theorem groupAlerts_latched (s : State) {k : Nat} (h : k < 8) :
    (groupAlerts s).getD (8 + k) 0 = indicationByte isLatched s.alerts k := by
  rw [groupAlerts, List.append_assoc, List.getD_append_right _ _ _ _ (by rw [indicationBytes_length]; omega),
    indicationBytes_length, Nat.add_sub_cancel_left, List.getD_append _ _ _ _ (by rwa [indicationBytes_length]),
    indicationBytes, List.getD_eq_getElem?_getD]
  simp [h]

theorem groupAlerts_relay (s : State) : (groupAlerts s).getD 16 0 = flagByte (relayEnergized s) := by
  rw [groupAlerts, List.getD_append_right _ _ _ _ (by simp [indicationBytes_length])]
  simp [indicationBytes_length, putFlag]

/-- Record n stands in bit n mod 8 of byte n / 8. -/
theorem indicationByte_record (p : AlertState → Bool) (t : Tab 58 AlertState) (n : Fin 58) :
    (indicationByte p t (n.val / 8)).getLsbD (n.val % 8) = p (t.get n) := by
  have hget : t.list[n.val]? = some (t.get n) := List.getElem?_eq_getElem (by rw [t.len]; exact n.isLt)
  rw [indicationByte_bit, Nat.div_add_mod, hget]
  simp [Nat.mod_lt]

/-- Past record 57 the last byte of indications is empty. -/
theorem indicationByte_last (p : AlertState → Bool) (t : Tab 58 AlertState) {k : Nat} (h : 2 ≤ k) :
    (indicationByte p t 7).getLsbD k = false := by
  rw [indicationByte_bit, List.getElem?_eq_none (by rw [t.len]; omega)]
  simp

theorem alertsReported_groupAlerts (s : State) : alertsReported s (groupAlerts s) := by
  refine ⟨by simp [groupAlerts, indicationBytes_length, putFlag], fun n => ⟨?_, ?_⟩, fun k hk => ⟨?_, ?_⟩, fun h => ?_,
    fun h => ?_⟩
  · rw [groupAlerts_active s (by omega), indicationByte_record]
    exact decide_eq_true_iff
  · rw [groupAlerts_latched s (by omega), indicationByte_record]
    exact decide_eq_true_iff
  · rw [groupAlerts_active s (by decide)]
    exact indicationByte_last _ _ hk
  · rw [groupAlerts_latched s (k := 7) (by decide)]
    exact indicationByte_last _ _ hk
  · rw [groupAlerts_relay, (relayEnergized_iff s).mpr h]
    rfl
  · rw [groupAlerts_relay, Bool.eq_false_iff.mpr fun e => h ((relayEnergized_iff s).mp e)]
    rfl

/-! ## The reads -/

/-- A read that answers its figures leaves the state alone. -/
theorem read_answers {i : Instr} {l : Link} {code : Nat} {serve : State → Served} {figures : List Byte} {s : State}
    (hi : exec i = request l code serve) (hs : s.supplied = true) (ha : codeAllowed l code = true)
    (hv : serve s = { state := s, status := .done, figures }) :
    ∃ t, exec i s = .next t ∧ answerStatus l t = some .done ∧ answerPayload l t = some (summaryOf l s ++ figures) ∧
      PortsSameBut l s t ∧ { t with ports := s.ports } = s := by
  have hnext := request_served serve hs ha
  rw [hv, followFlow_self] at hnext
  exact ⟨_, (congrFun hi s).trans hnext, answerStatus_respond .., answerPayload_respond ..,
    respond_ports_same_but _ _ _ _ _, rfl⟩

/-- On link 0 the figures are the whole payload (R159). -/
theorem read_answers_zero {i : Instr} {code : Nat} {serve : State → Served} {figures : List Byte} {s : State}
    (hi : exec i = request 0 code serve) (hs : s.supplied = true) (ha : codeAllowed 0 code = true)
    (hv : serve s = { state := s, status := .done, figures }) :
    ∃ t, exec i s = .next t ∧ answerStatus 0 t = some .done ∧ answerPayload 0 t = some figures ∧
      PortsSameBut 0 s t ∧ { t with ports := s.ports } = s :=
  read_answers hi hs ha hv

section Reads

variable {s : State}

theorem slotOfByte_val (c : Slot) : slotOfByte (c.val + 1) = some c := by
  rw [slotOfByte, dif_pos (by have := c.isLt; omega)]
  rfl

theorem slotOfByte_none {slot : Nat} (h : slot = 0 ∨ 5 < slot) : slotOfByte slot = none := dif_neg (by omega)

theorem rowInUse_iff (b : Bank) (row : Nat) : rowInUse b row = true ↔ row < b.count ∧ row < 16 ∨ row = 16 := by
  simp [rowInUse, and_comm]

theorem serveReadStatus_zero {group : Nat} (h : group ≤ 5) :
    serveReadStatus 0 group s = { state := s, status := .done, figures := groupFigures s group } := by
  simp [serveReadStatus, h]

theorem serveReadStatus_link {l : Link} (hl : l ≠ 0) (group : Nat) :
    serveReadStatus l group s = { state := s, status := .done } := if_pos hl

/-- The summary that opens an answer on a consumer's link is its slot's. -/
theorem summaryOf_slot {l : Link} {c : Slot} (h : l.val = c.val + 1) (s : State) : summaryOf l s = slotSummary s c := by
  have hc := c.isLt
  have hl : linkSlot l = some c := by
    rw [linkSlot, dif_pos (by omega)]
    simp [h]
  have hzero : l ≠ 0 := fun e => by simp [e] at h
  have hsix : l ≠ 6 := fun e => by
    rw [e] at h
    have : (6 : Fin 7).val = 6 := rfl
    omega
  simp [summaryOf, hzero, hsix, hl]

end Reads

/-- Settles O52: each read serves its figures, which are the fields of R166 in order, and moves nothing. -/
theorem readsAnswerAndChangeNothing : Obligations.ReadsAnswerAndChangeNothing := by
  intro s hs
  refine ⟨fun c => ?claim, fun slot h => ?noClaim, fun position h => ?stack, fun position h => ?noPosition,
    fun b row h => ?bank, fun bank row h => ?noBank, fun record group hr hg => ?totals, fun record group h => ?noTotals,
    fun group h => ?status, fun group h => ?noGroup, fun l group hl => ?summary⟩
  case claim =>
    rw [← claimFigures_eq]
    exact read_answers_zero rfl hs rfl (by simp only [serveReadClaim, slotOfByte_val])
  case noClaim => exact answeredUnchanged_served rfl hs rfl (by simp only [serveReadClaim, slotOfByte_none h])
  case stack =>
    rw [← stackFigures_eq]
    exact read_answers_zero rfl hs rfl (if_pos h)
  case noPosition => exact answeredUnchanged_served rfl hs rfl (if_neg (Nat.not_le.mpr h))
  case bank =>
    rw [← bankFigures_eq]
    exact read_answers_zero rfl hs rfl (by simp only [serveReadBank, bankOf_val, (rowInUse_iff _ _).mpr h, if_true])
  case noBank =>
    refine answeredUnchanged_served rfl hs rfl ?_
    obtain habove | ⟨b, rfl, hrow⟩ := h
    · simp only [serveReadBank, bankOf_above habove]
    · simp only [serveReadBank, bankOf_val, mt (rowInUse_iff _ _).mp hrow, Bool.false_eq_true, if_false]
  case totals =>
    rw [← totalsFigures_eq _ _ hg]
    exact read_answers_zero rfl hs rfl (if_pos (by simp [hr, hg]))
  case noTotals => exact answeredUnchanged_served rfl hs rfl (if_neg (by simp; omega))
  case status =>
    obtain ⟨t, ht, hst, hp, hports, hframe⟩ :=
      read_answers_zero (i := .readStatus 0 group) rfl hs rfl (serveReadStatus_zero h)
    refine ⟨t, _, ht, hst, hp, fun h5 => ?_, fun h5 => ?_, hports, hframe⟩
    · subst h5
      exact alertsReported_groupAlerts s
    · exact groupFigures_eq s (by omega)
  case noGroup => exact answeredUnchanged_served rfl hs rfl (by simp [serveReadStatus, Nat.not_le.mpr h])
  case summary =>
    have ha : codeAllowed l 0x01 = true := by
      unfold codeAllowed
      split_ifs <;> rfl
    obtain ⟨t, ht, hst, hp, hports, hframe⟩ :=
      read_answers (i := .readStatus l group) rfl hs ha (serveReadStatus_link hl group)
    refine ⟨t, _, ht, hst, hp, fun c hc => ?_, fun h6 => ?_, hports, hframe⟩
    · rw [List.append_nil, summaryOf_slot hc, slotSummary_eq]
    · subst h6
      rw [List.append_nil, ← flareSummary_eq]
      rfl

end Sys2Proof.Machine
end

section
/-! An operation applied to one slot after another, each moving its own slot alone; lock causes over several slots
(R69 to R72), the sour condition (R28, R29), contacts (R15, R16, R22, R54) and the supervisor's requests (R72, R76). -/

namespace Sys2Proof.Machine

open Sys2Proof

/-! ## Operations that act on one index at a time -/

/-- Where an operation moves the view of its own index alone, and moves that by what the view shows, a run over distinct
indices shows at each of them what one application does. -/
theorem foldl_view {ι σ α : Type} [DecidableEq ι] (view : ι → σ → α) (op : σ → ι → σ)
    (hne : ∀ s c d, d ≠ c → view d (op s c) = view d s)
    (hsame : ∀ s t c, view c s = view c t → view c (op s c) = view c (op t c)) {is : List ι} (hd : is.Nodup) (s : σ)
    (d : ι) : view d (is.foldl op s) = if d ∈ is then view d (op s d) else view d s := by
  induction is generalizing s with
  | nil => rfl
  | cons c is ih =>
    obtain ⟨hc, his⟩ := List.nodup_cons.mp hd
    rw [List.foldl_cons, ih his]
    by_cases hdc : d = c
    · subst hdc
      rw [if_neg hc, if_pos List.mem_cons_self]
    · have hmem : d ∈ c :: is ↔ d ∈ is := by simp [hdc]
      by_cases hin : d ∈ is
      · rw [if_pos hin, if_pos (hmem.mpr hin), hsame _ s _ (hne s c d hdc)]
      · rw [if_neg hin, if_neg (mt hmem.mp hin), hne s c d hdc]

/-! ## Lock causes over several slots (R69, R70, R71) -/

section Causes

variable {cause : LockCause} {slots : List Slot} {s t : State} {c d : Slot}

/-- The records of a slot, top first. -/
def slotRecords (c : Slot) (s : State) : List ShedRecord := s.stack.records.filter fun r => r.slot = c

theorem slotSum_eq (c : Slot) (s : State) : slotSum c s.stack.records = ((slotRecords c s).map (·.amount)).sum := rfl

/-- What a slot's lock causes read and move. -/
def slotView (c : Slot) (s : State) : Claim × List ShedRecord := (s.claims.get c, slotRecords c s)

theorem slotRecords_dropped_same (c : Slot) (rs : List ShedRecord) :
    (rs.filter fun r => !(r.slot = c)).filter (fun r => r.slot = c) = [] := by
  simp [List.filter_filter]

theorem slotRecords_dropped_ne (h : d ≠ c) (rs : List ShedRecord) :
    (rs.filter fun r => !(r.slot = c)).filter (fun r => r.slot = d) = rs.filter fun r => r.slot = d := by
  rw [List.filter_filter]
  refine List.filter_congr fun r _ => ?_
  by_cases hr : r.slot = d
  · simp [hr, h]
  · simp [hr]

theorem slotView_changeClaim_same (f : Claim → Claim) :
    slotView c (changeClaim c f s) = (commit (s.claims.get c) (f (s.claims.get c)), slotRecords c s) := by
  simp [slotView, slotRecords]

theorem slotView_changeClaim_ne (h : d ≠ c) (f : Claim → Claim) : slotView d (changeClaim c f s) = slotView d s := by
  simp [slotView, slotRecords, h]

theorem slotView_changePurging_same (f : Claim → Claim) :
    slotView c (changePurging c f s) =
      (commit (s.claims.get c) (f (purged ((slotRecords c s).map (·.amount)).sum (s.claims.get c))), []) := by
  simp only [slotView, slotRecords, changePurging_claims, Tab.get_set_same, changePurging_stack, dropRecords,
    slotRecords_dropped_same]
  rfl

theorem slotView_changePurging_ne (h : d ≠ c) (f : Claim → Claim) : slotView d (changePurging c f s) = slotView d s := by
  simp only [slotView, slotRecords, changePurging_claims, Tab.get_set_ne _ _ h, changePurging_stack, dropRecords,
    slotRecords_dropped_ne h]

theorem slotView_addCause_ne (h : d ≠ c) : slotView d (addCause cause s c) = slotView d s := by
  unfold addCause
  dsimp only
  split_ifs
  · rfl
  · exact slotView_changePurging_ne h _
  · exact slotView_changeClaim_ne h _

theorem slotView_addCause_congr (h : slotView c s = slotView c t) :
    slotView c (addCause cause s c) = slotView c (addCause cause t c) := by
  obtain ⟨hclaim, hrecords⟩ := Prod.mk.inj h
  unfold addCause
  dsimp only
  rw [hclaim]
  split_ifs
  · exact h
  · rw [slotView_changePurging_same, slotView_changePurging_same, hclaim, hrecords]
  · rw [slotView_changeClaim_same, slotView_changeClaim_same, hclaim, hrecords]

theorem slotView_removeCause_ne (h : d ≠ c) : slotView d (removeCause cause s c) = slotView d s := by
  unfold removeCause
  split
  · exact slotView_changeClaim_ne h _
  · rfl

theorem slotView_removeCause_congr (h : slotView c s = slotView c t) :
    slotView c (removeCause cause s c) = slotView c (removeCause cause t c) := by
  obtain ⟨hclaim, hrecords⟩ := Prod.mk.inj h
  unfold removeCause
  rw [hclaim]
  split
  · rw [slotView_changeClaim_same, slotView_changeClaim_same, hclaim, hrecords]
  · exact h

theorem slotView_addCauses (hd : slots.Nodup) (s : State) (c : Slot) :
    slotView c (slots.foldl (addCause cause) s) =
      if c ∈ slots then slotView c (addCause cause s c) else slotView c s :=
  foldl_view slotView _ (fun _ _ _ h => slotView_addCause_ne h) (fun _ _ _ h => slotView_addCause_congr h) hd s c

theorem slotView_removeCauses (hd : slots.Nodup) (s : State) (c : Slot) :
    slotView c (slots.foldl (removeCause cause) s) =
      if c ∈ slots then slotView c (removeCause cause s c) else slotView c s :=
  foldl_view slotView _ (fun _ _ _ h => slotView_removeCause_ne h) (fun _ _ _ h => slotView_removeCause_congr h) hd s c

theorem put_self {k : Locks} {b : Bool} (h : k.has cause = b) : k.put cause b = k := by
  subst h
  cases cause <;> rfl

theorem commit_keeps_locks (old new : Claim) : (commit old new).locks = new.locks := by
  unfold commit
  split <;> rfl

/-- Whatever the claim does, its lock cause set is the old one with the cause. -/
theorem addCause_set (cause : LockCause) (s : State) (c : Slot) :
    ((addCause cause s c).claims.get c).locks = (s.claims.get c).locks.put cause true := by
  cases h : (s.claims.get c).locks.has cause with
  | true => rw [addCause_present h, put_self h]
  | false =>
    cases hl : lockable (s.claims.get c).state with
    | true => rw [addCause_locks h hl, changePurging_claims, Tab.get_set_same, commit_keeps_locks]; rfl
    | false => rw [addCause_stayed_get h hl]

theorem removeCause_set (cause : LockCause) (s : State) (c : Slot) :
    ((removeCause cause s c).claims.get c).locks = (s.claims.get c).locks.put cause false := by
  cases h : (s.claims.get c).locks.has cause with
  | true => rw [removeCause_get h]; exact unlocked_locks _
  | false => rw [removeCause_absent h, put_self h]

/-- Does the cause take the slot's claim to LOCKED, with a purge (R70)? -/
def newlyLocked (cause : LockCause) (s : State) (c : Slot) : Bool :=
  lockable (s.claims.get c).state && !(s.claims.get c).locks.has cause

theorem addCause_records (cause : LockCause) (s : State) (c : Slot) :
    (addCause cause s c).stack.records =
      s.stack.records.filter fun r => !(decide (r.slot = c) && newlyLocked cause s c) := by
  cases h : (s.claims.get c).locks.has cause with
  | true => simp [addCause_present h, newlyLocked, h]
  | false =>
    cases hl : lockable (s.claims.get c).state with
    | true => simp [addCause_locks h hl, newlyLocked, h, hl, dropRecords]
    | false => simp [addCause_stays h hl, newlyLocked, h, hl]

/-- The records that leave are those of the slots that a cause newly locks. -/
theorem addCauses_records (hd : slots.Nodup) (s : State) :
    (slots.foldl (addCause cause) s).stack.records =
      s.stack.records.filter fun r => !(decide (r.slot ∈ slots) && newlyLocked cause s r.slot) := by
  induction slots generalizing s with
  | nil => simp
  | cons c slots ih =>
    obtain ⟨hc, hslots⟩ := List.nodup_cons.mp hd
    have hother (d : Slot) (h : d ≠ c) : newlyLocked cause (addCause cause s c) d = newlyLocked cause s d := by
      rw [newlyLocked, (addCause_frame cause s c).1 d h, newlyLocked]
    rw [List.foldl_cons, ih hslots, addCause_records, List.filter_filter]
    refine List.filter_congr fun r _ => ?_
    by_cases hr : r.slot = c
    · simp [hr, hc]
    · simp [hr, hother _ hr]

theorem addCauses_get (hd : slots.Nodup) (s : State) (c : Slot) :
    (slots.foldl (addCause cause) s).claims.get c =
      if c ∈ slots then (addCause cause s c).claims.get c else s.claims.get c := by
  have h := congrArg Prod.fst (slotView_addCauses (cause := cause) hd s c)
  rwa [apply_ite Prod.fst] at h

theorem removeCauses_get (hd : slots.Nodup) (s : State) (c : Slot) :
    (slots.foldl (removeCause cause) s).claims.get c =
      if c ∈ slots then (removeCause cause s c).claims.get c else s.claims.get c := by
  have h := congrArg Prod.fst (slotView_removeCauses (cause := cause) hd s c)
  rwa [apply_ite Prod.fst] at h

/-- A cause is added by what the claims and the stack hold, whatever else the state does. -/
theorem addCause_get_congr (hc : s.claims = t.claims) (hk : s.stack = t.stack) (c : Slot) :
    (addCause cause s c).claims.get c = (addCause cause t c).claims.get c :=
  congrArg Prod.fst (slotView_addCause_congr (s := s) (t := t) (by rw [slotView, slotView, slotRecords, slotRecords, hc, hk]))

theorem removeCause_get_congr (hc : s.claims = t.claims) (hk : s.stack = t.stack) (c : Slot) :
    (removeCause cause s c).claims.get c = (removeCause cause t c).claims.get c :=
  congrArg Prod.fst (slotView_removeCause_congr (s := s) (t := t) (by rw [slotView, slotView, slotRecords, slotRecords, hc, hk]))

/-- A claim that loses a cause draws no gas by it. -/
theorem draws_unlocked (cl : Claim) : draws (unlocked cl) = draws cl := by
  unfold unlocked
  split
  · next h =>
    have hst : cl.state = .locked := by
      simp only [Bool.and_eq_true, decide_eq_true_eq] at h
      exact h.1
    split <;> simp [draws, toIdle, hst]
  · rfl

theorem draws_removeCause (cause : LockCause) (s : State) (c : Slot) :
    draws ((removeCause cause s c).claims.get c) = draws (s.claims.get c) := by
  cases h : (s.claims.get c).locks.has cause with
  | true => rw [removeCause_present h, changeClaim_get_same, draws_commit, draws_unlocked]; rfl
  | false => rw [removeCause_absent h]

end Causes

/-! ## What the meter stage makes of a change of several claims (R5, R7) -/

section Followed

variable {s t u : State}

/-- Flow expectation reads the line-in-use flags, which claims draw gas, and the flare's state. -/
theorem flowExpected_of_draws (hi : t.config.inUse = s.config.inUse)
    (hd : ∀ c, draws (t.claims.get c) = draws (s.claims.get c)) (hf : t.flare.state = s.flare.state) (m : Meter) :
    flowExpected t m = flowExpected s m := by
  by_cases hm : ∃ c, m = slotMeter c
  · obtain ⟨c, rfl⟩ := hm
    rw [flowExpected_slotMeter, flowExpected_slotMeter, hd]
  · unfold flowExpected
    split
    · rw [hi]
    · split
      · next h6 h11 => exact absurd ⟨⟨m.val - 6, by omega⟩, Fin.ext (by simp [slotMeter]; omega)⟩ hm
      · rw [hf]

/-- A meter of a line or of the flare does not follow the claims. -/
theorem flowExpected_not_consumer (hi : t.config.inUse = s.config.inUse) (hf : t.flare.state = s.flare.state) {m : Meter}
    (hm : m.val < 6 ∨ m = flareMeter) : flowExpected t m = flowExpected s m := by
  obtain hm | rfl := hm
  · simp [flowExpected, hm, hi]
  · simp [flowExpected, flareMeter, hf]

/-- A change of claims and of alert records that are no METER_STALL is followed at the consumer meters alone. -/
theorem followFlow_consumers {as : List Alert} (hu : TouchesOnly [.contacts, .claims, .stack, .alerts, .policy] s u)
    (ha : AlertsSameBut as s u) (has : ∀ m, Alert.meterStall m ∉ as) :
    FlowFollowed s (followFlow s u) ∧
      (∀ m : Meter, m.val < 6 ∨ m = flareMeter → (followFlow s u).meters.get m = s.meters.get m) ∧
      AlertsSameBut (as ++ consumerStalls) s (followFlow s u) := by
  have hm : u.meters = s.meters := hu.same .meters rfl
  have hi : u.config.inUse = s.config.inUse := congrArg (·.inUse) (show u.config = s.config from hu.same .config rfl)
  have hf : u.flare.state = s.flare.state := congrArg (·.state) (show u.flare = s.flare from hu.same .flare rfl)
  refine ⟨followFlow_flowFollowed hm fun m => alertState_of_sameBut ha (has m), fun m h => ?_, fun n hn => ?_⟩
  · rw [followFlow_meter (flowExpected_not_consumer hi hf h), hm]
  · rw [List.map_append, List.mem_append, not_or] at hn
    refine (followFlow_alert fun m hm => ?_).trans (ha n hn.1)
    by_cases hc : m.val < 6 ∨ m = flareMeter
    · exact flowExpected_not_consumer hi hf hc
    · refine absurd (List.mem_map.mpr ⟨.meterStall m, ?_, hm.symm⟩) hn.2
      have hslot : ∀ m : Meter, ¬(m.val < 6 ∨ m = flareMeter) → ∃ c ∈ allSlots, slotMeter c = m := by decide
      obtain ⟨c, hmem, rfl⟩ := hslot m hc
      exact List.mem_map.mpr ⟨c, hmem, rfl⟩

/-- What the meter stage has made of a change is not the answer's. -/
theorem FlowFollowed.of_touches (h : FlowFollowed s t) (hu : TouchesOnly [.ports] t u) : FlowFollowed s u := by
  intro m
  have hm : u.meters = t.meters := hu.same .meters rfl
  have ha : alertState (.meterStall m) u = alertState (.meterStall m) t :=
    congrArg (·.get (alertNumber (.meterStall m))) (show u.alerts = t.alerts from hu.same .alerts rfl)
  have hf : flowExpected u m = flowExpected t m :=
    flowExpected_congr (congrArg (·.inUse) (show u.config = t.config from hu.same .config rfl)) (hu.same .claims rfl)
      (congrArg (·.state) (show u.flare = t.flare from hu.same .flare rfl)) m
  rw [AlertEnded, hm, ha, hf]
  exact h m

end Followed

end Sys2Proof.Machine
end

section
/-! The sour condition (R28, R29), the contacts' receivers (R15, R16, R22, R54) and the supervisor's requests on claims
(R72, R76). -/

namespace Sys2Proof.Machine

open Sys2Proof

/-! ## The plant causes over their slots (R69) -/

section Plant

variable {cause : LockCause} {s u : State} {c : Slot}

/-- Every slot of the cause carries it, and stands as the cause alone leaves it. -/
theorem lockAll_get (hc : c ∈ causeSlots cause) (s : State) :
    ((lockAll cause s).claims.get c).locks.has cause = true ∧
      (lockAll cause s).claims.get c = (addCause cause s c).claims.get c := by
  rw [lockAll, addCauses_get (causeSlots_nodup cause), if_pos hc, addCause_set]
  exact ⟨Locks.has_put_same _ _ _, rfl⟩

theorem lockAll_ne (hc : c ∉ causeSlots cause) (s : State) : (lockAll cause s).claims.get c = s.claims.get c := by
  rw [lockAll, addCauses_get (causeSlots_nodup cause), if_neg hc]

theorem unlockAll_get (hc : c ∈ causeSlots cause) (s : State) :
    ((unlockAll cause s).claims.get c).locks.has cause = false ∧
      (unlockAll cause s).claims.get c = (removeCause cause s c).claims.get c := by
  rw [unlockAll, removeCauses_get (causeSlots_nodup cause), if_pos hc, removeCause_set]
  exact ⟨Locks.has_put_same _ _ _, rfl⟩

theorem unlockAll_ne (hc : c ∉ causeSlots cause) (s : State) : (unlockAll cause s).claims.get c = s.claims.get c := by
  rw [unlockAll, removeCauses_get (causeSlots_nodup cause), if_neg hc]

/-- The end of a cause stops no gas: no claim runs by a lock. -/
theorem draws_unlockAll (cause : LockCause) (s : State) (c : Slot) :
    draws ((unlockAll cause s).claims.get c) = draws (s.claims.get c) := by
  by_cases hc : c ∈ causeSlots cause
  · rw [(unlockAll_get hc s).2, draws_removeCause]
  · rw [unlockAll_ne hc]

end Plant

/-- An onset reported to the register and to the policy banks. -/
theorem raised_signalled {s v : State} (ha : v.alerts = s.alerts) (hp : v.policy = s.policy) (hc : v.config = s.config)
    (a : Alert) (x : Source) :
    alertState a (signal x (raise a v)) = .active ∧ AlertsSameBut [a] s (signal x (raise a v)) ∧
      (signal x (raise a v)).policy = { s.policy with
        switch := fireBindings s.config.bindings s.policy.active x s.policy.switch } := by
  refine ⟨alertState_raise _ _, alertsSameBut_of_alerts ha (raise_same_but _ _), ?_⟩
  rw [signal_policy, raise_policy, raise_config, hp, hc]

/-! ## The sour condition (R28, R29) -/

section Sour

variable {s : State} {h2s : Nat}

/-- The quality unit with the counts of the sour condition written. -/
def sourCounted (high low : Nat) (s : State) : State := { s with quality := { s.quality with high, low } }

/-- The quality unit with the sour condition moved. -/
def soured (sour : Bool) (high low : Nat) (s : State) : State :=
  { s with quality := { s.quality with sour, high, low } }

theorem evaluateSour_rises (hs : s.quality.sour = false) (h : s.config.sourLimit < h2s)
    (hp : s.quality.high + 1 < s.config.sourPersistence) :
    evaluateSour h2s s = sourCounted (s.quality.high + 1) 0 s := by
  simp [evaluateSour, hs, h, Nat.not_le.mpr hp, sourCounted]

theorem evaluateSour_onset (hs : s.quality.sour = false) (h : s.config.sourLimit < h2s)
    (hp : s.config.sourPersistence ≤ s.quality.high + 1) :
    evaluateSour h2s s = signal .sour (raise .sourGas (lockAll .sour (soured true 0 0 s))) := by
  simp only [evaluateSour, hs, h, hp, if_true, Bool.false_eq_true, if_false, soured]

theorem evaluateSour_clear (hs : s.quality.sour = false) (h : h2s ≤ s.config.sourLimit) :
    evaluateSour h2s s = sourCounted 0 0 s := by
  simp [evaluateSour, hs, Nat.not_lt.mpr h, sourCounted]

theorem evaluateSour_falls (hs : s.quality.sour = true) (h : h2s < sourEndLevel s.config)
    (hp : s.quality.low + 1 < s.config.sourPersistence) :
    evaluateSour h2s s = sourCounted 0 (s.quality.low + 1) s := by
  simp [evaluateSour, hs, h, Nat.not_le.mpr hp, sourCounted]

theorem evaluateSour_end (hs : s.quality.sour = true) (h : h2s < sourEndLevel s.config)
    (hp : s.config.sourPersistence ≤ s.quality.low + 1) :
    evaluateSour h2s s = lower .sourGas (unlockAll .sour (soured false 0 0 s)) := by
  simp only [evaluateSour, hs, h, hp, if_true, soured]

theorem evaluateSour_stays (hs : s.quality.sour = true) (h : sourEndLevel s.config ≤ h2s) :
    evaluateSour h2s s = sourCounted 0 0 s := by
  simp [evaluateSour, hs, Nat.not_lt.mpr h, sourCounted]

theorem frame_of_sour {t : State} (h : TouchesOnly sourBlocks s t) :
    { t with quality := s.quality, claims := s.claims, stack := s.stack, alerts := s.alerts, policy := s.policy } = s := by
  have hr := h.restored
  simp only [sourBlocks, restore, List.foldr, Block.copy] at hr
  exact hr

theorem frame_of_sourEnd {t : State} (h : TouchesOnly [.quality, .claims, .alerts] s t) :
    { t with quality := s.quality, claims := s.claims, alerts := s.alerts } = s := by
  have hr := h.restored
  simp only [restore, List.foldr, Block.copy] at hr
  exact hr

theorem touches_soured (sour : Bool) (high low : Nat) (s : State) : TouchesOnly [.quality] s (soured sour high low s) :=
  .of_restore rfl

theorem mem_sourSlots {c : Slot} (h : c.val < 4) : c ∈ causeSlots .sour := by
  revert h
  revert c
  decide

/-- What locking the slots of the sour condition leaves. -/
theorem sourLocked_get (s : State) (high low : Nat) :
    (∀ c : Slot, c.val < 4 → ((lockAll .sour (soured true high low s)).claims.get c).locks.sour = true ∧
      (lockAll .sour (soured true high low s)).claims.get c = (addCause .sour s c).claims.get c) ∧
    (lockAll .sour (soured true high low s)).claims.get 4 = s.claims.get 4 := by
  refine ⟨fun c hc => ?_, lockAll_ne (by decide) _⟩
  obtain ⟨hhas, hget⟩ := lockAll_get (mem_sourSlots hc) (soured true high low s)
  exact ⟨hhas, hget.trans (addCause_get_congr (s := soured true high low s) (t := s) rfl rfl c)⟩

theorem sourUnlocked_get (s : State) (high low : Nat) :
    (∀ c : Slot, c.val < 4 → ((unlockAll .sour (soured false high low s)).claims.get c).locks.sour = false ∧
      (unlockAll .sour (soured false high low s)).claims.get c = (removeCause .sour s c).claims.get c) ∧
    (unlockAll .sour (soured false high low s)).claims.get 4 = s.claims.get 4 := by
  refine ⟨fun c hc => ?_, unlockAll_ne (by decide) _⟩
  obtain ⟨hhas, hget⟩ := unlockAll_get (mem_sourSlots hc) (soured false high low s)
  exact ⟨hhas, hget.trans (removeCause_get_congr (s := soured false high low s) (t := s) rfl rfl c)⟩

end Sour

/-- Settles O24: the two counts decide, and the condition's onset and end act on C1 to C4. -/
theorem sourConditionNeedsItsPersistence : Obligations.SourConditionNeedsItsPersistence := by
  intro h2s s t endLevel
  have hlevel : sourEndLevel s.config = endLevel := rfl
  refine ⟨fun hs h => ⟨evaluateSour_rises hs h, fun hp => ?onset⟩, evaluateSour_clear,
    fun hs h => ⟨evaluateSour_falls hs (hlevel ▸ h), fun hp => ?ends⟩, fun hs h => evaluateSour_stays hs (hlevel ▸ h)⟩
  case onset =>
    have ht : t = signal .sour (raise .sourGas (lockAll .sour (soured true 0 0 s))) := evaluateSour_onset hs h hp
    have hframe := frame_of_sour (touches_evaluateSour s h2s)
    obtain ⟨hlocked, hother⟩ := sourLocked_get s 0 0
    have htouch : TouchesOnly [.claims, .stack] (soured true 0 0 s) _ := touches_lockAll _ .sour
    generalize lockAll .sour (soured true 0 0 s) = v at ht hlocked hother htouch
    have halerts : v.alerts = s.alerts := htouch.same .alerts rfl
    have hpolicy : v.policy = s.policy := htouch.same .policy rfl
    have hconfig : v.config = s.config := htouch.same .config rfl
    have hquality : v.quality = { s.quality with sour := true, high := 0, low := 0 } := htouch.same .quality rfl
    obtain ⟨hactive, hsame, hsignal⟩ := raised_signalled halerts hpolicy hconfig .sourGas .sour
    rw [← ht] at hactive hsame hsignal
    exact ⟨ht ▸ hquality, hactive, hsame, ht ▸ hlocked, ht ▸ hother, hsignal, hframe⟩
  case ends =>
    have ht : t = lower .sourGas (unlockAll .sour (soured false 0 0 s)) := evaluateSour_end hs (hlevel ▸ h) hp
    obtain ⟨hunlocked, hother⟩ := sourUnlocked_get s 0 0
    have htouch : TouchesOnly [.claims] (soured false 0 0 s) _ := touches_unlockAll _ .sour
    generalize unlockAll .sour (soured false 0 0 s) = v at ht hunlocked hother htouch
    have halerts : v.alerts = s.alerts := htouch.same .alerts rfl
    have hquality : v.quality = { s.quality with sour := false, high := 0, low := 0 } := htouch.same .quality rfl
    have hframe := frame_of_sourEnd (((touches_soured false 0 0 s).andThen htouch).andThen (touches_lower v .sourGas))
    rw [ht]
    exact ⟨hquality, alertEnded_of_alerts halerts (alertEnded_lower _ _),
      alertsSameBut_of_alerts halerts (lower_same_but _ _), hunlocked, hother, hframe⟩

end Sys2Proof.Machine
end

section
/-! A debounced contact and its receivers (R15, R16, R22, R54, R69, R150). -/

namespace Sys2Proof.Machine

open Sys2Proof

/-! ## The receivers of the contacts -/

section Receivers

variable {cause : LockCause} {s v w : State} {as : List Alert}

/-- K2 and K4 close: the cause's slots are locked and the meters follow (R69, R70). -/
theorem causeAdded_lockAll (hv : TouchesOnly [.contacts] s v) (hw : TouchesOnly [.alerts, .policy] (lockAll cause v) w)
    (ha : AlertsSameBut as s w) (has : ∀ m, Alert.meterStall m ∉ as) :
    causeAdded cause (causeSlots cause) s (followFlow s w) ∧ AlertsSameBut (as ++ consumerStalls) s (followFlow s w) := by
  have hsw : TouchesOnly [.contacts, .claims, .stack, .alerts, .policy] s w :=
    ((hv.andThen (touches_lockAll v cause)).andThen hw).weaken rfl
  have hclaims : w.claims = (lockAll cause v).claims := hw.same .claims rfl
  have hstack : w.stack = (lockAll cause v).stack := hw.same .stack rfl
  have hvc : v.claims = s.claims := hv.same .claims rfl
  have hvk : v.stack = s.stack := hv.same .stack rfl
  obtain ⟨hflow, -, halerts⟩ := followFlow_consumers hsw ha has
  refine ⟨⟨fun c hc => ?_, fun c hc => ?_, ?_, hflow⟩, halerts⟩
  · obtain ⟨hhas, hget⟩ := lockAll_get hc v
    rw [followFlow_claims, hclaims]
    exact ⟨hhas, hget.trans (addCause_get_congr hvc hvk c)⟩
  · rw [followFlow_claims, hclaims, lockAll_ne hc, hvc]
  · rw [followFlow_stack, hstack, lockAll, addCauses_records (causeSlots_nodup cause), hvk]
    simp only [newlyLocked, hvc, Bool.and_assoc]

/-- K2 and K4 open: the cause leaves its slots, and no meter's flow expectation moves (R69, R71). -/
theorem causeRemoved_unlockAll (hv : TouchesOnly [.contacts] s v) (hw : TouchesOnly [.alerts] (unlockAll cause v) w) :
    followFlow s w = w ∧ causeRemoved cause (causeSlots cause) s w := by
  have hsw : TouchesOnly [.contacts, .claims, .alerts] s w :=
    ((hv.andThen (touches_unlockAll v cause)).andThen hw).weaken rfl
  have hclaims : w.claims = (unlockAll cause v).claims := hw.same .claims rfl
  have hvc : v.claims = s.claims := hv.same .claims rfl
  have hvk : v.stack = s.stack := hv.same .stack rfl
  have hi : w.config.inUse = s.config.inUse := congrArg (·.inUse) (show w.config = s.config from hsw.same .config rfl)
  have hf : w.flare.state = s.flare.state := congrArg (·.state) (show w.flare = s.flare from hsw.same .flare rfl)
  refine ⟨followFlow_same (flowExpected_of_draws hi (fun c => ?_) hf), fun c hc => ?_, fun c hc => ?_, hsw.same .stack rfl,
    hsw.same .meters rfl⟩
  · rw [hclaims, draws_unlockAll, hvc]
  · obtain ⟨hhas, hget⟩ := unlockAll_get hc v
    rw [hclaims]
    exact ⟨hhas, hget.trans (removeCause_get_congr hvc hvk c)⟩
  · rw [hclaims, unlockAll_ne hc, hvc]

/-- An alert record that follows a condition. -/
theorem alertFollows_of_follow {a : Alert} {before now : Bool} {t : State}
    (h : t.alerts = alertFollow a before now s.alerts) : AlertFollows a before now s t ∧ AlertsSameBut [a] s t := by
  cases before <;> cases now
  · have h : t.alerts = s.alerts := h
    exact ⟨⟨fun _ => congrArg (·.get (alertNumber a)) h, nofun, nofun⟩, fun n _ => congrArg (·.get n) h⟩
  · have h : t.alerts = (raise a s).alerts := h
    refine ⟨⟨nofun, fun _ _ => ?_, nofun⟩, fun n hn => (congrArg (·.get n) h).trans (raise_same_but a s n hn)⟩
    exact (congrArg (·.get (alertNumber a)) h).trans (alertState_raise a s)
  · have h : t.alerts = (lower a s).alerts := h
    refine ⟨⟨nofun, nofun, fun _ _ => ?_⟩, fun n hn => (congrArg (·.get n) h).trans (lower_same_but a s n hn)⟩
    exact (congrArg (·.get (alertNumber a)) h).trans (alertEnded_lower a s)
  · have h : t.alerts = s.alerts := h
    exact ⟨⟨fun _ => congrArg (·.get (alertNumber a)) h, nofun, nofun⟩, fun n _ => congrArg (·.get n) h⟩

theorem markHeld_acts (s : State) :
    (markHeld s).quality = { s.quality with source := .held, hold := some 0 } ∧
      alertState .qualityHeld (markHeld s) = .active ∧ AlertsSameBut [.qualityHeld] s (markHeld s) ∧
      (markHeld s).policy = s.policy ∧ (markHeld s).config = s.config :=
  ⟨rfl, alertState_raise _ _, raise_same_but .qualityHeld s, rfl, rfl⟩

/-- What an end of K1 makes of a LIVE monitor (R21 to R24). -/
theorem enterHeld_leaves (s : State) :
    qualityLeftLive s (enterHeld s) ∧ AlertsSameBut [.qualityHeld, .qualitySubstituted] s (enterHeld s) := by
  obtain ⟨hquality, hactive, hsame, hpolicy, hconfig⟩ := markHeld_acts s
  by_cases h : s.config.qualityHold = 0
  · obtain ⟨hsubsame, hsub, hended⟩ := enterSubstituted_alerts (markHeld s)
    have henter : enterHeld s = enterSubstituted (markHeld s) := (enterHeld_eq s).trans (if_pos h)
    rw [henter]
    refine ⟨⟨fun hne => absurd h hne, fun _ => ⟨?_, ?_, hsub, ?_⟩⟩, fun n hn => ?_⟩
    · rfl
    · rw [hended, hactive]
      rfl
    · rfl
    · simp only [List.map_cons, List.map_nil, List.mem_cons, List.not_mem_nil, or_false, not_or] at hn
      rw [hsubsame n (by simp [hn.1, hn.2]), hsame n (by simp [hn.1])]
  · have henter : enterHeld s = markHeld s := (enterHeld_eq s).trans (if_neg h)
    rw [henter]
    refine ⟨⟨fun _ => ⟨hquality, hactive, alertState_of_sameBut hsame (by simp), hpolicy⟩, fun e => absurd e h⟩,
      fun n hn => hsame n ?_⟩
    simp only [List.map_cons, List.map_nil, List.mem_cons, List.not_mem_nil, or_false, not_or] at hn ⊢
    exact hn.1

end Receivers

/-! ## The debounce timer's expiry (R15) -/

section Debounce

variable {k : Contact} {s : State}

theorem debounce_early (h : ¬HasRun (s.contacts.get k).timer 200) : debounce k s = s :=
  if_neg (mt (debounceOver_iff k s).mp h)

/-- What an expiry at 200 ms does, by the raw and the debounced state. -/
theorem debounce_stays (h : HasRun (s.contacts.get k).timer 200)
    (hraw : (s.contacts.get k).raw = (s.contacts.get k).debounced) : debounce k s = settled k s := by
  rw [debounce, if_pos ((debounceOver_iff k s).mpr h), hraw]
  cases (s.contacts.get k).debounced <;> rfl

theorem debounce_onset (h : HasRun (s.contacts.get k).timer 200) (hraw : (s.contacts.get k).raw = true)
    (hold : (s.contacts.get k).debounced = false) : debounce k s = contactOnset k (settled k s) := by
  rw [debounce, if_pos ((debounceOver_iff k s).mpr h), hraw, hold]
  rfl

theorem debounce_end (h : HasRun (s.contacts.get k).timer 200) (hraw : (s.contacts.get k).raw = false)
    (hold : (s.contacts.get k).debounced = true) : debounce k s = contactEnd k (settled k s) := by
  rw [debounce, if_pos ((debounceOver_iff k s).mpr h), hraw, hold]
  rfl

/-- The blocks that a debounced contact and its receivers move. -/
def receiverBlocks (k : Contact) : List Block :=
  if k = conK1 then [.contacts, .quality, .alerts, .policy]
  else if k = conK3 then [.contacts, .holder, .alerts, .policy]
  else [.contacts, .claims, .stack, .meters, .alerts, .policy]

theorem contact_cases (k : Contact) : k = conK1 ∨ k = conK2 ∨ k = conK3 ∨ k = conK4 := by
  revert k
  decide

/-- K1 and K3 move no flow expectation. -/
theorem unfollowed {u : State} (h : TouchesOnly [.contacts, .quality, .holder, .alerts, .policy] s u) : followFlow s u = u :=
  followFlow_same (flowExpected_congr (congrArg (·.inUse) (show u.config = s.config from h.same .config rfl))
    (h.same .claims rfl) (congrArg (·.state) (show u.flare = s.flare from h.same .flare rfl)))

theorem contactOnset_K1 (s : State) : contactOnset conK1 s = s := rfl
theorem contactOnset_K2 (s : State) :
    contactOnset conK2 s = signal .k2 (raise .gasRoom (lockAll .gasRoom s)) := rfl
theorem contactOnset_K3 (s : State) : contactOnset conK3 s = signal .k3 (followOverfill s) := rfl
theorem contactOnset_K4 (s : State) :
    contactOnset conK4 s = signal .k4 (raise .estop (lockAll .estop s)) := rfl
theorem contactEnd_K1 (s : State) : contactEnd conK1 s = if s.quality.source = .live then enterHeld s else s := rfl
theorem contactEnd_K2 (s : State) : contactEnd conK2 s = lower .gasRoom (unlockAll .gasRoom s) := rfl
theorem contactEnd_K3 (s : State) : contactEnd conK3 s = followOverfill s := rfl
theorem contactEnd_K4 (s : State) : contactEnd conK4 s = lower .estop (unlockAll .estop s) := rfl

theorem touches_signalled (cause : LockCause) (a : Alert) (x : Source) (v : State) :
    TouchesOnly [.alerts, .policy] (lockAll cause v) (signal x (raise a (lockAll cause v))) :=
  (touches_raise _ a).andThen (touches_signal _ x)

theorem touches_debounce_K1 (s : State) :
    TouchesOnly [.contacts, .quality, .alerts, .policy] s (debounce conK1 s) := by
  have hk := touches_settled conK1 s
  refine debounce_keeps (.refl _ _) (hk.weaken rfl) (hk.weaken rfl) ?_
  rw [contactEnd_K1]
  exact .ite (fun _ => hk.andThen (touches_enterHeld _)) fun _ => hk.weaken rfl

theorem touches_debounce_K3 (s : State) :
    TouchesOnly [.contacts, .holder, .alerts, .policy] s (debounce conK3 s) := by
  have hk := (touches_settled conK3 s)
  refine debounce_keeps (.refl _ _) (hk.weaken rfl) ?_ ((hk.andThen (touches_followOverfill _)).weaken rfl)
  exact (hk.andThen (touches_followOverfill _)).andThen (touches_signal _ .k3)

theorem touches_debounce_lock (hk : k = conK2 ∨ k = conK4) :
    TouchesOnly [.contacts, .claims, .stack, .alerts, .policy] s (debounce k s) := by
  have hset := touches_settled k s
  obtain rfl | rfl := hk
  · exact debounce_keeps (.refl _ _) (hset.weaken rfl)
      ((hset.andThen (touches_lockAll _ .gasRoom)).andThen (touches_signalled .gasRoom .gasRoom .k2 _))
      (((hset.andThen (touches_unlockAll _ .gasRoom)).andThen (touches_lower _ .gasRoom)).weaken rfl)
  · exact debounce_keeps (.refl _ _) (hset.weaken rfl)
      ((hset.andThen (touches_lockAll _ .estop)).andThen (touches_signalled .estop .estop .k4 _))
      (((hset.andThen (touches_unlockAll _ .estop)).andThen (touches_lower _ .estop)).weaken rfl)

theorem followFlow_debounce_quiet (hk : k = conK1 ∨ k = conK3) : followFlow s (debounce k s) = debounce k s := by
  obtain rfl | rfl := hk
  · exact unfollowed ((touches_debounce_K1 s).weaken rfl)
  · exact unfollowed ((touches_debounce_K3 s).weaken rfl)

theorem touches_expiry (k : Contact) (s : State) :
    TouchesOnly (receiverBlocks k) s (followFlow s (debounce k s)) := by
  obtain rfl | rfl | rfl | rfl := contact_cases k
  · rw [followFlow_debounce_quiet (.inl rfl)]
    exact touches_debounce_K1 s
  · exact ((touches_debounce_lock (.inl rfl)).andThen (touches_followFlow s _)).weaken rfl
  · rw [followFlow_debounce_quiet (.inr rfl)]
    exact touches_debounce_K3 s
  · exact ((touches_debounce_lock (.inr rfl)).andThen (touches_followFlow s _)).weaken rfl

/-- What a contact's receivers leave alone. -/
theorem receivers_frame {t : State} (h : TouchesOnly (receiverBlocks k) s t) :
    (k ≠ conK2 → k ≠ conK4 → t.claims = s.claims ∧ t.stack = s.stack ∧ t.meters = s.meters) ∧
      (k ≠ conK3 → t.holder = s.holder) ∧ (k ≠ conK1 → t.quality = s.quality) ∧
      { t with
        contacts := s.contacts, claims := s.claims, stack := s.stack, meters := s.meters, alerts := s.alerts,
        policy := s.policy, quality := s.quality, holder := s.holder } = s := by
  have hall : receiverBlocks k ⊆ [.contacts, .claims, .stack, .meters, .alerts, .policy, .quality, .holder] := by
    obtain rfl | rfl | rfl | rfl := contact_cases k <;> decide
  have hr := (h.mono hall).restored
  simp only [restore, List.foldr, Block.copy] at hr
  refine ⟨fun h2 h4 => ?_, fun h3 => ?_, fun h1 => ?_, hr⟩
  · obtain rfl | rfl | rfl | rfl := contact_cases k
    · exact ⟨h.same .claims rfl, h.same .stack rfl, h.same .meters rfl⟩
    · exact absurd rfl h2
    · exact ⟨h.same .claims rfl, h.same .stack rfl, h.same .meters rfl⟩
    · exact absurd rfl h4
  · obtain rfl | rfl | rfl | rfl := contact_cases k
    · exact h.same .holder rfl
    · exact h.same .holder rfl
    · exact absurd rfl h3
    · exact h.same .holder rfl
  · obtain rfl | rfl | rfl | rfl := contact_cases k
    · exact absurd rfl h1
    · exact h.same .quality rfl
    · exact h.same .quality rfl
    · exact h.same .quality rfl

theorem expiry_contacts (h : HasRun (s.contacts.get k).timer 200) :
    (followFlow s (debounce k s)).contacts = (settled k s).contacts := by
  rw [followFlow_contacts, debounce, if_pos ((debounceOver_iff k s).mpr h)]
  split_ifs
  · exact (touches_contactOnset _ k).same .contacts rfl
  · exact (touches_contactEnd _ k).same .contacts rfl
  · rfl

theorem settled_frame (k : Contact) (s : State) : { settled k s with contacts := s.contacts } = s := rfl

theorem overfillNow_settled (s : State) :
    overfillNow (settled conK3 s) = ((s.contacts.get conK3).raw || decide (s.holder.band = .fallThrough)) := by
  unfold overfillNow settled
  rw [Tab.get_set_same]

/-- K3 moves the overfill condition and its record (R54). -/
theorem overfill_follows {b : Bool} (h : overfillNow (settled conK3 s) = b) :
    (followOverfill (settled conK3 s)).holder = { s.holder with overfill := b } ∧
      AlertFollows .holderOverfill s.holder.overfill b s (followOverfill (settled conK3 s)) ∧
      AlertsSameBut [.holderOverfill] s (followOverfill (settled conK3 s)) := by
  subst h
  exact ⟨rfl, alertFollows_of_follow rfl⟩

/-- No onset fires where the contact is open. -/
theorem debounce_open_policy (hraw : (s.contacts.get k).raw = false) (hk : k ≠ conK1) :
    (debounce k s).policy = s.policy := by
  have hend : (contactEnd k (settled k s)).policy = s.policy := by
    obtain rfl | rfl | rfl | rfl := contact_cases k
    · exact absurd rfl hk
    · exact ((touches_unlockAll _ .gasRoom).andThen (touches_lower _ .gasRoom)).same .policy rfl
    · exact (touches_followOverfill _).same .policy rfl
    · exact ((touches_unlockAll _ .estop).andThen (touches_lower _ .estop)).same .policy rfl
  unfold debounce
  simp only [hraw, Bool.false_and, Bool.false_eq_true, if_false]
  split_ifs
  · exact hend
  · rfl
  · rfl

end Debounce

/-- An onset of K2 or K4 on its receivers. -/
theorem locks_onset {k : Contact} {s : State} {cause : LockCause} {a : Alert} (x : Source) (ha : ∀ m, a ≠ .meterStall m) :
    let t := followFlow s (signal x (raise a (lockAll cause (settled k s))))
    causeAdded cause (causeSlots cause) s t ∧ alertState a t = .active ∧ AlertsSameBut (a :: consumerStalls) s t ∧
      t.policy = { s.policy with switch := fireBindings s.config.bindings s.policy.active x s.policy.switch } := by
  have htouch := ((touches_settled k s).andThen (touches_lockAll _ cause))
  obtain ⟨hactive, hsame, hpolicy⟩ :=
    raised_signalled (s := s) (htouch.same .alerts rfl) (htouch.same .policy rfl) (htouch.same .config rfl) a x
  obtain ⟨hadded, halerts⟩ := causeAdded_lockAll (touches_settled k s) (touches_signalled cause a x _) hsame
    (by simpa using fun m e => ha m e.symm)
  exact ⟨hadded, (followFlow_alertState ha _ _).trans hactive, halerts, hpolicy⟩

/-- An end of K2 or K4 on its receivers. -/
theorem locks_end {k : Contact} {s : State} {cause : LockCause} {a : Alert} :
    let t := followFlow s (lower a (unlockAll cause (settled k s)))
    causeRemoved cause (causeSlots cause) s t ∧ AlertFollows a true false s t ∧ AlertsSameBut [a] s t := by
  have htouch := ((touches_settled k s).andThen (touches_unlockAll _ cause))
  have halerts : (unlockAll cause (settled k s)).alerts = s.alerts := htouch.same .alerts rfl
  obtain ⟨hflow, hremoved⟩ := causeRemoved_unlockAll (touches_settled k s) (touches_lower _ a) (cause := cause)
  rw [hflow]
  exact ⟨hremoved, alertFollows_of_ended (alertEnded_of_alerts halerts (alertEnded_lower _ _)),
    alertsSameBut_of_alerts halerts (lower_same_but _ _)⟩

/-- Settles O19: the expiry is a stay, an onset or an end, and each contact has its own receivers. -/
theorem debouncedContactReachesReceivers : Obligations.DebouncedContactReachesReceivers := by
  intro k s hs
  have hexec : exec (.debounceExpiry k) s = .next (followFlow s (debounce k s)) := flowEvent_supplied _ hs
  refine ⟨fun h => by rw [hexec, debounce_early h, followFlow_self], fun h => ?_⟩
  intro raw old fired
  obtain ⟨hclaims, hholder, hquality, hframe⟩ := receivers_frame (touches_expiry k s)
  have hcontacts := expiry_contacts h
  refine ⟨_, hexec, ?_, fun j hj => ?_, fun e => ?stays, fun hraw hold => ⟨?on1, ?on2, ?on3, ?on4⟩,
    fun hraw hold => ⟨?off1, ?off1live, ?off2, ?off3, ?off4⟩, hclaims, hholder, hquality, fun hraw hk => ?policy, hframe⟩
  · rw [hcontacts]
    exact Tab.get_set_same _ _ _
  · rw [hcontacts]
    exact Tab.get_set_ne _ _ hj
  case stays =>
    rw [debounce_stays h e, unfollowed ((touches_settled k s).weaken rfl), settled_frame]
  case on1 =>
    rintro rfl
    rw [followFlow_debounce_quiet (.inl rfl), debounce_onset h hraw hold, contactOnset_K1, settled_frame]
  case on2 =>
    rintro rfl
    rw [debounce_onset h hraw hold]
    exact locks_onset .k2 (by simp)
  case on3 =>
    rintro rfl
    obtain ⟨hoverfill, hfollows, hsame⟩ := overfill_follows (s := s) ((overfillNow_settled s).trans (congrArg (· || _) hraw))
    rw [followFlow_debounce_quiet (.inr rfl), debounce_onset h hraw hold, contactOnset_K3]
    exact ⟨hoverfill, hfollows, hsame, rfl⟩
  case on4 =>
    rintro rfl
    rw [debounce_onset h hraw hold]
    exact locks_onset .k4 (by simp)
  case off1 =>
    rintro rfl hlive
    rw [followFlow_debounce_quiet (.inl rfl), debounce_end h hraw hold, contactEnd_K1,
      if_neg (show (settled conK1 s).quality.source ≠ .live from hlive), settled_frame]
  case off1live =>
    rintro rfl hlive
    rw [followFlow_debounce_quiet (.inl rfl), debounce_end h hraw hold, contactEnd_K1,
      if_pos (show (settled conK1 s).quality.source = .live from hlive)]
    exact enterHeld_leaves (settled conK1 s)
  case off2 =>
    rintro rfl
    rw [debounce_end h hraw hold]
    exact locks_end
  case off3 =>
    rintro rfl
    rw [followFlow_debounce_quiet (.inr rfl), debounce_end h hraw hold, contactEnd_K3]
    exact overfill_follows ((overfillNow_settled s).trans (congrArg (· || _) hraw))
  case off4 =>
    rintro rfl
    rw [debounce_end h hraw hold]
    exact locks_end
  case policy => rw [followFlow_policy, debounce_open_policy hraw hk]

end Sys2Proof.Machine
end

section
/-! Requests by what their block leaves, and the supervisor's requests on claims: HOLD_SLOTS, FORCE_VACANT and SET_LIMITS
(R72, R76, R77, R151). -/

namespace Sys2Proof.Machine

open Sys2Proof

/-! ## A request by what its block leaves (R156, R158) -/

section Request

variable {i : Instr} {l : Link} {code : Nat} {serve : State → Served} {s u : State} {st : Status} {figures : List Byte}

/-- A served request leaves what the meter stage has made of its block's state, with an answer on its own port. -/
theorem request_answers (hi : exec i s = request l code serve s) (hs : s.supplied = true)
    (ha : codeAllowed l code = true) (hv : serve s = { state := u, status := st, figures }) (hu : u.ports = s.ports) :
    ∃ t, exec i s = .next t ∧ answerStatus l t = some st ∧ PortsSameBut l s t ∧ TouchesOnly [.ports] (followFlow s u) t := by
  refine ⟨respond l code st figures (followFlow s u), ?_, answerStatus_respond .., portsSameBut_answered ?_ _ _ _,
    touches_respond _ _ _ _ _⟩
  · rw [hi, request_served serve hs ha, hv]
  · rw [followFlow_ports, hu]

/-- Where no flow expectation moves, the meter stage has nothing to follow. -/
theorem request_answers_unfollowed (hi : exec i s = request l code serve s) (hs : s.supplied = true)
    (ha : codeAllowed l code = true) (hv : serve s = { state := u, status := st, figures }) (hu : u.ports = s.ports)
    (hflow : ∀ m, flowExpected u m = flowExpected s m) :
    ∃ t, exec i s = .next t ∧ answerStatus l t = some st ∧ PortsSameBut l s t ∧ TouchesOnly [.ports] u t := by
  obtain ⟨t, ht, hst, hp, htouch⟩ := request_answers hi hs ha hv hu
  rw [followFlow_same hflow] at htouch
  exact ⟨t, ht, hst, hp, htouch⟩

end Request

/-! ## Slot masks (R72, R151) -/

theorem maskNames_eq (mask : Nat) (c : Slot) : maskNames mask c = mask.testBit c.val := by
  rw [maskNames, Nat.testBit_eq_decide_div_mod_eq]

theorem mem_maskSlots {mask : Nat} {c : Slot} : c ∈ maskSlots mask ↔ mask.testBit c.val = true := by
  rw [maskSlots, List.mem_filter, maskNames_eq]
  exact and_iff_right (mem_allSlots c)

theorem maskValid_iff {mask : Nat} : maskValid mask = true ↔ 0 < mask ∧ mask < 32 := by simp [maskValid]

theorem maskValid_false {mask : Nat} (h : mask = 0 ∨ 32 ≤ mask) : maskValid mask = false := by
  simp [maskValid]
  omega

/-! ## HOLD_SLOTS (R72) -/

section Hold

variable {s : State} {mask : Nat} {on : Bool}

/-- The supervisor's cause added to a slot, or removed from it. -/
def holdSlot (on : Bool) : State → Slot → State :=
  if on then addCause .heldBySupervisor else removeCause .heldBySupervisor

theorem serveHoldSlots_valid (h : 0 < mask) (h' : mask < 32) :
    serveHoldSlots mask on s = { state := (maskSlots mask).foldl (holdSlot on) s, status := .done } :=
  if_pos (maskValid_iff.mpr ⟨h, h'⟩)

theorem touches_holdSlots (mask : Nat) (on : Bool) (s : State) :
    TouchesOnly [.claims, .stack] s ((maskSlots mask).foldl (holdSlot on) s) := by
  cases on with
  | true => exact .foldl (fun s c => touches_addCause s .heldBySupervisor c) _ _
  | false => exact .foldl (fun s c => (touches_removeCause s .heldBySupervisor c).weaken rfl) _ _

/-- Each named slot shows what the cause alone does to it, every other what it was. -/
theorem slotView_holdSlots (mask : Nat) (on : Bool) (s : State) (c : Slot) :
    slotView c ((maskSlots mask).foldl (holdSlot on) s) =
      if mask.testBit c.val then slotView c (holdSlot on s c) else slotView c s := by
  have hmem : (if mask.testBit c.val then slotView c (holdSlot on s c) else slotView c s) =
      if c ∈ maskSlots mask then slotView c (holdSlot on s c) else slotView c s := if_congr mem_maskSlots.symm rfl rfl
  rw [hmem]
  cases on with
  | true => exact slotView_addCauses (maskSlots_nodup mask) s c
  | false => exact slotView_removeCauses (maskSlots_nodup mask) s c

theorem holdSlot_set (on : Bool) (s : State) (c : Slot) :
    ((holdSlot on s c).claims.get c).locks = (s.claims.get c).locks.put .heldBySupervisor on := by
  cases on with
  | true => exact addCause_set _ s c
  | false => exact removeCause_set _ s c

theorem holdSlot_get (on : Bool) (s : State) (c : Slot) :
    (holdSlot on s c).claims.get c =
      (if on then addCause .heldBySupervisor s c else removeCause .heldBySupervisor s c).claims.get c := by
  cases on <;> rfl

end Hold

/-! ## FORCE_VACANT (R76) -/

section Vacate

variable {s : State} {c : Slot}

/-- A claim made VACANT, its three records ended. -/
def vacated (c : Slot) (s : State) : State :=
  lower (.lapse c) (lower (.trip c) (lower (.startFail c) (changePurging c toVacant s)))

theorem serveForceVacant_vacant (h : (s.claims.get c).state = .vacant) :
    serveForceVacant (c.val + 1) s = { state := s, status := .done } := by
  simp only [serveForceVacant, slotOfByte_val, h, if_true]

theorem serveForceVacant_vacates (h : (s.claims.get c).state ≠ .vacant) :
    serveForceVacant (c.val + 1) s = { state := vacated c s, status := .done } := by
  simp only [serveForceVacant, slotOfByte_val, h, if_false, vacated]

theorem vacated_get (hw : WithheldAccounted s) (h : (s.claims.get c).state ≠ .vacant) :
    (vacated c s).claims.get c =
      { vacantClaim with locks := (s.claims.get c).locks, epoch := wrapSucc 65535 (s.claims.get c).epoch } := by
  have hclaims : (vacated c s).claims = (changePurging c toVacant s).claims := by simp [vacated]
  rw [hclaims, changePurging_claims, Tab.get_set_same, purged_withheld hw]
  exact commit_of_state_ne h

theorem touches_vacated (c : Slot) (s : State) : TouchesOnly [.claims, .stack, .alerts] s (vacated c s) :=
  ((((touches_changePurging s c toVacant).andThen (touches_lower _ (.startFail c))).andThen
    (touches_lower _ (.trip c))).andThen (touches_lower _ (.lapse c))).weaken rfl

/-- Three records ended one after the other: each of them has ended, and no other record has moved. -/
theorem lowers_three {a b d : Alert} (hab : a ≠ b) (had : a ≠ d) (hbd : b ≠ d) (s : State) :
    AlertEnded a s (lower d (lower b (lower a s))) ∧ AlertEnded b s (lower d (lower b (lower a s))) ∧
      AlertEnded d s (lower d (lower b (lower a s))) ∧ AlertsSameBut [a, b, d] s (lower d (lower b (lower a s))) := by
  have hlast : ∀ x, x ≠ d → alertState x (lower d (lower b (lower a s))) = alertState x (lower b (lower a s)) :=
    fun x hx => alertState_of_sameBut (lower_same_but d _) (by simpa using hx)
  have hfirst : alertState d (lower b (lower a s)) = alertState d s :=
    alertState_of_sameBut (lowers_sameBut s a b) (by simp [had.symm, hbd.symm])
  refine ⟨?_, ?_, ?_, fun n hn => ?_⟩
  · exact (hlast a had).trans (alertEnded_lower_inner hab s)
  · exact (hlast b hbd).trans (alertEnded_lower_outer hab.symm s)
  · rw [AlertEnded, ← hfirst]
    exact alertEnded_lower d _
  · simp only [List.map_cons, List.map_nil, List.mem_cons, List.not_mem_nil, or_false, not_or] at hn
    rw [lower_same_but d _ n (by simpa using hn.2.2), lowers_sameBut s a b n (by simp [hn.1, hn.2.1])]

theorem vacated_alerts (c : Slot) (s : State) :
    AlertEnded (.startFail c) s (vacated c s) ∧ AlertEnded (.trip c) s (vacated c s) ∧
      AlertEnded (.lapse c) s (vacated c s) ∧ AlertsSameBut [.startFail c, .trip c, .lapse c] s (vacated c s) := by
  have halerts : (changePurging c toVacant s).alerts = s.alerts := by simp
  obtain ⟨hfail, htrip, hlapse, hsame⟩ :=
    lowers_three (a := .startFail c) (b := .trip c) (d := .lapse c) (by simp) (by simp) (by simp) (changePurging c toVacant s)
  exact ⟨alertEnded_of_alerts halerts hfail, alertEnded_of_alerts halerts htrip, alertEnded_of_alerts halerts hlapse,
    alertsSameBut_of_alerts halerts hsame⟩

end Vacate

/-- What a request leaves of a step on one claim, once the meter stage has followed it. -/
theorem claimFrame_touched {c : Slot} {as : List Alert} {s t u : State} (h : ClaimFrame c as s u)
    (ht : TouchesOnly [.ports] u t) : ClaimFrame c as s t := by
  obtain ⟨hclaims, hmeters, hflow, halerts, hframe⟩ := h
  have hc : t.claims = u.claims := ht.same .claims rfl
  have hm : t.meters = u.meters := ht.same .meters rfl
  have ha : t.alerts = u.alerts := ht.same .alerts rfl
  refine ⟨fun d hd => hc ▸ hclaims d hd, fun m h => hm ▸ hmeters m h, hflow.of_touches ht, fun n hn => ha ▸ halerts n hn, ?_⟩
  have hu : TouchesOnly [.claims, .stack, .meters, .alerts, .ports] s u := .of_restore hframe
  have hr := ((hu.andThen ht).weaken (cs := [.claims, .stack, .meters, .alerts, .ports]) rfl).restored
  simp only [restore, List.foldr, Block.copy] at hr
  exact hr

/-- Settles O34: a slot's own cause acts on each named slot, and FORCE_VACANT is one change with a purge. -/
theorem supervisorHoldsAndForcesVacant : Obligations.SupervisorHoldsAndForcesVacant := by
  refine ⟨fun mask on s hs => ⟨fun h => ?notHeld, fun h h' => ?held⟩, fun slot s hs hw => ⟨fun h => ?noSlot, ?_⟩⟩
  case notHeld =>
    exact answeredUnchanged_served rfl hs rfl (by simp only [serveHoldSlots, maskValid_false h, Bool.false_eq_true, if_false])
  case held =>
    have htouch := touches_holdSlots mask on s
    have hview := slotView_holdSlots mask on s
    obtain ⟨t, ht, hst, hp, htt⟩ := request_answers (i := .holdSlots 0 mask on) rfl hs rfl (serveHoldSlots_valid h h')
      (htouch.same .ports rfl)
    generalize (maskSlots mask).foldl (holdSlot on) s = u at htouch hview htt
    obtain ⟨hflow, hmeters, halerts⟩ := followFlow_consumers (as := []) (htouch.weaken rfl)
      (fun n _ => congrArg (·.get n) (show u.alerts = s.alerts from htouch.same .alerts rfl)) (by simp)
    have hclaims : t.claims = u.claims := htt.same .claims rfl
    have hstack : t.stack = u.stack := htt.same .stack rfl
    have htm : t.meters = (followFlow s u).meters := htt.same .meters rfl
    have hta : t.alerts = (followFlow s u).alerts := htt.same .alerts rfl
    refine ⟨t, ht, hst, hp, fun c hc => ?_, fun c hc => ?_, hflow.of_touches htt, fun m hm => htm ▸ hmeters m hm,
      fun n hn => hta ▸ halerts n hn, ?_⟩
    · have hget : u.claims.get c = (holdSlot on s c).claims.get c :=
        congrArg Prod.fst ((hview c).trans (if_pos hc))
      rw [hclaims, hget]
      exact ⟨holdSlot_set on s c, holdSlot_get on s c⟩
    · have hkept : slotView c u = slotView c s := (hview c).trans (if_neg (by simp [hc]))
      have hget : u.claims.get c = s.claims.get c := congrArg Prod.fst hkept
      have hrecords : slotRecords c u = slotRecords c s := congrArg Prod.snd hkept
      refine ⟨hclaims ▸ hget, ?_, ?_⟩
      · have hexpected : flowExpected u (slotMeter c) = flowExpected s (slotMeter c) := by
          rw [flowExpected_slotMeter, flowExpected_slotMeter, hget]
        have hum : u.meters = s.meters := htouch.same .meters rfl
        rw [htm, followFlow_meter hexpected, hum]
      · rw [hstack]
        exact hrecords
    · have hr := (((htouch.andThen (touches_followFlow s u)).andThen htt).weaken
        (cs := [.claims, .stack, .meters, .alerts, .ports]) rfl).restored
      simp only [restore, List.foldr, Block.copy] at hr
      exact hr
  case noSlot => exact answeredUnchanged_served rfl hs rfl (by simp only [serveForceVacant, slotOfByte_none h])
  case _ =>
    rintro c rfl
    refine ⟨fun h => answeredUnchanged_served rfl hs rfl (serveForceVacant_vacant h), fun h => ?_⟩
    have htouch := touches_vacated c s
    have hget := vacated_get hw h
    obtain ⟨hfail, htrip, hlapse, hsame⟩ := vacated_alerts c s
    have hpurged : PurgedStack c s (vacated c s) := changePurging_purged c toVacant s
    have hclaims : ClaimsSameBut c s (vacated c s) := changePurging_same_but c toVacant s
    obtain ⟨t, ht, hst, hp, htt⟩ := request_answers (i := .forceVacant 0 (c.val + 1)) rfl hs rfl
      (serveForceVacant_vacates h) (htouch.same .ports rfl)
    generalize vacated c s = u at htouch hget hfail htrip hlapse hsame hpurged hclaims htt
    have hrest := (htouch.weaken (cs := [.claims, .stack, .meters, .alerts, .ports]) rfl).restored
    simp only [restore, List.foldr, Block.copy] at hrest
    have hframe := claimFrame_followed hclaims hsame (by simp) (htouch.same .meters rfl) hrest
    have htc : t.claims = u.claims := htt.same .claims rfl
    have htk : t.stack = u.stack := htt.same .stack rfl
    have hta (a : Alert) (ha : ∀ m, a ≠ .meterStall m) : alertState a t = alertState a u :=
      (congrArg (·.get (alertNumber a)) (show t.alerts = _ from htt.same .alerts rfl)).trans (followFlow_alertState ha s u)
    refine ⟨t, ht, hst, hp, htc ▸ hget, ?_, (hta _ (by simp)).trans hfail, (hta _ (by simp)).trans htrip,
      (hta _ (by simp)).trans hlapse, claimFrame_touched hframe htt⟩
    rw [PurgedStack, htk]
    exact hpurged

end Sys2Proof.Machine
end

section
/-! Bank writes, event bindings and SET_LIMITS (R77, R143 to R151). -/

namespace Sys2Proof.Machine

open Sys2Proof

theorem saving_iff (s : State) : s.store.saving ≠ none ↔ isSaving s = true := by
  rw [isSaving, Option.isSome_iff_ne_none]

theorem not_saving {s : State} (h : s.store.saving = none) : isSaving s = false := by simp [isSaving, h]

/-- A change of the configuration beside the line-in-use flags moves no flow expectation. -/
theorem flowExpected_config {s u : State} (hi : u.config.inUse = s.config.inUse) (hc : u.claims = s.claims)
    (hf : u.flare = s.flare) (m : Meter) : flowExpected u m = flowExpected s m :=
  flowExpected_congr hi hc (congrArg Flare.state hf) m

/-! ## A bank write's checks in their order (R143) -/

section Write

variable {i : Instr} {code bank : Nat} {known : Bank → Bool} {write : Bank → Bank × Bool} {s : State} {b : BankNo}

theorem writeBank_busy (h : s.store.saving ≠ none) : writeBank bank known write s = { state := s, status := .busy } :=
  if_pos ((saving_iff s).mp h)

theorem writeBank_noBank (h : s.store.saving = none) (hb : 3 < bank) :
    writeBank bank known write s = { state := s, status := .refusedUnknown } := by
  simp only [writeBank, not_saving h, Bool.false_eq_true, if_false, bankOf_above hb]

theorem writeBank_unknown (h : s.store.saving = none) (hk : known (s.config.banks.get b) = false) :
    writeBank b.val known write s = { state := s, status := .refusedUnknown } := by
  simp [writeBank, not_saving h, hk]

theorem writeBank_active (h : s.store.saving = none) (hk : known (s.config.banks.get b) = true)
    (ha : s.policy.active = b) : writeBank b.val known write s = { state := s, status := .bankActive } := by
  simp [writeBank, not_saving h, hk, ha]

theorem writeBank_pending (h : s.store.saving = none) (hk : known (s.config.banks.get b) = true)
    (ha : s.policy.active ≠ b) (hp : s.policy.switch = some b) :
    writeBank b.val known write s = { state := s, status := .bankPending } := by
  simp [writeBank, not_saving h, hk, ha, hp]

/-- The state with one bank replaced and its change count moved (R148). -/
def bankWritten (b : BankNo) (new : Bank) (s : State) : State :=
  { s with
    config := { s.config with banks := s.config.banks.set b new }
    policy := { s.policy with changes := s.policy.changes.modify b (wrapSucc 255) } }

theorem writeBank_taken (h : s.store.saving = none) (hk : known (s.config.banks.get b) = true)
    (ha : s.policy.active ≠ b) (hp : s.policy.switch ≠ some b) :
    writeBank b.val known write s =
      { state := bankWritten b (write (s.config.banks.get b)).1 s, status := doneOr (write (s.config.banks.get b)).2 } := by
  simp [writeBank, not_saving h, hk, ha, hp, bankWritten]

theorem touches_bankWritten (b : BankNo) (new : Bank) (s : State) :
    TouchesOnly [.config, .policy] s (bankWritten b new s) := .of_restore rfl

theorem frame_of_bankWritten {t : State} (h : TouchesOnly [.config, .policy, .ports] s t) :
    { t with config := s.config, policy := s.policy, ports := s.ports } = s := by
  have hr := h.restored
  simp only [restore, List.foldr, Block.copy] at hr
  exact hr

end Write

/-! ## The row, rank and geometry writes (R145, R146, R147) -/

section Rows

variable {b : Bank} {row other : Nat} {r : RowRecord}

theorem bankRow_setRow_same : bankRow (setRow b row r) row = r := by
  unfold bankRow setRow
  split
  · exact Tab.get_set_same _ _ _
  · rfl

/-- Row 16 is the fall-through row; a row number in use is at most 16. -/
theorem bankRow_setRow_ne (h : other ≠ row) (ho : other ≤ 16) (hr : row ≤ 16) :
    bankRow (setRow b row r) other = bankRow b other := by
  unfold bankRow setRow
  split
  · split
    · exact Tab.get_set_ne _ _ fun e => h (Fin.mk.inj e)
    · rfl
  · split
    · rfl
    · omega

theorem setRow_rest : (setRow b row r).ranks = b.ranks ∧ (setRow b row r).count = b.count ∧
    (setRow b row r).width = b.width ∧ (setRow b row r).hysteresis = b.hysteresis := by
  unfold setRow
  split <;> exact ⟨rfl, rfl, rfl, rfl⟩

theorem clampRow_eq (r : RowRecord) :
    clampRow r =
      { r with
        trim := max (-5000) (min 5000 r.trim), steps := Nat.min 8 r.steps
        admissionMargin := Nat.min 5000 r.admissionMargin, restoreMargin := Nat.min 5000 r.restoreMargin
        shedStep := Nat.max 1 (Nat.min 5000 r.shedStep) } := by
  have hmin (v hi : Nat) : Nat.min v hi = Nat.min hi v := Nat.min_comm v hi
  rw [clampRow, clampInt_eq (by decide), clampNat_zero, clampNat_zero, clampNat_zero, clampNat_eq (by decide),
    hmin r.steps, hmin r.admissionMargin, hmin r.restoreMargin]

theorem clampInt_self {lo hi v : Int} (h : within lo hi v) : clampInt lo hi v = v := by
  obtain ⟨hlo, hhi⟩ := h
  unfold clampInt
  split_ifs <;> omega

/-- A value that counts is clamped to itself exactly within its range. -/
theorem clampInt_toNat_eq {lo hi : Int} (h0 : 0 ≤ lo) (h : lo ≤ hi) (v : Int) :
    ((clampInt lo hi v).toNat : Int) = v ↔ within lo hi v := by
  have hb := clampInt_bounds h v
  refine ⟨fun e => ?_, fun hv => ?_⟩
  · rw [Int.toNat_of_nonneg (h0.trans hb.1)] at e
    exact e ▸ hb
  · rw [clampInt_self hv, Int.toNat_of_nonneg (h0.trans hv.1)]

theorem clampRow_eq_self (r : RowRecord) : clampRow r = r ↔ RowInRange r := by
  refine ⟨fun h => h ▸ rowInRange_clampRow r, fun ⟨htrim, hsteps, hadmission, hrestore, hlo, hhi⟩ => ?_⟩
  rw [clampRow, clampInt_self htrim, clampNat_self (Nat.zero_le _) hsteps,
    clampNat_self (Nat.zero_le _) hadmission, clampNat_self (Nat.zero_le _) hrestore, clampNat_self hlo hhi]

theorem writeGeometry_eq (which : Geometry) (value : Int) (old : Bank) :
    (writeGeometry which value old).1 =
      match which with
      | .count => { old with count := (max 1 (min 16 value)).toNat }
      | .width => { old with width := (max 10 (min 250 value)).toNat
                             hysteresis := Nat.min old.hysteresis ((max 10 (min 250 value)).toNat / 2) }
      | .hysteresis => { old with hysteresis := (max 0 (min ((old.width / 2 : Nat) : Int) value)).toNat } := by
  cases which with
  | count => simp only [writeGeometry, clampInt_eq (show (1 : Int) ≤ 16 by decide)]
  | width => simp only [writeGeometry, clampInt_eq (show (10 : Int) ≤ 250 by decide)]
  | hysteresis => simp only [writeGeometry, clampInt_eq (Int.natCast_nonneg (old.width / 2))]

theorem doneOr_iff {clamped : Bool} {p : Prop} [Decidable p] (h : clamped = false ↔ p) :
    doneOr clamped = if p then .done else .clamped := by
  cases clamped with
  | false => rw [if_pos (h.mp rfl)]; rfl
  | true => rw [if_neg fun hp => by simpa using h.mpr hp]; rfl

theorem writeGeometry_status (which : Geometry) (value : Int) (old : Bank) :
    doneOr (writeGeometry which value old).2 =
      match which with
      | .count => if within 1 16 value then .done else .clamped
      | .width => if within 10 250 value ∧ old.hysteresis ≤ value.toNat / 2 then .done else .clamped
      | .hysteresis => if within 0 ((old.width / 2 : Nat) : Int) value then .done else .clamped := by
  cases which with
  | count => exact (doneOr_ne _ _).trans (if_congr (clampInt_toNat_eq (by decide) (by decide) value) rfl rfl)
  | width =>
    have hw := clampInt_toNat_eq (lo := 10) (hi := 250) (by decide) (by decide) value
    show doneOr (decide (((clampInt 10 250 value).toNat : Int) ≠ value) ||
      decide ((clampInt 10 250 value).toNat / 2 < old.hysteresis)) = _
    refine doneOr_iff ?_
    rw [Bool.or_eq_false_iff, decide_eq_false_iff_not, decide_eq_false_iff_not, ne_eq, not_not, not_lt, hw]
    exact and_congr_right fun hv => by rw [clampInt_self hv]
  | hysteresis =>
    exact (doneOr_ne _ _).trans (if_congr (clampInt_toNat_eq le_rfl (Int.natCast_nonneg _) value) rfl rfl)

end Rows

/-! ## Settling O50 -/

/-- What one of the three bank writes checks and writes. -/
theorem bankWrite_request {i : Instr} {bank : Nat}
    (h : (∃ row rec, i = .writeRow 0 bank row rec) ∨ (∃ slot rank, i = .setRank 0 bank slot rank) ∨
      ∃ which value, i = .configureBandGeometry 0 bank which value) :
    ∃ code known write, exec i = request 0 code (writeBank bank known write) ∧ codeAllowed 0 code = true ∧
      (∀ old, known old = true ↔ (∀ row rec, i = .writeRow 0 bank row rec → row < old.count ∧ row < 16 ∨ row = 16) ∧
        ∀ slot rank, i = .setRank 0 bank slot rank → 1 ≤ slot ∧ slot ≤ 5) ∧
      (∀ old, BankInRange old → BankInRange (write old).1) ∧
      (∀ row rec, i = .writeRow 0 bank row rec →
        write = fun b => (setRow b row (clampRow rec), decide (clampRow rec ≠ rec))) ∧
      (∀ slot rank, i = .setRank 0 bank slot rank → ∀ c : Slot, slot = c.val + 1 →
        write = fun b => ({ b with ranks := b.ranks.set c (clampNat 1 8 rank) }, decide (clampNat 1 8 rank ≠ rank))) ∧
      (∀ which value, i = .configureBandGeometry 0 bank which value → write = writeGeometry which value) := by
  obtain ⟨row, rec, rfl⟩ | ⟨slot, rank, rfl⟩ | ⟨which, value, rfl⟩ := h
  · refine ⟨_, _, _, rfl, rfl, fun old => ?_, fun old h => bankInRange_setRow h row rec, ?_, nofun, nofun⟩
    · rw [rowInUse_iff]
      exact ⟨fun h => ⟨by rintro _ _ ⟨⟩; exact h, nofun⟩, fun h => h.1 row rec rfl⟩
    · rintro _ _ ⟨⟩
      rfl
  · refine ⟨_, _, _, rfl, rfl, fun old => ?_, fun old h => ?_, nofun, ?_, nofun⟩
    · have hslot : (slotOfByte slot).isSome = true ↔ 1 ≤ slot ∧ slot ≤ 5 := by
        unfold slotOfByte
        split <;> simp_all
      rw [hslot]
      exact ⟨fun h => ⟨nofun, by rintro _ _ ⟨⟩; exact h⟩, fun h => h.2 slot rank rfl⟩
    · split
      · exact bankInRange_setRank h _ rank
      · exact h
    · rintro _ _ ⟨⟩ c rfl
      simp only [slotOfByte_val]
  · refine ⟨_, _, _, rfl, rfl, fun old => ⟨fun _ => ⟨nofun, nofun⟩, fun _ => rfl⟩,
      fun old h => bankInRange_writeGeometry h which value, nofun, nofun, ?_⟩
    rintro _ _ ⟨⟩
    rfl

/-- Settles O50: the checks come in the order of `writeBank`, and a taken write replaces one bank. -/
theorem bankWritesAreCheckedAndCounted : Obligations.BankWritesAreCheckedAndCounted := by
  intro i bank s hs hkind
  obtain ⟨code, known, write, hi, ha, hknown, hrange, hrow, hrank, hgeometry⟩ := bankWrite_request hkind
  have hi := congrFun hi s
  refine ⟨fun h => answeredUnchanged_served hi hs ha (writeBank_busy h),
    fun h => ⟨fun hb => answeredUnchanged_served hi hs ha (writeBank_noBank h hb), ?_⟩⟩
  rintro b rfl old
  have hunknown (hk : ¬known old = true) : AnsweredUnchanged i 0 .refusedUnknown s :=
    answeredUnchanged_served hi hs ha (writeBank_unknown h (Bool.eq_false_iff.mpr hk))
  refine ⟨⟨fun row rec e hno => hunknown fun hk => hno (((hknown old).mp hk).1 row rec e),
    fun slot rank e hno => hunknown fun hk => ?_⟩, fun hrows hslots => ?_⟩
  · obtain ⟨h1, h5⟩ := ((hknown old).mp hk).2 slot rank e
    omega
  · have hk : known old = true := (hknown old).mpr ⟨hrows, hslots⟩
    refine ⟨fun hact => answeredUnchanged_served hi hs ha (writeBank_active h hk hact),
      fun hact hsw => answeredUnchanged_served hi hs ha (writeBank_pending h hk hact hsw), fun hact hsw => ?_⟩
    obtain ⟨t, ht, hst, hp, htouch⟩ := request_answers_unfollowed hi hs ha (writeBank_taken h hk hact hsw) rfl
      (flowExpected_config rfl rfl rfl)
    have hconfig : t.config = { s.config with banks := s.config.banks.set b (write old).1 } := htouch.same .config rfl
    have hpolicy : t.policy = { s.policy with changes := s.policy.changes.modify b (wrapSucc 255) } :=
      htouch.same .policy rfl
    have hbank : t.config.banks.get b = (write old).1 := by rw [hconfig, Tab.get_set_same]
    refine ⟨t, ht, hp, fun h => hbank ▸ hrange old h, fun row rec e => ?_, fun slot rank e c hc => ?_,
      fun which value e => ?_, fun which value e => ?_, fun d hd => ⟨?_, ?_⟩, ?_, ?_, ?_,
      frame_of_bankWritten (((touches_bankWritten b _ s).andThen htouch).weaken rfl)⟩
    · have hw := hrow row rec e
      have huse : row ≤ 16 := by
        have := hrows row rec e
        omega
      rw [hbank, hst, hw]
      obtain ⟨hranks, hcount, hwidth, hhyst⟩ := setRow_rest (b := old) (row := row) (r := clampRow rec)
      refine ⟨bankRow_setRow_same.trans (clampRow_eq rec), ?_, fun other hne ho => bankRow_setRow_ne hne ho huse, hranks,
        hcount, hwidth, hhyst⟩
      rw [doneOr_ne]
      exact congrArg some (if_congr (clampRow_eq_self rec) rfl rfl)
    · rw [hbank, hst, hrank slot rank e c hc, doneOr_ne, clampNat_eq (by decide)]
      refine ⟨rfl, congrArg some (if_congr ?_ rfl rfl)⟩
      simp only [Nat.max_def, Nat.min_def]
      split_ifs <;> omega
    · rw [hbank, hgeometry which value e]
      exact writeGeometry_eq which value old
    · rw [hst, hgeometry which value e]
      exact congrArg some (writeGeometry_status which value old)
    · rw [hconfig, Tab.get_set_ne _ _ hd]
    · rw [hpolicy, Tab.get_modify_ne _ _ hd]
    · rw [hpolicy, Tab.get_modify_same]
    · rw [hpolicy]
    · rw [hconfig]

end Sys2Proof.Machine
end

section
/-! Event bindings and SET_LIMITS (R77, R149, R151). -/

namespace Sys2Proof.Machine

open Sys2Proof

/-! ## Event bindings (R149) -/

section Binding

variable {number : Nat} {value : Int} {s : State}

theorem serveBinding_busy (h : s.store.saving ≠ none) : serveBinding number value s = { state := s, status := .busy } :=
  if_pos ((saving_iff s).mp h)

theorem bindingIndex_none (h : number = 0 ∨ 6 < number) : bindingIndex number = none := dif_neg (by omega)

theorem bindingIndex_val (n : Fin 6) : bindingIndex (n.val + 1) = some n := by
  rw [bindingIndex, dif_pos (by omega)]
  rfl

@[simp] theorem sourceOf_code (x : Source) : sourceOf x.code = some x := by cases x <;> rfl

theorem bindingOf_coded {new : Option Binding} (hnone : new = none → value = -1)
    (hsome : ∀ x, new = some x → value = ((x.source.code * 256 + x.bank.val : Nat) : Int)) : bindingOf value = some new := by
  cases new with
  | none => rw [hnone rfl]; rfl
  | some x =>
    have hbank := x.bank.isLt
    have hsource : (x.source.code * 256 + x.bank.val) / 256 = x.source.code := by omega
    have hrest : (x.source.code * 256 + x.bank.val) % 256 = x.bank.val := by omega
    rw [hsome x rfl, bindingOf, if_neg (by omega), if_neg (by omega), Int.toNat_natCast, hsource, hrest, sourceOf_code,
      bankOf_val]

theorem serveBinding_unknown (h : s.store.saving = none) (hu : number = 0 ∨ 6 < number ∨ bindingOf value = none) :
    serveBinding number value s = { state := s, status := .refusedUnknown } := by
  have hnone : bindingIndex number = none ∨ bindingOf value = none := by
    obtain h | h | h := hu
    · exact .inl (bindingIndex_none (.inl h))
    · exact .inl (bindingIndex_none (.inr h))
    · exact .inr h
  obtain h' | h' := hnone
  · simp only [serveBinding, not_saving h, Bool.false_eq_true, if_false, h']
  · cases hi : bindingIndex number <;> simp only [serveBinding, not_saving h, Bool.false_eq_true, if_false, h', hi]

theorem serveBinding_taken {n : Fin 6} {new : Option Binding} (h : s.store.saving = none) (hv : bindingOf value = some new) :
    serveBinding (n.val + 1) value s =
      { state := { s with config := { s.config with bindings := s.config.bindings.set n new } }, status := .done } := by
  simp only [serveBinding, not_saving h, Bool.false_eq_true, if_false, bindingIndex_val, hv]

end Binding

/-! ## SET_LIMITS (R77, R151) -/

section Limits

variable {s t : State} {mask max x : Nat} {c d : Slot}

theorem serveSetLimits_busy (h : s.store.saving ≠ none) : serveSetLimits mask max s = { state := s, status := .busy } :=
  if_pos ((saving_iff s).mp h)

theorem serveSetLimits_unknown (h : s.store.saving = none) (hm : mask = 0 ∨ 32 ≤ mask) :
    serveSetLimits mask max s = { state := s, status := .refusedUnknown } := by
  simp only [serveSetLimits, not_saving h, maskValid_false hm, Bool.false_eq_true, if_false, Bool.not_false, if_true]

theorem serveSetLimits_taken (h : s.store.saving = none) (h0 : 0 < mask) (h32 : mask < 32) :
    serveSetLimits mask max s =
      { state := (maskSlots mask).foldl (limitSlot (clampNat 1 5000 max)) s
        status := doneOr (clampNat 1 5000 max ≠ max) } := by
  simp only [serveSetLimits, not_saving h, maskValid_iff.mpr ⟨h0, h32⟩, Bool.false_eq_true, if_false, Bool.not_true]

theorem limitSlot_get_ne (h : d ≠ c) : (limitSlot x s c).claims.get d = s.claims.get d := by
  unfold limitSlot
  split_ifs
  · rfl
  · rw [changeClaim_claims, Tab.get_set_ne _ _ h]

theorem limitSlot_get_vacant (h : (s.claims.get c).state = .vacant) : (limitSlot x s c).claims.get c = s.claims.get c := by
  rw [limitSlot, if_pos h]

theorem limitSlot_get (h : (s.claims.get c).state ≠ .vacant) :
    (limitSlot x s c).claims.get c = commit (s.claims.get c) (limitClaim x (s.claims.get c)) := by
  rw [limitSlot, if_neg h, changeClaim_get_same]

theorem limitSlot_get_congr (h : s.claims.get c = t.claims.get c) :
    (limitSlot x s c).claims.get c = (limitSlot x t c).claims.get c := by
  by_cases hv : (s.claims.get c).state = .vacant
  · rw [limitSlot_get_vacant hv, limitSlot_get_vacant (h ▸ hv), h]
  · rw [limitSlot_get hv, limitSlot_get (h ▸ hv), h]

theorem limitSlots_get (mask : Nat) (s : State) (c : Slot) :
    ((maskSlots mask).foldl (limitSlot x) s).claims.get c =
      if mask.testBit c.val then (limitSlot x s c).claims.get c else s.claims.get c := by
  have h := foldl_view (fun c s => s.claims.get c) (limitSlot x) (fun _ _ _ h => limitSlot_get_ne h)
    (fun _ _ _ h => limitSlot_get_congr h) (maskSlots_nodup mask) s c
  exact h.trans (if_congr mem_maskSlots rfl rfl)

/-- The epoch apart, a changed record is the new one. -/
theorem commit_fields (old new : Claim) :
    (commit old new).limits = new.limits ∧ (commit old new).request = new.request ∧
      (commit old new).allotment = new.allotment ∧ ∀ k r a e, { commit old new with
        limits := k, request := r, allotment := a, epoch := e } = { new with limits := k, request := r, allotment := a, epoch := e } := by
  unfold commit
  split <;> exact ⟨rfl, rfl, rfl, fun _ _ _ _ => rfl⟩

/-- A claim under SET_LIMITS, by the figures it held (R77). -/
theorem limitClaim_some {cl : Claim} {k : Limits} (h : cl.limits = some k) (x : Nat) :
    limitClaim x cl =
      { cl with
        limits := some { m := Nat.min k.m x, x, u := k.u }
        request := cl.request.map (clampNat (Nat.min k.m x) x)
        allotment := allotmentCap { m := Nat.min k.m x, x, u := k.u } (cl.request.map (clampNat (Nat.min k.m x) x)) cl.state
          cl.allotment } := by
  simp only [limitClaim, h, limitTo, clampNat_zero]

theorem touches_limitSlots (mask : Nat) (x : Nat) (s : State) :
    TouchesOnly [.claims] s ((maskSlots mask).foldl (limitSlot x) s) :=
  .foldl (fun s c => touches_limitSlot s x c) _ _

end Limits

/-- Settles O51: a binding replaces one entry of the table, and each named claim shows what the new maximum does to it
alone. -/
theorem bindingsAndLimitsAreWritten : Obligations.BindingsAndLimitsAreWritten := by
  intro s hs
  refine ⟨fun number value => ⟨fun h => answeredUnchanged_served rfl hs rfl (serveBinding_busy h),
    fun h hu => answeredUnchanged_served rfl hs rfl (serveBinding_unknown h hu), ?binding⟩,
    fun mask max => ⟨fun h => answeredUnchanged_served rfl hs rfl (serveSetLimits_busy h),
      fun h hm => answeredUnchanged_served rfl hs rfl (serveSetLimits_unknown h hm), ?limits⟩⟩
  case binding =>
    rintro n new h rfl hnone hsome
    obtain ⟨t, ht, hst, hp, htouch⟩ := request_answers_unfollowed (i := .configureEventBinding 0 (n.val + 1) value) rfl hs
      rfl (serveBinding_taken h (bindingOf_coded hnone hsome)) rfl (flowExpected_config rfl rfl rfl)
    refine ⟨t, ht, hst, hp, htouch.same .config rfl, ?_⟩
    have hwritten : TouchesOnly [.config] s { s with config := { s.config with bindings := s.config.bindings.set n new } } :=
      .of_restore rfl
    have hr := ((hwritten.andThen htouch).weaken (cs := [.config, .ports]) rfl).restored
    simp only [restore, List.foldr, Block.copy] at hr
    exact hr
  case limits =>
    intro h h0 h32
    have hx : clampNat 1 5000 max = Nat.max 1 (Nat.min 5000 max) := clampNat_eq (by decide) max
    obtain ⟨t, ht, hst, hp, htt⟩ := request_answers (i := .setLimits 0 mask max) rfl hs rfl (serveSetLimits_taken h h0 h32)
      ((touches_limitSlots mask _ s).same .ports rfl)
    rw [hx] at hst htt
    have htouch := touches_limitSlots mask (Nat.max 1 (Nat.min 5000 max)) s
    have hget := limitSlots_get (x := Nat.max 1 (Nat.min 5000 max)) mask s
    generalize Nat.max 1 (Nat.min 5000 max) = x at hst htt htouch hget ⊢
    generalize (maskSlots mask).foldl (limitSlot x) s = u at htt htouch hget
    obtain ⟨hflow, hmeters, halerts⟩ := followFlow_consumers (as := []) (htouch.weaken rfl)
      (fun n _ => congrArg (·.get n) (show u.alerts = s.alerts from htouch.same .alerts rfl)) (by simp)
    have hclaims : t.claims = u.claims := htt.same .claims rfl
    have htm : t.meters = (followFlow s u).meters := htt.same .meters rfl
    have hta : t.alerts = (followFlow s u).alerts := htt.same .alerts rfl
    refine ⟨t, ht, ?_, hp, fun c hc => ?_, fun c k hc hv hk => ?_, hflow.of_touches htt, fun m hm => htm ▸ hmeters m hm,
      fun n hn => hta ▸ halerts n hn, ?_⟩
    · rw [hst, doneOr_ne]
    · rw [hclaims, hget]
      split_ifs with hm
      · exact limitSlot_get_vacant (hc.resolve_left (by simp [hm]))
      · rfl
    · have hcommit : t.claims.get c = commit (s.claims.get c) (limitClaim x (s.claims.get c)) := by
        rw [hclaims, hget, if_pos hc, limitSlot_get hv]
      obtain ⟨hlimits, hrequest, hallotment, hrest⟩ := commit_fields (s.claims.get c) (limitClaim x (s.claims.get c))
      rw [hcommit, hlimits, hrequest, hallotment, hrest, limitClaim_some hk, ← hk]
      refine ⟨rfl, rfl, fun hstate => ?_, fun hstate => ?_, fun hna hnr => ?_, rfl⟩
      · simp only [hstate, allotmentCap]
      · simp only [hstate, allotmentCap]
      · cases hstate : (s.claims.get c).state <;> simp_all [allotmentCap]
    · have hr := (((htouch.andThen (touches_followFlow s u)).andThen htt).weaken
        (cs := [.claims, .meters, .alerts, .ports]) rfl).restored
      simp only [restore, List.foldr, Block.copy] at hr
      exact hr

end Sys2Proof.Machine
end

section
/-! CONFIGURE of the items that the configuration store serves itself (R175), and of a line-in-use flag (R4, R10, R33). -/

namespace Sys2Proof.Machine

open Sys2Proof

/-! ## CONFIGURE by the item it names (R175) -/

section Configure

variable {item : Nat} {value : Int} {i : Item} {s : State}

theorem serveConfigure_busy (h : s.store.saving ≠ none) : serveConfigure item value s = { state := s, status := .busy } :=
  if_pos ((saving_iff s).mp h)

theorem serveConfigure_item (h : s.store.saving = none) (hg : geometryItem item = none) (hb : bindingItem item = none)
    (hi : itemOf item = some i) : serveConfigure item value s = serveItem i value s := by
  simp only [serveConfigure, not_saving h, Bool.false_eq_true, if_false, hg, hb, hi]

theorem serveConfigure_unknown (h : s.store.saving = none) (hg : geometryItem item = none) (hb : bindingItem item = none)
    (hi : itemOf item = none) : serveConfigure item value s = { state := s, status := .refusedUnknown } := by
  simp only [serveConfigure, not_saving h, Bool.false_eq_true, if_false, hg, hb, hi]

/-- Above the settings and below the policy banks' items lie the factors, the flags and the ranges. -/
theorem not_bankItem (h : item < 0x200) : geometryItem item = none ∧ bindingItem item = none :=
  ⟨if_neg (by omega), if_neg (by omega)⟩

theorem itemOf_inUse : ∀ l : Line, itemOf (0x111 + l.val) = some (.inUse l) := by decide

end Configure

/-! ## A line-in-use flag (R4) -/

section Line

variable {l : Line} {inUse : Bool} {s : State}

/-- Where the meters and the METER_STALL records already stand as their flow expectation asks, the meter stage has nothing
to follow. -/
theorem followFlow_fixed {s t : State}
    (hm : ∀ m, followMeter (flowExpected s m) (flowExpected t m) (t.meters.get m) = t.meters.get m)
    (ha : ∀ m, flowExpected s m = true → flowExpected t m = false →
      endOf (alertState (.meterStall m) t) = alertState (.meterStall m) t) : followFlow s t = t := by
  have hmeters : (followFlow s t).meters = t.meters := Tab.ext_get fun m => by rw [followFlow_meters, Tab.get_gen, hm]
  have halerts : (followFlow s t).alerts = t.alerts := Tab.ext_get fun n => by
    rw [followFlow_alerts, followAlerts, Tab.get_gen]
    split_ifs with hn hends
    · simp only [Bool.and_eq_true, Bool.not_eq_true'] at hends
      exact ha ⟨n.val, hn⟩ hends.1 hends.2
    · rfl
    · rfl
  have heq : followFlow s t = { t with meters := (followFlow s t).meters, alerts := (followFlow s t).alerts } := rfl
  rw [heq, hmeters, halerts]

theorem endOf_endOf (a : AlertState) : endOf (endOf a) = endOf a := by cases a <;> rfl

theorem changeLine_meters (l : Line) (inUse : Bool) (s : State) :
    (changeLine l inUse s).meters = s.meters.set (lineMeter l) (startMeter (if inUse then some 0 else none)) := rfl

theorem changeLine_alerts (l : Line) (inUse : Bool) (s : State) :
    AlertEnded (.meterStall (lineMeter l)) s (changeLine l inUse s) ∧
      AlertEnded (.counterOverrun (lineMeter l)) s (changeLine l inUse s) ∧
      AlertsSameBut [.meterStall (lineMeter l), .counterOverrun (lineMeter l)] s (changeLine l inUse s) := by
  have hreset : (lineReset l inUse s).alerts = s.alerts := rfl
  rw [changeLine_eq]
  exact ⟨alertEnded_of_alerts hreset (alertEnded_lower_inner (by simp) _),
    alertEnded_of_alerts hreset (alertEnded_lower_outer (by simp) _), alertsSameBut_of_alerts hreset (lowers_sameBut _ _ _)⟩

theorem flowExpected_lineMeter (s : State) (l : Line) : flowExpected s (lineMeter l) = s.config.inUse.get l := by
  have hl : (lineMeter l).val < 6 := l.isLt
  rw [flowExpected, dif_pos hl]
  rfl

theorem flowExpected_changeLine_ne {m : Meter} (h : m ≠ lineMeter l) :
    flowExpected (changeLine l inUse s) m = flowExpected s m := by
  have hconfig : (changeLine l inUse s).config.inUse = s.config.inUse.set l inUse := rfl
  have hclaims : (changeLine l inUse s).claims = s.claims := rfl
  have hflare : (changeLine l inUse s).flare = s.flare := rfl
  simp only [flowExpected, hconfig, hclaims, hflare]
  split_ifs with hm
  · exact Tab.get_set_ne _ _ fun e => h (e ▸ rfl)
  · rfl
  · rfl

theorem flowExpected_changeLine_same : flowExpected (changeLine l inUse s) (lineMeter l) = inUse := by
  rw [flowExpected_lineMeter]
  exact Tab.get_set_same _ _ _

/-- The flag's own reset leaves its meter as the flow expectation asks. -/
theorem followFlow_changeLine (h : s.config.inUse.get l ≠ inUse) :
    followFlow s (changeLine l inUse s) = changeLine l inUse s := by
  refine followFlow_fixed (fun m => ?_) fun m hs ht => ?_
  · by_cases hm : m = lineMeter l
    · subst hm
      rw [flowExpected_changeLine_same, flowExpected_lineMeter, changeLine_meters, Tab.get_set_same]
      cases inUse <;> simp_all [followMeter, startMeter]
    · rw [flowExpected_changeLine_ne hm, followMeter_same]
  · by_cases hm : m = lineMeter l
    · subst hm
      rw [(changeLine_alerts l inUse s).1, ← endOf_eq, endOf_endOf]
    · rw [flowExpected_changeLine_ne hm, hs] at ht
      exact absurd ht (by simp)

theorem serveInUse_unknown {value : Int} (h0 : value ≠ 0) (h1 : value ≠ 1) :
    serveInUse l value s = { state := s, status := .refusedUnknown } := if_neg (by simp [h0, h1])

theorem serveInUse_kept {value : Int} (h : value = if inUse then 1 else 0) (hl : s.config.inUse.get l = inUse) :
    serveInUse l value s = { state := s, status := .done } := by
  cases inUse <;> simp_all [serveInUse]

theorem serveInUse_changed {value : Int} (h : value = if inUse then 1 else 0) (hl : s.config.inUse.get l ≠ inUse) :
    serveInUse l value s = { state := changeLine l inUse s, status := .done } := by
  cases inUse <;> simp_all [serveInUse]

theorem touches_changeLine (l : Line) (inUse : Bool) (s : State) :
    TouchesOnly [.config, .meters, .normalizer, .balance, .alerts] s (changeLine l inUse s) :=
  (((touches_lineReset s l inUse).andThen (touches_lower _ _)).andThen (touches_lower _ _)).weaken rfl

end Line

/-- Settles O54: the reset of the flag's line is all the meter stage asks, and each part of it is read off. -/
theorem lineInUseFlagActsOnItsLine : Obligations.LineInUseFlagActsOnItsLine := by
  intro l value s hs hsave
  obtain ⟨hg, hb⟩ := not_bankItem (item := 0x111 + l.val) (by omega)
  have hserve : serveConfigure (0x111 + l.val) value s = serveInUse l value s :=
    serveConfigure_item hsave hg hb (itemOf_inUse l)
  refine ⟨fun h0 h1 => answeredUnchanged_served rfl hs rfl (hserve.trans (serveInUse_unknown h0 h1)),
    fun inUse hv => ⟨fun h => answeredUnchanged_served rfl hs rfl (hserve.trans (serveInUse_kept hv h)), fun h => ?_⟩⟩
  have htouch := touches_changeLine l inUse s
  obtain ⟨t, ht, hst, hp, htt⟩ := request_answers (i := .configure 0 (0x111 + l.val) value) rfl hs rfl
    (hserve.trans (serveInUse_changed hv h)) (htouch.same .ports rfl)
  rw [followFlow_changeLine h] at htt
  obtain ⟨hstall, hoverrun, hsame⟩ := changeLine_alerts l inUse s
  have hconfig : t.config = (changeLine l inUse s).config := htt.same .config rfl
  have hmeters : t.meters = (changeLine l inUse s).meters := htt.same .meters rfl
  have hnormalizer : t.normalizer = (changeLine l inUse s).normalizer := htt.same .normalizer rfl
  have hbalance : t.balance = noteLineChange l s.balance := htt.same .balance rfl
  have halerts : t.alerts = (changeLine l inUse s).alerts := htt.same .alerts rfl
  rw [changeLine_meters] at hmeters
  refine ⟨t, ht, hst, hp, hconfig, ?_, fun m hm => ?_, hnormalizer,
    (congrArg (·.get (alertNumber (.meterStall (lineMeter l)))) halerts).trans hstall,
    (congrArg (·.get (alertNumber (.counterOverrun (lineMeter l)))) halerts).trans hoverrun,
    fun n hn => halerts ▸ hsame n hn, fun hpass => ?_, fun p hpass => ?_, ?_⟩
  · rw [hmeters, Tab.get_set_same]
    rfl
  · rw [hmeters, Tab.get_set_ne _ _ hm]
  · rw [hbalance, noteLineChange, hpass, Option.map_none, ← hpass]
  · rw [hbalance, noteLineChange, hpass, Option.map_some]
  · have hr := ((htouch.andThen htt).weaken (cs := [.config, .meters, .normalizer, .alerts, .balance, .ports]) rfl).restored
    simp only [restore, List.foldr, Block.copy] at hr
    exact hr

end Sys2Proof.Machine
end

section
/-! What a written setting does at once (R6, R23, R24, R61, R67, R122, R128, R131, R170, R175). -/

namespace Sys2Proof.Machine

open Sys2Proof

/-! ## A state with its configuration written -/

section Written

variable {s w u t : State}

/-- The configuration of `w` is a new one, its line-in-use flags as they were; all else is that of `s`. -/
def Written (s w : State) : Prop := TouchesOnly [.config] s w ∧ w.config.inUse = s.config.inUse

theorem Written.flow (h : Written s w) (m : Meter) : flowExpected w m = flowExpected s m := by
  obtain ⟨hw, hi⟩ := h
  exact flowExpected_config hi (hw.same .claims rfl) (hw.same .flare rfl) m

theorem followFlow_congr (h : ∀ m, flowExpected w m = flowExpected s m) : followFlow w u = followFlow s u := by
  have hf : flowExpected w = flowExpected s := funext h
  simp only [followFlow, hf]

/-- What the meter stage follows of an effect that moves no flow expectation. -/
theorem Written.unfollowed (h : Written s w) (hu : followFlow w u = u) (ht : TouchesOnly [.ports] (followFlow s u) t) :
    TouchesOnly [.ports] u t := by
  rwa [← followFlow_congr h.flow, hu] at ht

/-- A setting without an effect of its own. -/
theorem frame_of_written (h : Written s w) (ht : TouchesOnly [.ports] (followFlow s w) t) :
    { t with config := s.config, ports := s.ports } = s := by
  have hr := ((h.1.andThen (h.unfollowed (followFlow_self w) ht)).weaken (cs := [.config, .ports]) rfl).restored
  simp only [restore, List.foldr, Block.copy] at hr
  exact hr

/-- A block that the writing has left alone reads the same in both states. -/
theorem Written.same (h : Written s w) (b : Block) (hb : decide (b ∉ [Block.config]) = true) : b.same s w :=
  h.1.same b hb

end Written

/-! ## Expiries with a purge out the slots (R61, R62, R67, R68) -/

section Purging

variable {out : Slot → State → Bool} {alert : Slot → Alert} {f : Claim → Claim} {s t : State} {c d : Slot}

/-- The expiry of a slot's timer: the claim changes with a purge and its record is raised. -/
def purgingExpiry (out : Slot → State → Bool) (alert : Slot → Alert) (f : Claim → Claim) (s : State) (c : Slot) : State :=
  if out c s then raise (alert c) (changePurging c f s) else s

/-- What a slot's timers read and move. -/
def expiryView (alert : Slot → Alert) (c : Slot) (s : State) : (Claim × List ShedRecord) × AlertState × WorkingConfig :=
  (slotView c s, alertState (alert c) s, s.config)

theorem expiryView_ne (hinj : ∀ c d, d ≠ c → alert d ≠ alert c) (h : d ≠ c) :
    expiryView alert d (purgingExpiry out alert f s c) = expiryView alert d s := by
  unfold purgingExpiry
  split_ifs
  · have hview : slotView d (raise (alert c) (changePurging c f s)) = slotView d s := slotView_changePurging_ne h f
    have halert : alertState (alert d) (raise (alert c) (changePurging c f s)) = alertState (alert d) s :=
      alertState_of_sameBut (raise_same_but (alert c) (changePurging c f s)) (by simpa using hinj c d h)
    rw [expiryView, hview, halert, expiryView]
    rfl
  · rfl

theorem expiryView_congr (hover : ∀ s t, slotView c s = slotView c t → s.config = t.config → out c s = out c t)
    (h : expiryView alert c s = expiryView alert c t) :
    expiryView alert c (purgingExpiry out alert f s c) = expiryView alert c (purgingExpiry out alert f t c) := by
  obtain ⟨hview, hrest⟩ := Prod.mk.inj h
  obtain ⟨hclaim, hrecords⟩ := Prod.mk.inj hview
  obtain ⟨-, hconfig⟩ := Prod.mk.inj hrest
  unfold purgingExpiry
  rw [hover s t hview hconfig]
  split_ifs
  · have hs : slotView c (changePurging c f s) = slotView c (changePurging c f t) := by
      rw [slotView_changePurging_same, slotView_changePurging_same, hclaim, hrecords]
    exact Prod.ext hs (Prod.ext ((alertState_raise _ _).trans (alertState_raise _ _).symm) hconfig)
  · exact h

/-- Each slot shows what the expiry of its own timer does to it. -/
theorem expiryView_all (hinj : ∀ c d, d ≠ c → alert d ≠ alert c)
    (hout : ∀ c s t, slotView c s = slotView c t → s.config = t.config → out c s = out c t) (s : State) (c : Slot) :
    expiryView alert c (allSlots.foldl (purgingExpiry out alert f) s) =
      expiryView alert c (purgingExpiry out alert f s c) := by
  have h := foldl_view (expiryView alert) (purgingExpiry out alert f) (fun _ _ _ h => expiryView_ne hinj h)
    (fun _ _ _ h => expiryView_congr (hout _) h) (by decide : allSlots.Nodup) s c
  exact h.trans (if_pos (mem_allSlots c))

theorem purgingExpiries_get (hinj : ∀ c d, d ≠ c → alert d ≠ alert c)
    (hout : ∀ c s t, slotView c s = slotView c t → s.config = t.config → out c s = out c t) (s : State) (c : Slot) :
    (allSlots.foldl (purgingExpiry out alert f) s).claims.get c = (purgingExpiry out alert f s c).claims.get c := by
  have hview := expiryView_all (f := f) hinj hout s c
  generalize allSlots.foldl (purgingExpiry out alert f) s = u at hview ⊢
  exact congrArg Prod.fst (Prod.mk.inj hview).1

theorem touches_purgingExpiries (s : State) :
    TouchesOnly [.claims, .stack, .alerts] s (allSlots.foldl (purgingExpiry out alert f) s) :=
  .foldl (fun s c => .ite (fun _ => (touches_changePurging s c f).andThen (touches_raise _ _)) fun _ => .refl _ _) _ _

theorem purgingExpiries_sameBut (slots : List Slot) (s : State) :
    AlertsSameBut (slots.map alert) s (slots.foldl (purgingExpiry out alert f) s) := by
  induction slots generalizing s with
  | nil => exact fun n _ => rfl
  | cons c slots ih =>
    intro n hn
    simp only [List.map_cons, List.mem_cons, not_or] at hn
    refine (ih (purgingExpiry out alert f s c) n hn.2).trans ?_
    unfold purgingExpiry
    split_ifs
    · exact raise_same_but (alert c) (changePurging c f s) n (by simpa using hn.1)
    · rfl

/-- What has become of a slot whose timer has ended, and of one whose timer has not. -/
theorem purgingExpiries_slot (hinj : ∀ c d, d ≠ c → alert d ≠ alert c)
    (hout : ∀ c s t, slotView c s = slotView c t → s.config = t.config → out c s = out c t) (s : State) (c : Slot) :
    let u := allSlots.foldl (purgingExpiry out alert f) s
    (out c s = true → alertState (alert c) u = .active ∧ slotCount c u.stack.records = 0 ∧
      u.claims.get c = (changePurging c f s).claims.get c) ∧
    (out c s = false → alertState (alert c) u = alertState (alert c) s ∧ u.claims.get c = s.claims.get c ∧
      slotRecords c u = slotRecords c s) := by
  intro u
  have hview : expiryView alert c u = expiryView alert c (purgingExpiry out alert f s c) := expiryView_all hinj hout s c
  clear_value u
  obtain ⟨hslot, hrest⟩ := Prod.mk.inj hview
  obtain ⟨hclaim, hrecords⟩ := Prod.mk.inj hslot
  obtain ⟨halert, -⟩ := Prod.mk.inj hrest
  refine ⟨fun h => ?_, fun h => ?_⟩
  · have hexp : purgingExpiry out alert f s c = raise (alert c) (changePurging c f s) := if_pos h
    rw [hexp] at hclaim hrecords halert
    have hnone : slotRecords c (changePurging c f s) = [] := congrArg Prod.snd (slotView_changePurging_same f)
    exact ⟨halert.trans (alertState_raise _ _), congrArg List.length (hrecords.trans hnone), hclaim⟩
  · have hexp : purgingExpiry out alert f s c = s := if_neg (by simp [h])
    rw [hexp] at hclaim hrecords halert
    exact ⟨halert, hclaim, hrecords⟩

end Purging

section Timers

variable {s w t : State}

theorem Written.withheld (h : Written s w) (hs : WithheldAccounted s) : WithheldAccounted w := by
  have hc : w.claims = s.claims := h.same .claims rfl
  have hk : w.stack = s.stack := h.same .stack rfl
  unfold WithheldAccounted
  rwa [hc, hk]

/-- What the meter stage follows between `w` and `t` it follows between `s` and `t`. -/
theorem Written.flowFollowed (h : Written s w) (ht : FlowFollowed w t) : FlowFollowed s t := by
  intro m
  have hm : w.meters = s.meters := h.same .meters rfl
  have ha : alertState (.meterStall m) w = alertState (.meterStall m) s :=
    congrArg (·.get (alertNumber (.meterStall m))) (show w.alerts = s.alerts from h.same .alerts rfl)
  rw [AlertEnded, ← h.flow m, ← hm, ← ha]
  exact ht m

theorem Written.alertsSameBut {as : List Alert} (h : Written s w) (ht : AlertsSameBut as w t) : AlertsSameBut as s t :=
  alertsSameBut_of_alerts (show w.alerts = s.alerts from h.same .alerts rfl) ht

/-- What the expiries after a writing leave of each slot, the meter stage and the answer included. -/
theorem purgingEffect_slot {out : Slot → State → Bool} {alert : Slot → Alert} {f : Claim → Claim} (h : Written s w)
    (hinj : ∀ c d, d ≠ c → alert d ≠ alert c)
    (hout : ∀ c s t, slotView c s = slotView c t → s.config = t.config → out c s = out c t)
    (hstall : ∀ c m, alert c ≠ .meterStall m)
    (ht : TouchesOnly [.ports] (followFlow s (allSlots.foldl (purgingExpiry out alert f) w)) t) (c : Slot) :
    (out c w = true → alertState (alert c) t = .active ∧ slotCount c t.stack.records = 0 ∧
      t.claims.get c = (changePurging c f w).claims.get c) ∧
    (out c w = false → alertState (alert c) t = alertState (alert c) s ∧ t.claims.get c = s.claims.get c ∧
      slotRecords c t = slotRecords c s) := by
  obtain ⟨hruns, hstays⟩ := purgingExpiries_slot (out := out) (f := f) hinj hout w c
  generalize allSlots.foldl (purgingExpiry out alert f) w = u at ht hruns hstays
  have hclaims : t.claims = u.claims := ht.same .claims rfl
  have hstack : t.stack = u.stack := ht.same .stack rfl
  have halert : alertState (alert c) t = alertState (alert c) u :=
    (congrArg (·.get (alertNumber (alert c))) (show t.alerts = _ from ht.same .alerts rfl)).trans
      (followFlow_alertState (hstall c) s u)
  have hwclaims : w.claims = s.claims := h.same .claims rfl
  have hwstack : w.stack = s.stack := h.same .stack rfl
  have hwalert : alertState (alert c) w = alertState (alert c) s :=
    congrArg (·.get (alertNumber (alert c))) (show w.alerts = s.alerts from h.same .alerts rfl)
  rw [halert, hclaims, hstack, slotRecords, hstack, slotRecords, ← hwstack, ← hwclaims, ← hwalert]
  exact ⟨hruns, hstays⟩

/-- Two states that show a slot alike under one configuration agree on its timers. -/
theorem leaseOver_congr (c : Slot) (a b : State) (hv : slotView c a = slotView c b) (hc : a.config = b.config) :
    leaseOver c a = leaseOver c b := by
  have hclaim : a.claims.get c = b.claims.get c := congrArg Prod.fst hv
  rw [leaseOver, leaseOver, hclaim, hc]

theorem startOver_congr (c : Slot) (a b : State) (hv : slotView c a = slotView c b) (hc : a.config = b.config) :
    startOver c a = startOver c b := by
  have hclaim : a.claims.get c = b.claims.get c := congrArg Prod.fst hv
  rw [startOver, startOver, hclaim, hc]

theorem leaseEffect_acts (h : Written s w) (hs : WithheldAccounted s)
    (ht : TouchesOnly [.ports] (followFlow s (settingEffect .lease w)) t) : settingActs .lease s t := by
  have heffect : settingEffect .lease w = allSlots.foldl (purgingExpiry leaseOver .lapse toLapsed) w := rfl
  rw [heffect] at ht
  have hslot := purgingEffect_slot h (fun _ _ hne => by simpa using hne) leaseOver_congr (by simp) ht
  have htouch := touches_purgingExpiries (out := leaseOver) (alert := .lapse) (f := toLapsed) w
  have hsame := purgingExpiries_sameBut (out := leaseOver) (alert := .lapse) (f := toLapsed) allSlots w
  rw [← followFlow_congr h.flow] at ht
  generalize allSlots.foldl (purgingExpiry leaseOver .lapse toLapsed) w = u at ht htouch hsame
  obtain ⟨hflow, -, halerts⟩ := followFlow_consumers (htouch.weaken rfl) hsame (by simp)
  have hconfig : t.config = w.config := (ht.same .config rfl).trans (htouch.same .config rfl)
  have hwclaims : w.claims = s.claims := h.same .claims rfl
  have hta : t.alerts = (followFlow w u).alerts := ht.same .alerts rfl
  refine ⟨fun c => ?_, h.flowFollowed (hflow.of_touches ht), h.alertsSameBut fun n hn => hta ▸ halerts n hn, ?_⟩
  · have hiff := leaseOver_iff c w
    rw [hwclaims, ← hconfig] at hiff
    obtain ⟨hruns, hstays⟩ := hslot c
    refine ⟨fun he => ?_, fun he => hstays (Bool.eq_false_iff.mpr (hiff.not.mpr he))⟩
    obtain ⟨hactive, hcount, hget⟩ := hruns (hiff.mpr he)
    have hne : (w.claims.get c).state ≠ .lapsed := fun e => by
      rw [hwclaims] at e
      simp [e, leased] at he
    rw [hget, changePurging_toLapsed_get (h.withheld hs) hne, hwclaims]
    exact ⟨hactive, hcount, rfl⟩
  · have hr := (((h.1.andThen htouch).andThen (touches_followFlow w u)).andThen ht |>.weaken
      (cs := [.config, .claims, .stack, .meters, .alerts, .ports]) rfl).restored
    simp only [restore, List.foldr, Block.copy] at hr
    exact hr

/-- A claim out of ADMITTED drew no gas and draws none. -/
theorem draws_startExpiry (s : State) (c : Slot) :
    draws ((purgingExpiry startOver .startFail toIdle s c).claims.get c) = draws (s.claims.get c) := by
  unfold purgingExpiry
  split_ifs with hover
  · have hadmitted := ((startOver_iff c s).mp hover).1
    have hget : (raise (.startFail c) (changePurging c toIdle s)).claims = (changePurging c toIdle s).claims := rfl
    rw [hget, changePurging_claims, Tab.get_set_same, draws_commit, draws_of_not_running (by simp [toIdle]),
      draws_of_not_running (by simp [hadmitted])]
  · rfl

theorem startEffect_acts (h : Written s w) (hs : WithheldAccounted s)
    (ht : TouchesOnly [.ports] (followFlow s (settingEffect .startTimeout w)) t) : settingActs .startTimeout s t := by
  have heffect : settingEffect .startTimeout w = allSlots.foldl (purgingExpiry startOver .startFail toIdle) w := rfl
  rw [heffect] at ht
  have hinj : ∀ c d : Slot, d ≠ c → Alert.startFail d ≠ .startFail c := fun _ _ hne => by simpa using hne
  have hslot := purgingEffect_slot h hinj startOver_congr (by simp) ht
  have htouch := touches_purgingExpiries (out := startOver) (alert := .startFail) (f := toIdle) w
  have hsame := purgingExpiries_sameBut (out := startOver) (alert := .startFail) (f := toIdle) allSlots w
  have hdraws (c : Slot) : draws ((allSlots.foldl (purgingExpiry startOver .startFail toIdle) w).claims.get c) =
      draws (w.claims.get c) := by
    rw [purgingExpiries_get hinj startOver_congr]
    exact draws_startExpiry w c
  generalize allSlots.foldl (purgingExpiry startOver .startFail toIdle) w = u at ht htouch hsame hdraws
  have hconfig : u.config = w.config := htouch.same .config rfl
  have hflare : u.flare = w.flare := htouch.same .flare rfl
  have htu := h.unfollowed (followFlow_same (flowExpected_of_draws (congrArg (·.inUse) hconfig) hdraws
    (congrArg (·.state) hflare))) ht
  have hconfig : t.config = w.config := (htu.same .config rfl).trans hconfig
  have hwclaims : w.claims = s.claims := h.same .claims rfl
  have hta : t.alerts = u.alerts := htu.same .alerts rfl
  refine ⟨fun c => ?_, h.alertsSameBut fun n hn => hta ▸ hsame n hn, ?_⟩
  · have hiff := startOver_iff c w
    rw [hwclaims, ← hconfig] at hiff
    obtain ⟨hruns, hstays⟩ := hslot c
    refine ⟨fun he => ?_, fun he => hstays (Bool.eq_false_iff.mpr (hiff.not.mpr he))⟩
    obtain ⟨hactive, hcount, hget⟩ := hruns (hiff.mpr he)
    have hne : (w.claims.get c).state ≠ .idle := by
      rw [hwclaims, he.1]
      decide
    rw [hget, changePurging_toIdle_get (h.withheld hs) hne, hwclaims]
    exact ⟨hactive, hcount, rfl⟩
  · have hr := ((h.1.andThen htouch).andThen htu |>.weaken (cs := [.config, .claims, .stack, .alerts, .ports]) rfl).restored
    simp only [restore, List.foldr, Block.copy] at hr
    exact hr

/-! ## The stall time (R6) -/

/-- What a meter's stall timer reads and moves. -/
def stallView (m : Meter) (s : State) : MeterRec × AlertState × WorkingConfig :=
  (s.meters.get m, alertState (.meterStall m) s, s.config)

theorem stallView_ne {m n : Meter} (hn : n ≠ m) (s : State) : stallView n (stallExpires m s) = stallView n s := by
  cases hover : stallOver m s with
  | false => rw [stallExpires_early hover]
  | true =>
    have hget : (raise (.meterStall m) (stalledState m s)).meters.get n = s.meters.get n := Tab.get_modify_ne _ _ hn
    have halert : alertState (.meterStall n) (raise (.meterStall m) (stalledState m s)) = alertState (.meterStall n) s :=
      alertState_of_sameBut (raise_same_but (.meterStall m) (stalledState m s)) (by simpa using hn)
    rw [stallExpires_stalled hover, stallView, hget, halert]
    rfl

theorem stallView_congr {m : Meter} {s t : State} (hv : stallView m s = stallView m t) :
    stallView m (stallExpires m s) = stallView m (stallExpires m t) := by
  obtain ⟨hget, hrest⟩ := Prod.mk.inj hv
  obtain ⟨-, hconfig⟩ := Prod.mk.inj hrest
  have hover : stallOver m s = stallOver m t := by rw [stallOver, stallOver, hget, hconfig]
  cases ht : stallOver m t with
  | false => rw [stallExpires_early ht, stallExpires_early (hover.trans ht), hv]
  | true =>
    rw [stallExpires_stalled ht, stallExpires_stalled (hover.trans ht)]
    have hs (a : State) : stallView m (raise (.meterStall m) (stalledState m a)) =
        (stallMeter (a.meters.get m), .active, a.config) :=
      Prod.ext (Tab.get_modify_same _ _ _) (Prod.ext (alertState_raise _ _) rfl)
    rw [hs, hs, hget, hconfig]

theorem stallView_all (s : State) (m : Meter) :
    stallView m (allMeters.foldl (fun s m => stallExpires m s) s) = stallView m (stallExpires m s) := by
  have hall : ∀ m : Meter, m ∈ allMeters := by decide
  exact (foldl_view stallView (fun s m => stallExpires m s) (fun s _ _ hn => stallView_ne hn s)
    (fun _ _ _ hv => stallView_congr hv) (by decide : allMeters.Nodup) s m).trans (if_pos (hall m))

theorem stallExpires_pastStalls (m : Meter) (s : State) (n : Fin 58) (hn : 12 ≤ n.val) :
    (stallExpires m s).alerts.get n = s.alerts.get n := by
  cases hover : stallOver m s with
  | false => rw [stallExpires_early hover]
  | true =>
    rw [stallExpires_stalled hover]
    refine raise_same_but (.meterStall m) (stalledState m s) n ?_
    have hne : n ≠ alertNumber (.meterStall m) := fun e => by
      rw [e, alertNumber] at hn
      exact absurd hn (by simp)
    simpa using hne

theorem stallsExpire_pastStalls (ms : List Meter) (s : State) (n : Fin 58) (hn : 12 ≤ n.val) :
    (ms.foldl (fun s m => stallExpires m s) s).alerts.get n = s.alerts.get n := by
  induction ms generalizing s with
  | nil => rfl
  | cons m ms ih => exact (ih (stallExpires m s)).trans (stallExpires_pastStalls m s n hn)

theorem stallEffect_acts (h : Written s w) (ht : TouchesOnly [.ports] (followFlow s (settingEffect .stallTime w)) t) :
    settingActs .stallTime s t := by
  have heffect : settingEffect .stallTime w = allMeters.foldl (fun s m => stallExpires m s) w := rfl
  have hview := stallView_all w
  have hpast := stallsExpire_pastStalls allMeters w
  have htouch : TouchesOnly [.meters, .alerts] w (allMeters.foldl (fun s m => stallExpires m s) w) :=
    .foldl (fun s m => touches_stallExpires s m) _ _
  rw [heffect] at ht
  generalize allMeters.foldl (fun s m => stallExpires m s) w = u at ht hview hpast htouch
  have hconfig : u.config = w.config := htouch.same .config rfl
  have hflow : ∀ m, flowExpected u m = flowExpected w m :=
    flowExpected_config (congrArg (·.inUse) hconfig) (htouch.same .claims rfl) (htouch.same .flare rfl)
  have htu := h.unfollowed (followFlow_same hflow) ht
  have hconfig : t.config = w.config := (htu.same .config rfl).trans hconfig
  have hmeters : t.meters = u.meters := htu.same .meters rfl
  have halerts : t.alerts = u.alerts := htu.same .alerts rfl
  have hwmeters : w.meters = s.meters := h.same .meters rfl
  have hwalerts : w.alerts = s.alerts := h.same .alerts rfl
  refine ⟨fun m => ?_, fun n hn => ?_, ?_⟩
  · have hiff := stallOver_iff m w
    rw [hwmeters, ← hconfig] at hiff
    have hget : t.meters.get m = (stallExpires m w).meters.get m := hmeters ▸ congrArg Prod.fst (hview m)
    have halert : alertState (.meterStall m) t = alertState (.meterStall m) (stallExpires m w) := by
      rw [alertState, halerts]
      exact congrArg (fun v => v.2.1) (hview m)
    rw [hget, halert]
    refine ⟨fun he => ?_, fun he => ?_⟩
    · rw [stallExpires_stalled (hiff.mpr he)]
      exact ⟨(Tab.get_modify_same _ _ _).trans (congrArg stallMeter (congrArg (·.get m) hwmeters)), alertState_raise _ _⟩
    · rw [stallExpires_early (Bool.eq_false_iff.mpr (hiff.not.mpr he)), alertState, hwmeters, hwalerts]
      exact ⟨rfl, rfl⟩
  · rw [halerts, hpast n hn, hwalerts]
  · have hr := ((h.1.andThen htouch).andThen htu |>.weaken (cs := [.config, .meters, .alerts, .ports]) rfl).restored
    simp only [restore, List.foldr, Block.copy] at hr
    exact hr

end Timers

/-! ## The quality monitor, the sequencer and the totals -/

section Others

variable {s w t : State}

theorem holdEffect_acts (h : Written s w) (hch4 : w.config.defaultCh4 = s.config.defaultCh4)
    (hh2s : w.config.defaultH2s = s.config.defaultH2s) (hb : w.config.bindings = s.config.bindings)
    (ht : TouchesOnly [.ports] (followFlow s (settingEffect .qualityHold w)) t) : settingActs .qualityHold s t := by
  have heffect : settingEffect .qualityHold w = holdExpires w := rfl
  rw [heffect] at ht
  have htu := h.unfollowed (unfollowed ((touches_holdExpires w).weaken rfl)) ht
  have hconfig : t.config = w.config := (htu.same .config rfl).trans ((touches_holdExpires w).same .config rfl)
  have hquality : w.quality = s.quality := h.same .quality rfl
  have halerts : w.alerts = s.alerts := h.same .alerts rfl
  have hpolicy : w.policy = s.policy := h.same .policy rfl
  have hiff := holdOver_iff w
  rw [hquality, ← hconfig] at hiff
  refine ⟨fun he => ?_, fun he => ?_⟩
  · rw [holdExpires_at (hiff.mpr he)] at htu
    obtain ⟨hsame, hactive, hended⟩ := enterSubstituted_alerts w
    have hta : t.alerts = (enterSubstituted w).alerts := htu.same .alerts rfl
    have htq : t.quality = (substitutedQuality w).quality := htu.same .quality rfl
    have htp : t.policy = { w.policy with
        switch := fireBindings w.config.bindings w.policy.active .substituted w.policy.switch } := htu.same .policy rfl
    refine ⟨?_, (congrArg (·.get (alertNumber .qualitySubstituted)) hta).trans hactive,
      (congrArg (·.get (alertNumber .qualityHeld)) hta).trans (alertEnded_of_alerts halerts hended),
      fun n hn => hta ▸ alertsSameBut_of_alerts halerts hsame n hn, ?_, ?_⟩
    · rw [htq, substitutedQuality, hquality, hch4, hh2s]
    · rw [htp, hpolicy, hb]
    · have hr := ((h.1.andThen (touches_enterSubstituted w)).andThen htu |>.weaken
        (cs := [.config, .quality, .alerts, .policy, .ports]) rfl).restored
      simp only [restore, List.foldr, Block.copy] at hr
      exact hr
  · rw [holdExpires_early (Bool.eq_false_iff.mpr (hiff.not.mpr he))] at htu
    have hr := (h.1.andThen htu |>.weaken (cs := [.config, .ports]) rfl).restored
    simp only [restore, List.foldr, Block.copy] at hr
    exact hr

theorem defaultEffect_acts {k : Setting} (hk : k = .defaultCh4 ∨ k = .defaultH2s) (h : Written s w)
    (ht : TouchesOnly [.ports] (followFlow s (settingEffect k w)) t) :
    (s.quality.source = .substituted →
      t.quality = { s.quality with ch4 := t.config.defaultCh4, h2s := t.config.defaultH2s }) ∧
    (s.quality.source ≠ .substituted → t.quality = s.quality) ∧
    { t with config := s.config, quality := s.quality, ports := s.ports } = s := by
  rw [settingEffect_default hk] at ht
  have htouch := touches_followDefaults w
  have htu := h.unfollowed (unfollowed (htouch.weaken rfl)) ht
  have hconfig : t.config = w.config := (htu.same .config rfl).trans (htouch.same .config rfl)
  have hquality : w.quality = s.quality := h.same .quality rfl
  have htq : t.quality = (followDefaults w).quality := htu.same .quality rfl
  refine ⟨fun he => ?_, fun he => ?_, ?_⟩
  · have hsub : followDefaults w = { w with quality :=
        { w.quality with ch4 := w.config.defaultCh4, h2s := w.config.defaultH2s } } := if_pos (hquality ▸ he)
    rw [htq, hsub, hconfig, ← hquality]
  · have hstays : followDefaults w = w := if_neg (hquality ▸ he)
    rw [htq, hstays, hquality]
  · have hr := ((h.1.andThen htouch).andThen htu |>.weaken (cs := [.config, .quality, .ports]) rfl).restored
    simp only [restore, List.foldr, Block.copy] at hr
    exact hr

theorem refitFlare_eq {lo hi : Nat} (hle : lo ≤ hi) (f : Flare) :
    refitFlare lo hi f =
      { f with
        heldDemand := if f.heldDemand = 0 then 0 else Nat.max lo (Nat.min hi f.heldDemand)
        demand := match f.state with
          | .called | .burning => Nat.max lo (Nat.min hi f.demand)
          | .holding => lo
          | .off | .failed => f.demand } := by
  rw [refitFlare, clampNat_eq hle, clampNat_eq hle]
  cases f.state <;> rfl

theorem rangeEffect_acts {k : Setting} (hk : k = .flareMin ∨ k = .flareMax) (h : Written s w)
    (hle : w.config.flareMin ≤ w.config.flareMax) (ht : TouchesOnly [.ports] (followFlow s (settingEffect k w)) t) :
    let fit := fun v => Nat.max t.config.flareMin (Nat.min t.config.flareMax v)
    t.flare = { s.flare with
      heldDemand := if s.flare.heldDemand = 0 then 0 else fit s.flare.heldDemand
      demand := match s.flare.state with
        | .called | .burning => fit s.flare.demand
        | .holding => t.config.flareMin
        | .off | .failed => s.flare.demand } ∧
    { t with config := s.config, flare := s.flare, ports := s.ports } = s := by
  rw [settingEffect_flareRange hk] at ht
  have htouch := touches_withFlare w (refitFlare w.config.flareMin w.config.flareMax)
  have hstate : (withFlare (refitFlare w.config.flareMin w.config.flareMax) w).flare.state = w.flare.state := by
    rw [withFlare_flare, refitFlare_eq hle]
  have htu := h.unfollowed (followFlow_same (flowExpected_congr (by rw [withFlare_config]) (by rw [withFlare_claims]) hstate)) ht
  have hconfig : t.config = w.config := (htu.same .config rfl).trans (htouch.same .config rfl)
  have hflare : w.flare = s.flare := h.same .flare rfl
  have htf : t.flare = refitFlare w.config.flareMin w.config.flareMax w.flare := htu.same .flare rfl
  refine ⟨?_, ?_⟩
  · rw [htf, hconfig, hflare]
    exact refitFlare_eq hle s.flare
  · have hr := ((h.1.andThen htouch).andThen htu |>.weaken (cs := [.config, .flare, .ports]) rfl).restored
    simp only [restore, List.foldr, Block.copy] at hr
    exact hr

theorem ignitionEffect_acts (h : Written s w) (ha : w.config.flareAttempts = s.config.flareAttempts)
    (hb : w.config.bindings = s.config.bindings)
    (ht : TouchesOnly [.ports] (followFlow s (settingEffect .ignitionTimeout w)) t) : settingActs .ignitionTimeout s t := by
  have heffect : settingEffect .ignitionTimeout w = ignitionExpires w := rfl
  rw [heffect] at ht
  have htouch := touches_ignitionExpires w
  have hflow : followFlow w (ignitionExpires w) = ignitionExpires w := by
    cases hover : ignitionOver w with
    | false => rw [ignitionExpires_early hover, followFlow_self]
    | true =>
      rw [ignitionExpires_at hover]
      exact endAttempt_unfollowed hover
  have htu := h.unfollowed hflow ht
  have hconfig : t.config = w.config := (htu.same .config rfl).trans (htouch.same .config rfl)
  have hflare : w.flare = s.flare := h.same .flare rfl
  have halerts : w.alerts = s.alerts := h.same .alerts rfl
  have hpolicy : w.policy = s.policy := h.same .policy rfl
  have hta : t.alerts = (ignitionExpires w).alerts := htu.same .alerts rfl
  have htf : t.flare = (ignitionExpires w).flare := htu.same .flare rfl
  have htp : t.policy = (ignitionExpires w).policy := htu.same .policy rfl
  have hiff := ignitionOver_iff w
  rw [hflare, ← hconfig] at hiff
  refine ⟨fun he hlt => ?_, fun he hle => ?_, fun he => ?_, ?_⟩
  · rw [ignitionExpires_at (hiff.mpr he)] at hta htf htp
    obtain ⟨hf, hretry, hsame, hpol⟩ := endAttempt_below (s := w) (by rw [hflare, ha]; exact hlt)
    refine ⟨?_, (congrArg (·.get (alertNumber .flareRetry)) hta).trans hretry,
      fun n hn => hta ▸ alertsSameBut_of_alerts halerts hsame n hn, htp.trans (hpol.trans hpolicy)⟩
    rw [htf, hf, hflare, retried, ← he.1]
  · rw [ignitionExpires_at (hiff.mpr he)] at hta htf htp
    obtain ⟨hf, hended, hfailed, -, hpol⟩ := endAttempt_last (s := w) (by rw [hflare, ha]; exact hle)
    refine ⟨?_, (congrArg (·.get (alertNumber .flareRetry)) hta).trans (alertEnded_of_alerts halerts hended),
      (congrArg (·.get (alertNumber .flareFailed)) hta).trans hfailed,
      fun n hn => hta ▸ alertsSameBut_of_alerts halerts (endAttempt_sameBut w) n hn, ?_⟩
    · rw [htf, hf, hflare, gaveUp]
    · rw [htp, hpol, hpolicy, hb]
  · rw [ignitionExpires_early (Bool.eq_false_iff.mpr (hiff.not.mpr he))] at hta htf htp
    exact ⟨htf.trans hflare, hta.trans halerts, htp.trans hpolicy⟩
  · have hr := ((h.1.andThen htouch).andThen htu |>.weaken (cs := [.config, .flare, .alerts, .policy, .ports]) rfl).restored
    simp only [restore, List.foldr, Block.copy] at hr
    exact hr

theorem minBurnEffect_acts (h : Written s w)
    (ht : TouchesOnly [.ports] (followFlow s (settingEffect .minBurn w)) t) : settingActs .minBurn s t := by
  have heffect : settingEffect .minBurn w = minBurnExpires w := rfl
  rw [heffect] at ht
  have htouch := touches_minBurnExpires w
  have hflow : followFlow w (minBurnExpires w) = minBurnExpires w := by
    cases hover : minBurnOver w with
    | false => rw [minBurnExpires_early hover, followFlow_self]
    | true =>
      have hholding : w.flare.state ≠ .burning := by simp [((minBurnOver_iff w).mp hover).1]
      rw [minBurnExpires_at hover]
      exact flare_unfollowed ((touches_withFlare w toOff).weaken rfl) hholding (by simp [toOff])
  have htu := h.unfollowed hflow ht
  have hconfig : t.config = w.config := (htu.same .config rfl).trans (htouch.same .config rfl)
  have hflare : w.flare = s.flare := h.same .flare rfl
  have htf : t.flare = (minBurnExpires w).flare := htu.same .flare rfl
  have hiff := minBurnOver_iff w
  rw [hflare, ← hconfig] at hiff
  refine ⟨fun he => ?_, fun he => ?_, ?_⟩
  · rw [htf, minBurnExpires_at (hiff.mpr he), withFlare_flare, hflare, toOff]
  · rw [htf, minBurnExpires_early (Bool.eq_false_iff.mpr (hiff.not.mpr he)), hflare]
  · have hr := ((h.1.andThen htouch).andThen htu |>.weaken (cs := [.config, .flare, .ports]) rfl).restored
    simp only [restore, List.foldr, Block.copy] at hr
    exact hr

theorem hourEffect_acts (h : Written s w)
    (ht : TouchesOnly [.ports] (followFlow s (settingEffect .gasDayHour w)) t) : settingActs .gasDayHour s t := by
  obtain ⟨u, hu⟩ : ∃ u, settingEffect .gasDayHour w = u := ⟨_, rfl⟩
  have hut : u.totals = { w.totals with hourCopy := w.config.gasDayHour, checkAgrees := true } := hu ▸ rfl
  have htouch : TouchesOnly [.totals] w u := hu ▸ .of_restore rfl
  rw [hu] at ht
  have hconfig : u.config = w.config := htouch.same .config rfl
  have htu := h.unfollowed (followFlow_same (flowExpected_config (congrArg (·.inUse) hconfig) (htouch.same .claims rfl)
    (htouch.same .flare rfl))) ht
  have htc : t.config = w.config := (htu.same .config rfl).trans hconfig
  have htt : t.totals = u.totals := htu.same .totals rfl
  have hwt : w.totals = s.totals := h.same .totals rfl
  refine ⟨?_, ?_⟩
  · rw [htt, hut, hwt, htc]
  · have hr := ((h.1.andThen htouch).andThen htu |>.weaken (cs := [.config, .totals, .ports]) rfl).restored
    simp only [restore, List.foldr, Block.copy] at hr
    exact hr

end Others

/-- What a written setting does at once is what the manual gives for it. -/
theorem settingEffect_acts {k : Setting} {v : Int} {s w t : State} (hw : w = { s with config := putSetting s.config v k })
    (hpair : pairHolds (putSetting s.config v k) k = true) (hs : WithheldAccounted s)
    (ht : TouchesOnly [.ports] (followFlow s (settingEffect k w)) t) : settingActs k s t := by
  have h : Written s w := by
    subst hw
    exact ⟨touches_config s _, (putSetting_rest s.config v k).2.1⟩
  cases k with
  | lease => exact leaseEffect_acts h hs ht
  | startTimeout => exact startEffect_acts h hs ht
  | stallTime => exact stallEffect_acts h ht
  | qualityHold => exact holdEffect_acts h (by rw [hw]; rfl) (by rw [hw]; rfl) (by rw [hw]; rfl) ht
  | defaultCh4 => exact defaultEffect_acts (.inl rfl) h ht
  | defaultH2s => exact defaultEffect_acts (.inr rfl) h ht
  | flareMin => exact rangeEffect_acts (.inl rfl) h (by rw [hw]; simpa [pairHolds] using hpair) ht
  | flareMax => exact rangeEffect_acts (.inr rfl) h (by rw [hw]; simpa [pairHolds] using hpair) ht
  | ignitionTimeout => exact ignitionEffect_acts h (by rw [hw]; rfl) (by rw [hw]; rfl) ht
  | minBurn => exact minBurnEffect_acts h ht
  | gasDayHour => exact hourEffect_acts h ht
  | _ => exact frame_of_written h ht

end Sys2Proof.Machine
end

section
/-! CONFIGURE of a setting, a meter factor and a channel's range (R11, R31, R175). -/

namespace Sys2Proof.Machine

open Sys2Proof

section Setting

variable {k : Setting} {value v : Int} {s t : State}

theorem serveSetting_refused (hv : clampInt (settingRange k).1 (settingRange k).2 value = v)
    (h : pairHolds (putSetting s.config v k) k = false) :
    serveSetting k value s = { state := s, status := .refusedState } := by
  simp only [serveSetting, hv, h, Bool.not_false, if_true]

theorem serveSetting_kept (hv : clampInt (settingRange k).1 (settingRange k).2 value = v)
    (h : pairHolds (putSetting s.config v k) k = true) (heq : v = readSetting s.config k) :
    serveSetting k value s = { state := s, status := doneOr (v ≠ value) } := by
  rw [heq] at hv h
  simp only [serveSetting, hv, h, heq, Bool.not_true, Bool.false_eq_true, if_false, if_true]

theorem serveSetting_written (hv : clampInt (settingRange k).1 (settingRange k).2 value = v)
    (h : pairHolds (putSetting s.config v k) k = true) (hne : v ≠ readSetting s.config k) :
    serveSetting k value s =
      { state := settingEffect k { s with config := putSetting s.config v k }, status := doneOr (v ≠ value) } := by
  simp only [serveSetting, hv, h, hne, Bool.not_true, Bool.false_eq_true, if_false]

theorem itemOf_setting {item : Nat} (h : settingOf item = some k) : itemOf item = some (.setting k) := by
  simp only [itemOf, h]

/-- The blocks a written setting leaves alone. -/
theorem setting_leaves (h : TouchesOnly (.config :: settingBlocks ++ [.meters, .alerts] ++ [.ports]) s t) :
    t.store = s.store ∧ t.holder = s.holder ∧ t.channels = s.channels ∧ t.contacts = s.contacts ∧
      t.balance = s.balance ∧ t.normalizer = s.normalizer ∧ t.loops = s.loops :=
  ⟨h.same .store rfl, h.same .holder rfl, h.same .channels rfl, h.same .contacts rfl, h.same .balance rfl,
    h.same .normalizer rfl, h.same .loops rfl⟩

theorem frame_of_answer (h : TouchesOnly [.ports] s t) : { t with ports := s.ports } = s := by
  have hr := h.restored
  simp only [restore, List.foldr, Block.copy] at hr
  exact hr

theorem frame_of_configured (h : TouchesOnly [.config, .ports] s t) :
    { t with config := s.config, ports := s.ports } = s := by
  have hr := h.restored
  simp only [restore, List.foldr, Block.copy] at hr
  exact hr

end Setting

section Items

theorem itemOf_factor : ∀ m : Meter, itemOf (0x101 + m.val) = some (.factor m) := by decide

theorem itemOf_range : ∀ (a : Channel) (high : Bool),
    itemOf ((if high then 0x131 else 0x121) + a.val) = some (.range a high) := by decide

theorem fullRange_ordered : ∀ a : Channel, (fullRanges.get a).lo ≤ (fullRanges.get a).hi := by decide

end Items

/-- Settles O53: the item's own serving is taken apart by what it tests, and `settingEffect_acts` says what a written
setting does. -/
theorem configureWritesOneClampedSetting : Obligations.ConfigureWritesOneClampedSetting := by
  intro item value s hs
  refine ⟨fun h => answeredUnchanged_served rfl hs rfl (serveConfigure_busy h),
    fun h hg hb hi => answeredUnchanged_served rfl hs rfl (serveConfigure_unknown h hg hb hi),
    fun h hg hb k hk => ?setting, fun h m hm => ?factor, fun h a high hm => ?range⟩
  case setting =>
    intro v
    have hv : clampInt (settingRange k).1 (settingRange k).2 value = v := clampInt_eq (settingRange_ordered k) value
    have hwithin : within (settingRange k).1 (settingRange k).2 v := hv ▸ clampInt_bounds (settingRange_ordered k) value
    clear_value v
    have hserve : serveConfigure item value s = serveSetting k value s := serveConfigure_item h hg hb (itemOf_setting hk)
    refine ⟨fun hpair => answeredUnchanged_served rfl hs rfl (hserve.trans (serveSetting_refused hv hpair)),
      fun hpair => ?_⟩
    by_cases heq : v = readSetting s.config k
    · obtain ⟨t, ht, hst, hp, htt⟩ := request_answers_unfollowed (i := .configure 0 item value) rfl hs rfl
        (hserve.trans (serveSetting_kept hv hpair heq)) rfl fun _ => rfl
      rw [doneOr_ne] at hst
      exact ⟨t, ht, hst, hp, fun hne => absurd heq hne, fun _ => frame_of_answer htt, fun _ hne => absurd heq hne,
        setting_leaves (htt.weaken rfl)⟩
    · have htouch := touches_settingEffect { s with config := putSetting s.config v k } k
      obtain ⟨t, ht, hst, hp, htt⟩ := request_answers (i := .configure 0 item value) rfl hs rfl
        (hserve.trans (serveSetting_written hv hpair heq)) (htouch.same .ports rfl)
      rw [doneOr_ne] at hst
      obtain ⟨w, hw⟩ : ∃ w, w = { s with config := putSetting s.config v k } := ⟨_, rfl⟩
      have hwritten : TouchesOnly [.config] s w := hw ▸ touches_config s _
      have hwconfig : w.config = putSetting s.config v k := by rw [hw]
      rw [← hw] at htouch htt
      have hconfig : t.config = putSetting s.config v k :=
        (htt.same .config rfl).trans ((htouch.same .config rfl).trans hwconfig)
      refine ⟨t, ht, hst, hp, fun _ => ⟨hconfig, fun hacc => settingEffect_acts hw hpair hacc htt⟩,
        fun e => absurd e heq, fun hhour _ => ?_,
        setting_leaves ((((hwritten.andThen htouch).andThen (touches_followFlow s _)).andThen htt).weaken rfl)⟩
      subst hhour
      have hacts := hourEffect_acts ⟨hwritten, by rw [hwconfig]; rfl⟩ htt
      rw [hacts.1, hconfig]
      rfl
  case factor =>
    intro v
    have hv : clampInt 1 100000 value = v := clampInt_eq (by decide) value
    clear_value v
    subst hm
    obtain ⟨hg, hb⟩ := not_bankItem (item := 0x101 + m.val) (by omega)
    have hserve : serveConfigure (0x101 + m.val) value s =
        { state := { s with config := { s.config with factors := s.config.factors.set m v.toNat } }
          status := doneOr (v ≠ value) } := by
      rw [serveConfigure_item h hg hb (itemOf_factor m), ← hv]
      rfl
    obtain ⟨t, ht, hst, hp, htt⟩ := request_answers_unfollowed (i := .configure 0 (0x101 + m.val) value) rfl hs rfl
      hserve rfl (flowExpected_config rfl rfl rfl)
    rw [doneOr_ne] at hst
    exact ⟨t, ht, hst, hp, htt.same .config rfl,
      frame_of_configured (((touches_config s _).andThen htt).weaken rfl)⟩
  case range =>
    intro v lo hi
    have hv : clampInt (fullRanges.get a).lo (fullRanges.get a).hi value = v := clampInt_eq (fullRange_ordered a) value
    have hnew : rangeWith (s.config.ranges.get a) high v = ⟨lo, hi⟩ := by
      simp only [lo, hi]
      cases high <;> rfl
    clear_value v lo hi
    subst hm
    obtain ⟨hg, hb⟩ := not_bankItem (item := (if high then 0x131 else 0x121) + a.val) (by split <;> omega)
    have hserve := serveConfigure_item (value := value) h hg hb (itemOf_range a high)
    rw [serveItem, serveRange_eq] at hserve
    simp only [hv, hnew] at hserve
    refine ⟨fun hle => answeredUnchanged_served rfl hs rfl (hserve.trans (if_neg (by omega))), fun hlt => ?_⟩
    obtain ⟨t, ht, hst, hp, htt⟩ := request_answers_unfollowed
      (i := .configure 0 ((if high then 0x131 else 0x121) + a.val) value) rfl hs rfl (hserve.trans (if_pos hlt)) rfl
      (flowExpected_config rfl rfl rfl)
    rw [doneOr_ne] at hst
    exact ⟨t, ht, hst, hp, htt.same .config rfl,
      frame_of_configured (((touches_config s _).andThen htt).weaken rfl)⟩

end Sys2Proof.Machine
end

section
/-! What is due on an empty queue, and the millisecond that passes where nothing is. -/

namespace Sys2Proof.Machine

open Sys2Proof

/-! ## Requests from their frames (R157) -/

section Parse

variable {i : Instr} {l : Link} {code : Nat} {payload : List Byte}

/-- Whatever a parser answers is a request of the code table. -/
def Requests (o : Option Instr) : Prop := ∀ i, o = some i → encodeRequest i ≠ none

theorem requests_none : Requests none := nofun

theorem requests_some {j : Instr} (hj : encodeRequest j ≠ none) : Requests (some j) := fun _ h => Option.some.inj h ▸ hj

theorem requests_map {α : Type} (o : Option α) {f : α → Instr} (hf : ∀ x, encodeRequest (f x) ≠ none) : Requests (o.map f) := by
  intro i h
  obtain ⟨x, -, rfl⟩ := Option.map_eq_some_iff.mp h
  exact hf x

/-- A payload of the length a code asks for spells its request, any other none. -/
theorem requests_parseConsumer (l : Link) (payload : List Byte) (h : 0x10 ≤ code) (h' : code ≤ 0x14) :
    Requests (parseConsumer l code payload) := by
  interval_cases code <;> rcases payload with _ | ⟨a, _ | ⟨b, _ | ⟨c, _ | ⟨d, _ | ⟨e, _ | ⟨f, _ | ⟨g, p⟩⟩⟩⟩⟩⟩⟩ <;>
    first
      | exact requests_none
      | exact requests_some nofun
      | exact requests_map _ nofun

theorem requests_parseFlareStatus (l : Link) (payload : List Byte) : Requests (parseFlareStatus l payload) := by
  unfold parseFlareStatus
  split
  · split
    · exact requests_some (by simp [encodeRequest])
    · exact requests_none
  · exact requests_none

theorem requests_parseWriteRow (l : Link) (payload : List Byte) : Requests (parseWriteRow l payload) := by
  unfold parseWriteRow
  split
  · exact requests_map _ fun _ => by simp [encodeRequest]
  · exact requests_none

theorem encodes_configureRequest (l : Link) (item : Nat) (value : Int) :
    encodeRequest (configureRequest l item value) ≠ none := by
  unfold configureRequest
  split
  · simp [encodeRequest]
  · split <;> simp [encodeRequest]

theorem requests_parseWrite (l : Link) (payload : List Byte) (h : 0x30 ≤ code) (h' : code ≤ 0x3A) :
    Requests (parseWrite l code payload) := by
  by_cases hrow : code = 0x31
  · subst hrow
    exact requests_parseWriteRow l payload
  · interval_cases code <;> rcases payload with _ | ⟨a, _ | ⟨b, _ | ⟨c, _ | ⟨d, _ | ⟨e, _ | ⟨f, _ | ⟨g, p⟩⟩⟩⟩⟩⟩⟩ <;>
      first
        | exact absurd rfl hrow
        | exact requests_none
        | exact requests_some (encodes_configureRequest _ _ _)
        | exact requests_some nofun
        | exact requests_map _ nofun

theorem requests_parseRead (l : Link) (payload : List Byte) (h : 0x40 ≤ code) (h' : code ≤ 0x46) :
    Requests (parseRead l code payload) := by
  interval_cases code <;>
    rcases payload with _ | ⟨a, _ | ⟨b, _ | ⟨c, _ | ⟨d, _ | ⟨e, _ | ⟨f, _ | ⟨g, _ | ⟨k, p⟩⟩⟩⟩⟩⟩⟩⟩ <;>
    first
      | exact requests_none
      | exact requests_some (by simp [encodeRequest])

theorem requests_parseReadStatus (l : Link) (payload : List Byte) : Requests (parseReadStatus l payload) := by
  unfold parseReadStatus
  split <;> split
  · exact requests_some (by simp [encodeRequest])
  · exact requests_none
  · exact requests_some (by simp [encodeRequest])
  · exact requests_none

/-- What a frame of a known code spells is a request of the code table. -/
theorem requests_parseRequest (l : Link) (payload : List Byte) (h : codeKnown code = true) :
    Requests (parseRequest l code payload) := by
  simp only [codeKnown, Bool.or_eq_true, Bool.and_eq_true, decide_eq_true_eq] at h
  unfold parseRequest
  split_ifs
  · exact requests_parseReadStatus l payload
  · exact requests_parseConsumer l payload (by omega) (by omega)
  · exact requests_parseFlareStatus l payload
  · exact requests_parseWrite l payload (by omega) (by omega)
  · exact requests_parseRead l payload (by omega) (by omega)

theorem encodes_checkRequest (h : checkRequest l code payload = .request i) : encodeRequest i ≠ none := by
  unfold checkRequest at h
  split_ifs at h with hk
  split at h
  · cases h
  · next hp =>
    cases h
    exact requests_parseRequest l payload (by simpa using hk) _ hp

end Parse

/-! ## Each list of due events, by its test -/

section Lists

variable {s : State} {i : Instr}

theorem mem_dueIf {p : Bool} {j : Instr} : i ∈ dueIf p j ↔ p = true ∧ i = j := by
  cases p <;> simp [dueIf]

theorem mem_dueField : i ∈ dueField s ↔
    (∃ m, stallOver m s = true ∧ i = .stallTimerExpiry m) ∨ ∃ k, debounceOver k s = true ∧ i = .debounceExpiry k := by
  have hm : ∀ m : Meter, m ∈ allMeters := by decide
  have hk : ∀ k : Contact, k ∈ ([conK1, conK2, conK3, conK4] : List Contact) := by decide
  simp only [dueField, List.mem_append, List.mem_flatMap, mem_dueIf, hm, hk, true_and]

theorem mem_dueClaims : i ∈ allSlots.flatMap (dueClaim s) ↔
    (∃ c, leaseOver c s = true ∧ i = .leaseTimerExpiry c) ∨ ∃ c, startOver c s = true ∧ i = .startTimerExpiry c := by
  simp only [List.mem_flatMap, dueClaim, List.mem_append, mem_dueIf, mem_allSlots, true_and, exists_or]

theorem mem_dueFlare : i ∈ dueFlare s ↔
    (ignitionOver s = true ∧ i = .ignitionTimerExpiry) ∨ (minBurnOver s = true ∧ i = .minimumBurnTimerExpiry) ∨
      1000 ≤ s.flare.burnMs ∧ i = .burnTimeSecond := by
  simp only [dueFlare, List.mem_append, mem_dueIf, decide_eq_true_eq, or_assoc]

theorem mem_dueStore : i ∈ dueStore s ↔
    (timerAtLeast s.store.saving (Nat.min Config.saveMs longestSave) = true ∧ i = .saveEnd) ∨
      restartReady s = true ∧ i = .restartTakesPlace s.loops := by
  simp only [dueStore, List.mem_append, mem_dueIf]

theorem mem_duePass : i ∈ duePass s ↔
    (∃ p, s.balance.pass = some p ∧ stageMoment p ≤ s.balance.timer ∧ i = nextStage s.loops p) ∨
      passOver s = true ∧ i = .passTimerExpiry := by
  unfold duePass
  cases hp : s.balance.pass with
  | none => simp [mem_dueIf]
  | some p => simp [mem_dueIf, passOver, hp]

theorem mem_dueRequest {l : Link} {h : HeldRequest} : i ∈ dueRequest l h ↔
    checkRequest l h.code h.payload = .request i ∨
      checkRequest l h.code h.payload = .unknownCode ∧ i = .unknownRequest l h.code := by
  unfold dueRequest
  cases hc : checkRequest l h.code h.payload <;> simp [eq_comm]

theorem mem_duePort {l : Link} : i ∈ duePort s l ↔
    ((s.ports.get l).state = .receive ∧
      (frameComplete (s.ports.get l).body = true ∧ i = .frameReceived l ∨
        frameComplete (s.ports.get l).body = false ∧ HasRun (s.ports.get l).gap 6 ∧ i = .gapTimerExpiry l)) ∨
    ((s.ports.get l).state = .hold ∧ ∃ h, (s.ports.get l).held = some h ∧ i ∈ dueRequest l h) ∨
    (s.ports.get l).state = .send ∧ (∀ a, (s.ports.get l).answer = some a → HasRun (s.ports.get l).sending (sendMs l a)) ∧
      i = .answerSent l := by
  unfold duePort
  generalize s.ports.get l = p
  cases hst : p.state with
  | hunt => simp [hst]
  | receive =>
    by_cases hf : frameComplete p.body = true
    · simp [hst, hf]
    · simp [hf, mem_dueIf, gapOver, hst, timerAtLeast_iff]
  | hold => cases hh : p.held <;> simp [hst, hh]
  | send => cases ha : p.answer <;> simp [hst, ha, mem_dueIf, timerAtLeast_iff]

theorem mem_duePorts : i ∈ allLinks.flatMap (duePort s) ↔ ∃ l, i ∈ duePort s l := by
  have hl : ∀ l : Link, l ∈ allLinks := by decide
  simp only [List.mem_flatMap, hl, true_and]

theorem mem_due : i ∈ due s ↔ (1000 ≤ s.totals.clockMs ∧ i = .clockSecond) ∨ s.supplied = true ∧ i ∈ dueBlocks s := by
  cases hs : s.supplied <;> simp [due, mem_dueIf, hs]

theorem mem_dueBlocks : i ∈ dueBlocks s ↔
    i ∈ dueField s ∨ (holdOver s = true ∧ i = .holdTimerExpiry) ∨ i ∈ allSlots.flatMap (dueClaim s) ∨ i ∈ dueFlare s ∨
      i ∈ duePass s ∨ i ∈ allLinks.flatMap (duePort s) ∨ i ∈ dueStore s := by
  simp only [dueBlocks, List.mem_append, mem_dueIf, or_assoc]

end Lists

/-! ## What is due (notes/assumptions/2.md) -/

section Due

variable {s : State} {i : Instr}

/-- A request is due where a port holds it. -/
theorem dueNow_request (h : encodeRequest i ≠ none) :
    dueNow s i ↔ s.supplied = true ∧ ∃ l k, (s.ports.get l).state = .hold ∧ (s.ports.get l).held = some k ∧
      checkRequest l k.code k.payload = .request i := by
  cases i
  all_goals first
    | exact absurd rfl h
    | rfl

theorem stage_due {p : Pass} (hs : s.supplied = true) (hp : s.balance.pass = some p)
    (hms : stageMoment p ≤ s.balance.timer) : dueNow s (nextStage s.loops p) := by
  cases hst : p.stage with
  | pushing =>
    have hmoment : 6 + p.decisions.pushed.length ≤ s.balance.timer := by simpa [stageMoment, hst] using hms
    cases hpush : p.decisions.toPush with
    | nil =>
      rw [nextStage, hst]
      simp only [hpush, List.isEmpty_nil, if_true]
      exact ⟨hs, p, hp, hst, hpush, hmoment⟩
    | cons d ds =>
      rw [nextStage, hst]
      simp only [hpush, List.isEmpty_cons, Bool.false_eq_true, if_false]
      exact ⟨hs, p, hp, hst, by simp [hpush], hmoment⟩
  | banked =>
    rw [nextStage, hst]
    exact ⟨rfl, hs, p, hp, hst, trivial, by simpa [stageMoment, hst] using hms⟩
  | _ =>
    rw [nextStage, hst]
    exact ⟨hs, p, hp, hst, trivial, by simpa [stageMoment, hst] using hms⟩

theorem port_due {l : Link} (hs : s.supplied = true) (h : i ∈ duePort s l) : dueNow s i := by
  rw [mem_duePort] at h
  obtain ⟨hst, ⟨hf, rfl⟩ | ⟨hf, hgap, rfl⟩⟩ | ⟨hst, k, hk, hi⟩ | ⟨hst, ha, rfl⟩ := h
  · exact ⟨hs, hst, hf⟩
  · exact ⟨hs, hst, hf, hgap⟩
  · obtain hreq | ⟨hreq, rfl⟩ := mem_dueRequest.mp hi
    · exact (dueNow_request (encodes_checkRequest hreq)).mpr ⟨hs, l, k, hst, hk, hreq⟩
    · exact ⟨hs, hst, k, hk, rfl, hreq⟩
  · exact ⟨hs, hst, ha⟩

theorem restart_due : restartReady s = true ↔ s.restartPending = true ∧ s.store.saving = none ∧
    ¬((s.ports.get 0).state = .send ∧ ∃ a, (s.ports.get 0).answer = some a ∧ a.code = 0x46 ∧ a.status = .done) := by
  rw [restartReady_iff, ← Bool.not_eq_true, sendsRestart_iff]

/-- Every event the model lists is due. -/
theorem dueNow_of_mem (h : i ∈ due s) : dueNow s i := by
  obtain ⟨hms, rfl⟩ | ⟨hs, hi⟩ := mem_due.mp h
  · exact hms
  · obtain hfield | ⟨hold, rfl⟩ | hclaims | hflare | hpass | hports | hstore := mem_dueBlocks.mp hi
    · obtain ⟨m, hm, rfl⟩ | ⟨k, hk, rfl⟩ := mem_dueField.mp hfield
      · exact ⟨hs, (stallOver_iff m s).mp hm⟩
      · exact ⟨hs, (debounceOver_iff k s).mp hk⟩
    · exact ⟨hs, (holdOver_iff s).mp hold⟩
    · obtain ⟨c, hc, rfl⟩ | ⟨c, hc, rfl⟩ := mem_dueClaims.mp hclaims
      · exact ⟨hs, (leaseOver_iff c s).mp hc⟩
      · exact ⟨hs, (startOver_iff c s).mp hc⟩
    · obtain ⟨hf, rfl⟩ | ⟨hf, rfl⟩ | ⟨hf, rfl⟩ := mem_dueFlare.mp hflare
      · exact ⟨hs, (ignitionOver_iff s).mp hf⟩
      · exact ⟨hs, (minBurnOver_iff s).mp hf⟩
      · exact ⟨hs, hf⟩
    · obtain ⟨p, hp, hms, rfl⟩ | ⟨hp, rfl⟩ := mem_duePass.mp hpass
      · exact stage_due hs hp hms
      · exact ⟨hs, (passOver_iff s).mp hp⟩
    · obtain ⟨l, hl⟩ := mem_duePorts.mp hports
      exact port_due hs hl
    · obtain ⟨hsave, rfl⟩ | ⟨hready, rfl⟩ := mem_dueStore.mp hstore
      · exact ⟨hs, (timerAtLeast_iff _ _).mp hsave⟩
      · obtain ⟨hp, hsave, hsends⟩ := restart_due.mp hready
        exact ⟨rfl, hs, hp, hsave, hsends⟩

/-- A stage that is due is the next one of the pass. -/
theorem mem_due_of_stage {p : Pass} (hs : s.supplied = true) (hp : s.balance.pass = some p)
    (hms : stageMoment p ≤ s.balance.timer) (hi : i = nextStage s.loops p) : i ∈ due s :=
  mem_due.mpr (.inr ⟨hs, mem_dueBlocks.mpr (.inr (.inr (.inr (.inr (.inl (mem_duePass.mpr (.inl ⟨p, hp, hms, hi⟩)))))))⟩)

theorem mem_due_of_port {l : Link} (hs : s.supplied = true) (h : i ∈ duePort s l) : i ∈ due s :=
  mem_due.mpr (.inr ⟨hs, mem_dueBlocks.mpr (.inr (.inr (.inr (.inr (.inr (.inl (mem_duePorts.mpr ⟨l, h⟩)))))))⟩)

theorem mem_due_of_block (hs : s.supplied = true)
    (h : i ∈ dueField s ∨ (holdOver s = true ∧ i = .holdTimerExpiry) ∨ i ∈ allSlots.flatMap (dueClaim s) ∨ i ∈ dueFlare s ∨
      i ∈ duePass s ∨ i ∈ allLinks.flatMap (duePort s) ∨ i ∈ dueStore s) : i ∈ due s :=
  mem_due.mpr (.inr ⟨hs, mem_dueBlocks.mpr h⟩)

/-- Every event that is due is listed. -/
theorem mem_of_dueNow (h : dueNow s i) : i ∈ due s := by
  by_cases hreq : encodeRequest i = none
  · cases i with
    | clockSecond => exact mem_due.mpr (.inl ⟨h, rfl⟩)
    | stallTimerExpiry m =>
      exact mem_due_of_block h.1 (.inl (mem_dueField.mpr (.inl ⟨m, (stallOver_iff m s).mpr h.2, rfl⟩)))
    | debounceExpiry k =>
      exact mem_due_of_block h.1 (.inl (mem_dueField.mpr (.inr ⟨k, (debounceOver_iff k s).mpr h.2, rfl⟩)))
    | holdTimerExpiry => exact mem_due_of_block h.1 (.inr (.inl ⟨(holdOver_iff s).mpr h.2, rfl⟩))
    | leaseTimerExpiry c =>
      exact mem_due_of_block h.1 (.inr (.inr (.inl (mem_dueClaims.mpr (.inl ⟨c, (leaseOver_iff c s).mpr h.2, rfl⟩)))))
    | startTimerExpiry c =>
      exact mem_due_of_block h.1 (.inr (.inr (.inl (mem_dueClaims.mpr (.inr ⟨c, (startOver_iff c s).mpr h.2, rfl⟩)))))
    | ignitionTimerExpiry =>
      exact mem_due_of_block h.1 (.inr (.inr (.inr (.inl (mem_dueFlare.mpr (.inl ⟨(ignitionOver_iff s).mpr h.2, rfl⟩))))))
    | minimumBurnTimerExpiry =>
      exact mem_due_of_block h.1
        (.inr (.inr (.inr (.inl (mem_dueFlare.mpr (.inr (.inl ⟨(minBurnOver_iff s).mpr h.2, rfl⟩)))))))
    | burnTimeSecond =>
      exact mem_due_of_block h.1 (.inr (.inr (.inr (.inl (mem_dueFlare.mpr (.inr (.inr ⟨h.2, rfl⟩)))))))
    | passTimerExpiry =>
      exact mem_due_of_block h.1
        (.inr (.inr (.inr (.inr (.inl (mem_duePass.mpr (.inr ⟨(passOver_iff s).mpr h.2, rfl⟩)))))))
    | sampleStage amps =>
      obtain ⟨rfl, hs, p, hp, hst, -, hms⟩ := h
      exact mem_due_of_stage hs hp (by simpa [stageMoment, hst] using hms) (by simp [nextStage, hst])
    | shedPush =>
      obtain ⟨hs, p, hp, hst, hpush, hms⟩ := h
      exact mem_due_of_stage hs hp (by simpa [stageMoment, hst] using hms) (by simp [nextStage, hst, hpush])
    | restoreStage =>
      obtain ⟨hs, p, hp, hst, hpush, hms⟩ := h
      exact mem_due_of_stage hs hp (by simpa [stageMoment, hst] using hms) (by simp [nextStage, hst, hpush])
    | measureStage | holderStage | snapshotStage | shortfallStage | pop | admissionStage | allotmentStage | flareStage
    | applyStage =>
      obtain ⟨hs, p, hp, hst, -, hms⟩ := h
      exact mem_due_of_stage hs hp (by simpa [stageMoment, hst] using hms) (by simp [nextStage, hst])
    | frameReceived l =>
      obtain ⟨hs, hst, hf⟩ := h
      exact mem_due_of_port (l := l) hs (mem_duePort.mpr (.inl ⟨hst, .inl ⟨hf, rfl⟩⟩))
    | gapTimerExpiry l =>
      obtain ⟨hs, hst, hf, hgap⟩ := h
      exact mem_due_of_port (l := l) hs (mem_duePort.mpr (.inl ⟨hst, .inr ⟨hf, hgap, rfl⟩⟩))
    | answerSent l =>
      obtain ⟨hs, hst, ha⟩ := h
      exact mem_due_of_port (l := l) hs (mem_duePort.mpr (.inr (.inr ⟨hst, ha, rfl⟩)))
    | unknownRequest l code =>
      obtain ⟨hs, hst, k, hk, rfl, hc⟩ := h
      exact mem_due_of_port (l := l) hs
        (mem_duePort.mpr (.inr (.inl ⟨hst, k, hk, mem_dueRequest.mpr (.inr ⟨hc, rfl⟩)⟩)))
    | saveEnd =>
      exact mem_due_of_block h.1 (.inr (.inr (.inr (.inr (.inr (.inr (mem_dueStore.mpr
        (.inl ⟨(timerAtLeast_iff _ _).mpr h.2, rfl⟩))))))))
    | restartTakesPlace amps =>
      obtain ⟨rfl, hs, hp, hsave, hsends⟩ := h
      exact mem_due_of_block hs (.inr (.inr (.inr (.inr (.inr (.inr (mem_dueStore.mpr
        (.inr ⟨restart_due.mpr ⟨hp, hsave, hsends⟩, rfl⟩))))))))
    | _ =>
      obtain ⟨-, l, k, -, -, hc⟩ := h
      exact absurd hreq (encodes_checkRequest hc)
  · obtain ⟨hs, l, k, hst, hk, hc⟩ := (dueNow_request hreq).mp h
    exact mem_due_of_port (l := l) hs (mem_duePort.mpr (.inr (.inl ⟨hst, k, hk, mem_dueRequest.mpr (.inl hc)⟩)))

end Due

/-! ## The millisecond (R5, R15, R19, R23, R61, R67, R83, R128, R131, R136, R153, R156, R168, R176) -/

theorem burns_iff (f : Flare) : burns f = true ↔ f.state = .burning ∨ f.state = .holding := by simp [burns]

theorem tick_millisecond (s : State) : millisecondPasses s (tick s) := by
  obtain ⟨hs, ht⟩ | ⟨hs, ht⟩ := tick_cases s
  · rw [ht]
    refine ⟨rfl, fun hno => absurd (hs.symm.trans hno) (by simp), fun _ => ⟨fun m => Tab.get_gen _ _,
      fun k => Tab.get_gen _ _, rfl, fun c => Tab.get_gen _ _, ?_, rfl, fun l => Tab.get_gen _ _, rfl, rfl⟩⟩
    simp only [advanceBlocks, Flare.mk.injEq, Timer.advance, burns_iff, true_and, and_true]
    split_ifs <;> rfl
  · rw [ht]
    exact ⟨rfl, fun _ => rfl, fun hyes => absurd (hyes.symm.trans hs) (by simp)⟩

/-- Settles O2: the model's list of due events holds what `dueNow` says and nothing else. -/
theorem emptyQueueLetsTimePass : Obligations.EmptyQueueLetsTimePass := by
  intro s hq
  refine ⟨fun ⟨i, hi⟩ => ?_, fun hnone => ?_⟩
  · obtain ⟨j, hj, hidle⟩ := idle_of_due (List.ne_nil_of_mem (mem_of_dueNow hi))
    refine ⟨_, j, (step_empty hq).trans (by rw [hidle]), dueNow_of_mem hj, rfl, ?_⟩
    rw [← hq]
  · have hdue : due s = [] := List.eq_nil_iff_forall_not_mem.mpr fun i hi => hnone i (dueNow_of_mem hi)
    refine ⟨tick s, (step_empty hq).trans (by rw [idle_of_none_due hdue]), ?_, tick_millisecond s⟩
    exact ((touches_tick s).same .pending rfl).trans hq

end Sys2Proof.Machine
end

section
/-! The supply failure, the two starts and the save (R18, R27, R57, R82, R108, R120, R138, R152, R165, R173, R176 to R178). -/

namespace Sys2Proof.Machine

open Sys2Proof

/-! ## An order of a list (notes/assumptions/5.md) -/

theorem insertAt_perm {α : Type} (k : Nat) (x : α) (xs : List α) : (insertAt k x xs).Perm (x :: xs) := by
  induction xs generalizing k with
  | nil => cases k <;> exact .refl _
  | cons y ys ih =>
    cases k with
    | zero => exact .refl _
    | succ k => exact ((ih k).cons y).trans (.swap x y ys)

theorem arrange_perm {α : Type} (f : Nat → Nat) (xs : List α) : (arrange f xs).Perm xs := by
  induction xs with
  | nil => exact .refl _
  | cons x xs ih => exact (insertAt_perm _ x _).trans (ih.cons x)

/-! ## The register after a start (R165) -/

section Register

variable {fs : List (Alert × Bool)} {s t : State} {a : Alert} {b : Bool}

/-- The records of the conditions found true are ACTIVE, and every other record is CLEAR. -/
def Registered (fs : List (Alert × Bool)) (s : State) : Prop :=
  ∀ n, s.alerts.get n = if ∃ p ∈ fs, p.2 = true ∧ alertNumber p.1 = n then .active else .clear

theorem Registered.of_alerts (h : Registered fs s) (ht : t.alerts = s.alerts) : Registered fs t := fun n => by
  rw [ht, h n]

theorem Registered.raised (h : Registered fs s) (ht : t.alerts = alertOnset a s.alerts) : Registered ((a, true) :: fs) t := by
  intro n
  rw [ht, alertOnset, Tab.get_set]
  by_cases hn : n = alertNumber a
  · rw [if_pos hn, if_pos ⟨(a, true), by simp, rfl, hn.symm⟩]
    rfl
  · rw [if_neg hn, h n]
    refine if_congr ?_ rfl rfl
    simp [Ne.symm hn]

/-- A condition that is not found leaves its record CLEAR. -/
theorem Registered.absent (h : Registered fs s) (ht : t.alerts = s.alerts) : Registered ((a, false) :: fs) t := by
  intro n
  rw [ht, h n]
  refine if_congr ?_ rfl rfl
  simp

/-- So it does where its end is reported. -/
theorem Registered.lowered (h : Registered fs s) (ha : ∀ p ∈ fs, p.1 ≠ a) (ht : t.alerts = alertEnd a s.alerts) :
    Registered ((a, false) :: fs) t := by
  have hclear : s.alerts.get (alertNumber a) = .clear := by
    rw [h, if_neg]
    rintro ⟨p, hp, -, he⟩
    exact ha p hp (alertNumber_injective he)
  have hsame : alertEnd a s.alerts = s.alerts := Tab.ext_get fun n => by
    rw [alertEnd, Tab.get_set]
    split_ifs with hn
    · rw [hn, hclear]
      rfl
    · rfl
  exact h.absent (ht.trans hsame)

/-- A condition that follows its record from CLEAR. -/
theorem Registered.follows (h : Registered fs s) (ht : t.alerts = alertFollow a false b s.alerts) :
    Registered ((a, b) :: fs) t := by
  cases b with
  | false => exact h.absent ht
  | true => exact h.raised ht

theorem registered_startAlert (h : Registered fs s) (a : Alert) (b : Bool) : Registered ((a, b) :: fs) (startAlert a b s) := by
  cases b with
  | false => exact h.absent rfl
  | true => exact h.raised rfl

theorem Registered.state (h : Registered fs s) (a : Alert) :
    alertState a s = .active ↔ ∃ p ∈ fs, p.2 = true ∧ p.1 = a := by
  rw [alertState, h]
  have hiff : (∃ p ∈ fs, p.2 = true ∧ alertNumber p.1 = alertNumber a) ↔ ∃ p ∈ fs, p.2 = true ∧ p.1 = a :=
    exists_congr fun p => and_congr_right fun _ => and_congr_right fun _ =>
      ⟨fun he => alertNumber_injective he, congrArg alertNumber⟩
  rw [← hiff]
  split_ifs with hp <;> simp [hp]

theorem Registered.not_latched (h : Registered fs s) (n : Fin 58) : s.alerts.get n ≠ .latched := by
  rw [h]
  split_ifs <;> simp

theorem Registered.clear (h : Registered fs s) {n : Fin 58} (hn : n ∉ (fs.map Prod.fst).map alertNumber) :
    s.alerts.get n = .clear := by
  rw [h, if_neg]
  rintro ⟨p, hp, -, rfl⟩
  exact hn (List.mem_map_of_mem (List.mem_map_of_mem hp))

end Register

/-! ## What each part of a start forms (R178) -/

section Parts

variable {s : State} {amps : Currents} {fs : List (Alert × Bool)}

/-- The five channel faults as a start sample finds them. -/
def faultsFound (t : Tab 5 ChannelRec) : List (Alert × Bool) :=
  [chA5, chA4, chA3, chA2, chA1].map fun a => (.channelFault a, (t.get a).fault)

theorem registered_sampleAnalog (h : Registered [] s) (hf : ∀ a, (s.channels.get a).fault = false) :
    Registered (faultsFound (sampleAnalog amps s).channels) (sampleAnalog amps s) := by
  have hchannels : (sampleAnalog amps s).channels = sampleAll s.config.ranges amps s.channels := rfl
  have halerts : (sampleAnalog amps s).alerts =
      followChannelAlerts s.channels (sampleAll s.config.ranges amps s.channels) s.alerts := rfl
  rw [hchannels]
  generalize sampleAnalog amps s = t at halerts
  generalize sampleAll s.config.ranges amps s.channels = after at halerts ⊢
  simp only [followChannelAlerts, List.foldl, hf] at halerts
  have step (u : Tab 58 AlertState) (fs : List (Alert × Bool)) (a : Channel) (hu : Registered fs { s with alerts := u }) :
      Registered ((.channelFault a, (after.get a).fault) :: fs)
        { s with alerts := alertFollow (.channelFault a) false (after.get a).fault u } := hu.follows rfl
  exact (step _ _ chA5 (step _ _ chA4 (step _ _ chA3 (step _ _ chA2 (step _ _ chA1 h))))).of_alerts halerts

theorem registered_startQuality (h : Registered fs s) :
    Registered ((.qualitySubstituted, !startQualifies s) :: fs) (startQuality s) := by
  unfold startQuality
  cases hq : startQualifies s with
  | true => exact h.absent rfl
  | false => exact h.raised rfl

/-- The quality monitor after a start (R27). -/
theorem startQuality_quality (s : State) :
    (startQuality s).quality =
      if startQualifies s then
        { source := .live, ch4 := (s.channels.get chA4).reading.toNat, h2s := (s.channels.get chA5).reading.toNat
          hold := none, sour := false, high := 0, low := 0 }
      else
        { source := .substituted, ch4 := s.config.defaultCh4, h2s := s.config.defaultH2s
          hold := none, sour := false, high := 0, low := 0 } := by
  unfold startQuality
  split_ifs <;> rfl

theorem followHolderLow_holder (s : State) : (followHolderLow s).holder = s.holder :=
  (touches_followHolderLow s).same .holder rfl

/-- The holder after a start (R57). -/
theorem startHolder_holder (s : State) :
    (startHolder s).holder =
      { startHolderRecord s with
        overfill := (s.contacts.get conK3).debounced || (startHolderRecord s).band = .fallThrough
        pressureHigh := pressureHighNow s, pressureLow := pressureLowNow s } := by
  obtain ⟨w, hw⟩ : ∃ w, w = ({ s with holder := startHolderRecord s } : State) := ⟨_, rfl⟩
  have hwh : w.holder = startHolderRecord s := by rw [hw]
  have hws : TouchesOnly [.holder] s w := hw ▸ .of_restore rfl
  rw [startHolder_eq, ← hw]
  have hu := touches_followHolderLow w
  have huh : (followHolderLow w).holder = w.holder := hu.same .holder rfl
  generalize followHolderLow w = u at hu huh
  have hcontacts : u.contacts = s.contacts := (hu.same .contacts rfl).trans (hws.same .contacts rfl)
  have hchannels : u.channels = s.channels := (hu.same .channels rfl).trans (hws.same .channels rfl)
  have hconfig : u.config = s.config := (hu.same .config rfl).trans (hws.same .config rfl)
  have hover : overfillNow u = ((s.contacts.get conK3).debounced || (startHolderRecord s).band = .fallThrough) := by
    rw [overfillNow, hcontacts, huh, hwh]
  have hhigh : pressureHighNow (followOverfill u) = pressureHighNow s := by
    have h : pressureHighNow (followOverfill u) = pressureHighNow u := rfl
    rw [h, pressureHighNow, pressureHighNow, hchannels, hconfig]
  have hlow : pressureLowNow (followOverfill u) = pressureLowNow s := by
    have h : pressureLowNow (followOverfill u) = pressureLowNow u := rfl
    rw [h, pressureLowNow, pressureLowNow, hchannels, hconfig]
  have hfollowed : (followOverfill u).holder = { u.holder with overfill := overfillNow u } := rfl
  rw [followPressure, hhigh, hlow, hfollowed, hover, huh, hwh]

theorem registered_startHolder (h : Registered fs s) (hlow : ∀ p ∈ fs, p.1 ≠ .holderLow) :
    Registered ((.pressureHigh, (startHolder s).holder.pressureHigh) :: (.holderOverfill, (startHolder s).holder.overfill) ::
      (.holderLow, (startHolder s).holder.band = .row 0) :: fs) (startHolder s) := by
  obtain ⟨w, hw⟩ : ∃ w, w = ({ s with holder := startHolderRecord s } : State) := ⟨_, rfl⟩
  have hwa : w.alerts = s.alerts := by rw [hw]
  have hwo : w.holder.overfill = false ∧ w.holder.pressureHigh = false := by rw [hw]; exact ⟨rfl, rfl⟩
  rw [startHolder_eq, ← hw]
  have hreg : Registered ((.holderLow, w.holder.band = .row 0) :: fs) (followHolderLow w) := by
    by_cases hb : w.holder.band = .row 0
    · rw [followHolderLow, if_pos hb, decide_eq_true hb]
      exact (h.of_alerts hwa).raised rfl
    · rw [followHolderLow, if_neg hb, decide_eq_false hb]
      exact (h.of_alerts hwa).lowered hlow rfl
  have huh : (followHolderLow w).holder = w.holder := (touches_followHolderLow w).same .holder rfl
  generalize followHolderLow w = u at hreg huh
  have hover : Registered ((.holderOverfill, overfillNow u) :: (.holderLow, w.holder.band = .row 0) :: fs) (followOverfill u) :=
    hreg.follows (by rw [← hwo.1, ← huh]; rfl)
  have hpressure : Registered ((.pressureHigh, pressureHighNow (followOverfill u)) :: (.holderOverfill, overfillNow u) ::
      (.holderLow, w.holder.band = .row 0) :: fs) (followPressure (followOverfill u)) :=
    hover.follows (by rw [← hwo.2, ← huh]; rfl)
  rw [← huh] at hpressure
  exact hpressure

theorem registered_startOnsets (h : Registered fs s) :
    Registered ((.totalsLost, s.totals.clockUnset) :: (.configDefaulted, s.store.defaulted) ::
      (.estop, (s.contacts.get conK4).debounced) :: (.gasRoom, (s.contacts.get conK2).debounced) :: fs) (startOnsets s) := by
  have hgas := registered_startAlert h .gasRoom (s.contacts.get conK2).debounced
  have hestop := registered_startAlert hgas .estop (s.contacts.get conK4).debounced
  have hconfig := registered_startAlert hestop .configDefaulted s.store.defaulted
  exact (registered_startAlert hconfig .totalsLost s.totals.clockUnset).of_alerts rfl

/-- The four start alerts leave what the bindings read. -/
theorem startOnsets_policy (s : State) :
    (startOnsets s).policy = { s.policy with switch := startSwitch s } := by
  obtain ⟨u, hu⟩ : ∃ u, startAlert .totalsLost s.totals.clockUnset (startAlert .configDefaulted s.store.defaulted
      (startAlert .estop (s.contacts.get conK4).debounced (startAlert .gasRoom (s.contacts.get conK2).debounced s))) = u :=
    ⟨_, rfl⟩
  have htouch : TouchesOnly [.alerts] s u := hu ▸ ((((touches_startAlert s _ _).andThen (touches_startAlert _ _ _)).andThen
    (touches_startAlert _ _ _)).andThen (touches_startAlert _ _ _)).weaken rfl
  have heq : startOnsets s = startBindings u := by rw [startOnsets, hu]
  have hpolicy : u.policy = s.policy := htouch.same .policy rfl
  have hswitch : startSwitch u = startSwitch s := by
    have hconfig : u.config = s.config := htouch.same .config rfl
    have hcontacts : u.contacts = s.contacts := htouch.same .contacts rfl
    have hquality : u.quality = s.quality := htouch.same .quality rfl
    have hmoments : u.moments = s.moments := htouch.same .moments rfl
    rw [startSwitch, startSwitch, startSources, startSources, hconfig, hcontacts, hquality, hmoments, hpolicy]
  rw [heq, startBindings, hswitch, hpolicy]

end Parts

/-! ## The start (R178) -/

section Start

variable {s : State} {amps : Currents}

/-- The conditions that a start finds, in the register's terms. -/
def startFindings (t : State) : List (Alert × Bool) :=
  (.totalsLost, t.totals.clockUnset) :: (.configDefaulted, t.store.defaulted) ::
    (.estop, (t.contacts.get conK4).debounced) :: (.gasRoom, (t.contacts.get conK2).debounced) ::
    (.pressureHigh, t.holder.pressureHigh) :: (.holderOverfill, t.holder.overfill) ::
    (.holderLow, t.holder.band = .row 0) :: (.qualitySubstituted, t.quality.source = .substituted) :: faultsFound t.channels

theorem startQuality_source (s : State) : (startQuality s).quality.source = .substituted ↔ startQualifies s = false := by
  rw [startQuality_quality]
  cases startQualifies s <;> simp

/-- The blocks' start states under the names of their stages: what the sample, the decisions and the onsets add. -/
theorem start_stages (amps : Currents) (s : State) :
    ∃ s0 s1 s2 s3 s4, s0 = startBlocks s ∧ s1 = sampleAnalog amps s0 ∧ s2 = startQuality s1 ∧ s3 = startHolder s2 ∧
      s4 = startOnsets s3 ∧ start amps s = startBalance s4 := ⟨_, _, _, _, _, rfl, rfl, rfl, rfl, rfl, rfl⟩

/-- The register after a start. -/
theorem start_registered (amps : Currents) (s : State) : Registered (startFindings (start amps s)) (start amps s) := by
  obtain ⟨s0, s1, s2, s3, s4, h0, h1, h2, h3, h4, ht⟩ := start_stages amps s
  have hclear : Registered [] s0 := fun n => by rw [h0]; simp [startBlocks]
  have hfaults : ∀ a, (s0.channels.get a).fault = false := fun a => by rw [h0]; simp [startBlocks, startChannel]
  have hr1 := registered_sampleAnalog (amps := amps) hclear hfaults
  rw [← h1] at hr1
  have hr2 := registered_startQuality hr1
  rw [← h2] at hr2
  have hr3 := registered_startHolder hr2 (by simp [faultsFound])
  rw [← h3] at hr3
  have hr4 := registered_startOnsets hr3
  rw [← h4] at hr4
  have ht2 : TouchesOnly [.quality, .alerts] s1 s2 := h2 ▸ touches_startQuality s1
  have ht3 : TouchesOnly [.holder, .alerts] s2 s3 := h3 ▸ touches_startHolder s2
  have ht4 : TouchesOnly [.alerts, .policy, .moments] s3 s4 := h4 ▸ touches_startOnsets s3
  have ht5 : TouchesOnly [.balance] s4 (start amps s) := ht ▸ touches_startBalance s4
  generalize start amps s = t at ht5
  have hsource : (!startQualifies s1) = decide (s2.quality.source = .substituted) := by
    have hiff := startQuality_source s1
    rw [← h2] at hiff
    rw [Bool.eq_iff_iff, decide_eq_true_iff, hiff, Bool.not_eq_true']
  have hholder : t.holder = s3.holder := (ht5.same .holder rfl).trans (ht4.same .holder rfl)
  have hquality : t.quality = s2.quality :=
    (ht5.same .quality rfl).trans ((ht4.same .quality rfl).trans (ht3.same .quality rfl))
  have hchannels : t.channels = s1.channels :=
    (ht5.same .channels rfl).trans ((ht4.same .channels rfl).trans ((ht3.same .channels rfl).trans (ht2.same .channels rfl)))
  have hcontacts : t.contacts = s3.contacts := (ht5.same .contacts rfl).trans (ht4.same .contacts rfl)
  have htotals : t.totals = s3.totals := (ht5.same .totals rfl).trans (ht4.same .totals rfl)
  have hstore : t.store = s3.store := (ht5.same .store rfl).trans (ht4.same .store rfl)
  rw [hsource] at hr4
  rw [startFindings, hholder, hquality, hchannels, hcontacts, htotals, hstore]
  exact hr4.of_alerts (ht5.same .alerts rfl)

theorem start_config (amps : Currents) (s : State) : (start amps s).config = s.config := (touches_start s amps).same .config rfl

/-- A contact read at a start (R18). -/
theorem start_contacts (amps : Currents) (s : State) (k : Contact) :
    (start amps s).contacts.get k =
      { raw := (s.contacts.get k).raw, debounced := (s.contacts.get k).raw, timer := none } := by
  have h : (start amps s).contacts = (startBlocks s).contacts := (touches_startFormed s amps).same .contacts rfl
  rw [h]
  exact Tab.get_gen _ _

/-- The start sample (R18). -/
theorem start_channels (amps : Currents) (s : State) (a : Channel) :
    (start amps s).channels.get a = sampleChannel (classify (s.config.ranges.get a) (amps.get a))
      { reading := (s.channels.get a).lastGood, fault := false, recovery := 0, lastGood := (s.channels.get a).lastGood } ∧
    (start amps s).loops = amps := by
  obtain ⟨s0, s1, s2, s3, s4, h0, h1, h2, h3, h4, ht⟩ := start_stages amps s
  have hrest : TouchesOnly [.quality, .holder, .alerts, .policy, .moments, .balance] s1 (start amps s) := by
    rw [ht, h4, h3, h2]
    exact ((((touches_startQuality s1).andThen (touches_startHolder _)).andThen (touches_startOnsets _)).andThen
      (touches_startBalance _)).weaken rfl
  generalize start amps s = t at hrest
  have hchannels : t.channels = s1.channels := hrest.same .channels rfl
  have hloops : t.loops = s1.loops := hrest.same .loops rfl
  have hsampled : s1.channels = sampleAll s.config.ranges amps s0.channels := by rw [h1, h0]; rfl
  have hchannel : s0.channels.get a = startChannel (s.channels.get a) := by rw [h0]; exact Tab.get_gen _ _
  rw [hchannels, hloops, hsampled, sampleAll, Tab.get_gen, hchannel, h1]
  exact ⟨rfl, rfl⟩

/-- What the quality monitor of the started part shows (R27). -/
theorem start_quality (amps : Currents) (s : State) :
    (start amps s).quality =
      if startQualifies (start amps s) then
        { source := .live, ch4 := ((start amps s).channels.get chA4).reading.toNat
          h2s := ((start amps s).channels.get chA5).reading.toNat, hold := none, sour := false, high := 0, low := 0 }
      else
        { source := .substituted, ch4 := (start amps s).config.defaultCh4, h2s := (start amps s).config.defaultH2s
          hold := none, sour := false, high := 0, low := 0 } := by
  obtain ⟨s0, s1, s2, s3, s4, h0, h1, h2, h3, h4, ht⟩ := start_stages amps s
  have hformed : TouchesOnly [.quality, .holder, .alerts, .policy, .moments, .balance] s1 (start amps s) := by
    rw [ht, h4, h3, h2]
    exact ((((touches_startQuality s1).andThen (touches_startHolder _)).andThen (touches_startOnsets _)).andThen
      (touches_startBalance _)).weaken rfl
  have hrest : TouchesOnly [.holder, .alerts, .policy, .moments, .balance] s2 (start amps s) := by
    rw [ht, h4, h3]
    exact (((touches_startHolder s2).andThen (touches_startOnsets _)).andThen (touches_startBalance _)).weaken rfl
  generalize start amps s = t at hformed hrest
  have hquality : t.quality = s2.quality := hrest.same .quality rfl
  have hchannels : t.channels = s1.channels := hformed.same .channels rfl
  have hcontacts : t.contacts = s1.contacts := hformed.same .contacts rfl
  have hconfig : t.config = s1.config := hformed.same .config rfl
  have hqual : startQualifies t = startQualifies s1 := by
    rw [startQualifies, startQualifies, samplesQualify, samplesQualify, hcontacts, hchannels]
  rw [hquality, h2, startQuality_quality, hqual, hchannels, hconfig]

/-- What the holder monitor of the started part shows (R57). -/
theorem start_holder (amps : Currents) (s : State) :
    (start amps s).holder =
      { startHolderRecord (start amps s) with
        overfill := ((start amps s).contacts.get conK3).debounced || (startHolderRecord (start amps s)).band = .fallThrough
        pressureHigh := pressureHighNow (start amps s), pressureLow := pressureLowNow (start amps s) } ∧
    (start amps s).policy.active = 0 ∧
    (start amps s).balance = (startBalance (start amps s)).balance := by
  obtain ⟨s0, s1, s2, s3, s4, h0, h1, h2, h3, h4, ht⟩ := start_stages amps s
  have h02 : TouchesOnly [.loops, .channels, .alerts, .quality] s0 s2 := by
    rw [h2, h1]
    exact ((touches_sampleAnalog s0 amps).andThen (touches_startQuality _)).weaken rfl
  have h34 : TouchesOnly [.alerts, .policy, .moments] s3 s4 := h4 ▸ touches_startOnsets s3
  have h23 : TouchesOnly [.holder, .alerts] s2 s3 := h3 ▸ touches_startHolder s2
  have h4t : TouchesOnly [.balance] s4 (start amps s) := ht ▸ touches_startBalance s4
  have hholder : s3.holder = _ := h3 ▸ startHolder_holder s2
  have hpolicy : s4.policy = _ := h4 ▸ startOnsets_policy s3
  have hbalance : (start amps s).balance = (startBalance s4).balance := by rw [ht]
  have hactive0 : s0.policy.active = 0 := by rw [h0]; rfl
  generalize start amps s = t at h4t hbalance
  have hrest := (h23.andThen h34).andThen h4t
  have hchannels : t.channels = s2.channels := hrest.same .channels rfl
  have hcontacts : t.contacts = s2.contacts := hrest.same .contacts rfl
  have hconfig : t.config = s2.config := hrest.same .config rfl
  have hquality : t.quality = s2.quality := hrest.same .quality rfl
  have hactive2 : s2.policy.active = 0 := (congrArg (·.active) (show s2.policy = s0.policy from h02.same .policy rfl)).trans hactive0
  have hactive3 : s3.policy.active = 0 := (congrArg (·.active) (show s3.policy = s2.policy from h23.same .policy rfl)).trans hactive2
  have hactive : t.policy.active = 0 :=
    (congrArg (·.active) (show t.policy = s4.policy from h4t.same .policy rfl)).trans
      ((congrArg (·.active) hpolicy).trans hactive3)
  have hrecord : startHolderRecord t = startHolderRecord s2 := by
    rw [startHolderRecord, startHolderRecord, activeBank, activeBank, hchannels, hconfig, hquality, hactive, hactive2]
  refine ⟨?_, hactive, ?_⟩
  · have hth : t.holder = s3.holder := (h4t.same .holder rfl).trans (h34.same .holder rfl)
    rw [hth, hholder, hrecord, hcontacts, pressureHighNow, pressureHighNow, pressureLowNow, pressureLowNow, hchannels, hconfig]
  · have hc4 : t.config = s4.config := h4t.same .config rfl
    have hh4 : t.holder = s4.holder := h4t.same .holder rfl
    have hq4 : t.quality = s4.quality := h4t.same .quality rfl
    have hch4 : t.channels = s4.channels := h4t.same .channels rfl
    rw [hbalance, startBalance, startBalance, hc4, hh4, hq4, hch4]

/-- The pending switch of the started part (R152). -/
theorem start_switch (amps : Currents) (s : State) :
    ∃ order : List Source, order.Perm (startSources (start amps s)) ∧
      (start amps s).policy.switch =
        order.foldl (fun switch x => fireBindings (start amps s).config.bindings 0 x switch) none := by
  obtain ⟨s0, s1, s2, s3, s4, h0, h1, h2, h3, h4, ht⟩ := start_stages amps s
  have h03 : TouchesOnly [.loops, .channels, .alerts, .quality, .holder] s0 s3 := by
    rw [h3, h2, h1]
    exact (((touches_sampleAnalog s0 amps).andThen (touches_startQuality _)).andThen (touches_startHolder _)).weaken rfl
  have hrest : TouchesOnly [.alerts, .policy, .moments, .balance] s3 (start amps s) := by
    rw [ht, h4]
    exact ((touches_startOnsets s3).andThen (touches_startBalance _)).weaken rfl
  have hpolicy : (start amps s).policy = _ :=
    (show (start amps s).policy = s4.policy by rw [ht]; rfl).trans (h4 ▸ startOnsets_policy s3)
  have hp0 : s0.policy.active = 0 ∧ s0.policy.switch = none := by rw [h0]; exact ⟨rfl, rfl⟩
  generalize start amps s = t at hrest hpolicy
  have hp3 : s3.policy = s0.policy := h03.same .policy rfl
  have hconfig : t.config = s3.config := hrest.same .config rfl
  have hcontacts : t.contacts = s3.contacts := hrest.same .contacts rfl
  have hquality : t.quality = s3.quality := hrest.same .quality rfl
  have hsources : startSources t = startSources s3 := by rw [startSources, startSources, hcontacts, hquality]
  refine ⟨arrange (Config.tieBreak s3.moments) (startSources s3), hsources ▸ arrange_perm _ _, ?_⟩
  rw [hpolicy, startSwitch, hp3, hp0.1, hp0.2, hconfig]

/-- The meters after a start: the stall timers run where flow is expected, on the lines in use (R18). -/
theorem start_meters (amps : Currents) (s : State) (m : Meter) :
    (start amps s).meters.get m =
      { count := 0, stalled := false, recovery := 0, hold := 0, heldRate := 0
        stallTimer := if flowExpected (start amps s) m then some 0 else none } := by
  have hmeters : (start amps s).meters = startMeters s.config.inUse := (touches_startFormed s amps).same .meters rfl
  have hflare : (start amps s).flare = startFlare := (touches_startFormed s amps).same .flare rfl
  have hexpected : flowExpected (start amps s) m =
      if h : m.val < 6 then s.config.inUse.get ⟨m.val, h⟩ else false := by
    unfold flowExpected
    rw [start_config, start_claims, hflare]
    split_ifs with h6 h11
    · rfl
    · simp [startClaim, vacantClaim]
    · rfl
  rw [hmeters, startMeters, Tab.get_gen, hexpected]
  split_ifs with h6 <;> simp_all [startMeter]

/-- What each block of the started part shows, after either start. -/
theorem startLeaves_start {u : State} {kept : Channel → Int} (hs : u.supplied = true) (hc : u.contacts = s.contacts)
    (hp : u.pending = s.pending) (hkept : ∀ a, (u.channels.get a).lastGood = kept a) :
    startLeaves kept amps s (start amps u) := by
  have htouch := touches_start u amps
  have hformed := touches_startFormed u amps
  have hcontacts := start_contacts amps u
  have hchannels := start_channels amps u
  have hquality := start_quality amps u
  obtain ⟨hholder, hactive, hbalance⟩ := start_holder amps u
  have hswitch := start_switch amps u
  have hmeters := start_meters amps u
  have hclaims := start_claims amps u
  have hstack := start_stack amps u
  have hreg := start_registered amps u
  have hconfig := start_config amps u
  have htotals := start_totals amps u
  have hflare : (start amps u).flare = startFlare := hformed.same .flare rfl
  have hports : (start amps u).ports = Tab.fill 7 huntPort := hformed.same .ports rfl
  have hnormalizer : (start amps u).normalizer = { carries := Tab.fill 12 0, filtered := 0 } := hformed.same .normalizer rfl
  have hsupplied : (start amps u).supplied = u.supplied := htouch.same .supplied rfl
  have hpending : (start amps u).pending = u.pending := htouch.same .pending rfl
  have hrestart : (start amps u).restartPending = false := hformed.same .restartPending rfl
  generalize start amps u = t at *
  have hqualifies : startQualifies t = true ↔ (s.contacts.get conK1).raw = true ∧ (t.channels.get chA4).fault = false ∧
      (t.channels.get chA5).fault = false ∧ within 300 900 (t.channels.get chA4).reading := by
    rw [startQualifies, Bool.and_eq_true, samplesQualify_iff, hcontacts, hc]
  have hlive : t.quality.source = .live ↔ startQualifies t = true := by
    rw [hquality]
    cases startQualifies t <;> simp
  refine ⟨hsupplied.trans hs, (hchannels 0).2, hrestart, hpending.trans hp, fun k => hc ▸ hcontacts k,
    fun a => ?channels, fun c => ?claims, hstack, hflare, fun l => ?ports, hactive, ?order, ?balance, hnormalizer, hmeters,
    hlive.trans hqualifies, fun h => ?live, fun h => ?substituted, ?hold, ?sour, ?high, ?low, ?level, ?prev, ?inventory,
    ?delta, ?accumulator, ?window, ?mismatch, ?band, ?overfill, ?pressureHigh, ?pressureLow, hreg.not_latched, ?gasRoom, ?estop,
    ?qualityAlert, ?overfillAlert, ?pressureAlert, ?configAlert, ?totalsAlert, ?lowAlert, fun a => ?faultAlert,
    fun n hn => ?clear, ?hour⟩
  case channels => rw [(hchannels a).1, hkept, hconfig]
  case claims =>
    rw [hclaims, Tab.get_gen, hc]
    rfl
  case ports => rw [hports, Tab.get_fill]
  case order =>
    obtain ⟨order, hperm, hsw⟩ := hswitch
    refine ⟨order, ?_, hsw⟩
    simpa only [startSources, hcontacts, hc] using hperm
  case balance =>
    rw [hbalance]
    rfl
  case live =>
    rw [hquality, if_pos (hlive.mp h)]
    exact ⟨rfl, rfl⟩
  case substituted =>
    rw [hquality, if_neg (hlive.not.mp h)]
    exact ⟨rfl, rfl, rfl⟩
  case hold | sour | high | low => rw [hquality]; split_ifs <;> rfl
  case level | prev | inventory | delta | accumulator | window | mismatch => rw [hholder]; rfl
  case band =>
    rw [hholder, ← hactive]
    rfl
  case overfill =>
    rw [hholder]
    simp [hcontacts, hc]
  case pressureHigh =>
    rw [hholder]
    simp [pressureHighNow]
  case pressureLow =>
    rw [hholder]
    simp [pressureLowNow]
  case gasRoom | estop | qualityAlert | overfillAlert | pressureAlert | configAlert | totalsAlert | lowAlert =>
    rw [hreg.state]
    simp [startFindings, faultsFound, hcontacts, hc]
  case faultAlert =>
    rw [hreg.state]
    have hmem : ∀ a : Channel, a ∈ [chA5, chA4, chA3, chA2, chA1] := by decide
    refine ⟨?_, fun hf => ⟨(.channelFault a, (t.channels.get a).fault), ?_, hf, rfl⟩⟩
    · simp only [startFindings, faultsFound, List.map_cons, List.map_nil, List.mem_cons, List.not_mem_nil, or_false]
      rintro ⟨p, hp, hf, ha⟩
      obtain rfl | rfl | rfl | rfl | rfl | rfl | rfl | rfl | rfl | rfl | rfl | rfl | rfl := hp <;> cases ha <;> exact hf
    · simp only [startFindings, List.mem_cons]
      exact .inr (.inr (.inr (.inr (.inr (.inr (.inr (.inr (List.mem_map_of_mem (hmem a)))))))))
  case clear =>
    refine hreg.clear fun hin => hn ?_
    have hsub : ∀ x ∈ (startFindings t).map Prod.fst, x ∈ ((List.finRange 5).map Alert.channelFault ++ [Alert.gasRoom,
        Alert.estop, Alert.qualitySubstituted, Alert.holderOverfill, Alert.pressureHigh, Alert.configDefaulted,
        Alert.totalsLost, Alert.holderLow]) := by
      simp only [startFindings, faultsFound, List.map_cons, List.map_nil]
      decide
    obtain ⟨x, hx, rfl⟩ := List.mem_map.mp hin
    exact List.mem_map_of_mem (hsub x hx)
  case hour => rw [htotals, hconfig]

end Start

/-! ## The supply failure and the power-on start (R19, R85, R173, R177) -/

section PowerOn

variable {s : State} {amps : Currents} {cellLow totalsAgree configAgrees : Bool}

theorem powerOnLastGood_get (k : WorkingConfig) (a : Channel) :
    (powerOnLastGood k).get a =
      if a = chA1 ∨ a = chA2 then (k.ranges.get a).lo
      else if a = chA3 then k.defaultTemp
      else if a = chA4 then k.defaultCh4 else k.defaultH2s := by
  fin_cases a <;> rfl

/-- What a power-on start begins with (R18, R148, R173, R177). -/
def poweredOn (cellLow totalsAgree configAgrees : Bool) (s : State) : State :=
  judgeTotals cellLow totalsAgree (setLastGood { loadConfig configAgrees s with supplied := true })

theorem touches_poweredOn : TouchesOnly [.supplied, .config, .store, .policy, .channels, .totals] s
    (poweredOn cellLow totalsAgree configAgrees s) := by
  have h : TouchesOnly [.supplied] (loadConfig configAgrees s) { loadConfig configAgrees s with supplied := true } :=
    .of_restore rfl
  exact (((touches_loadConfig s configAgrees).andThen h).andThen ((touches_setLastGood _).andThen
    (touches_judgeTotals _ _ _))).weaken rfl

/-- The blocks as a power-on start forms them before the start proper. -/
theorem poweredOn_blocks :
    (poweredOn cellLow totalsAgree configAgrees s).supplied = true ∧
    (poweredOn cellLow totalsAgree configAgrees s).config = (loadConfig configAgrees s).config ∧
    (poweredOn cellLow totalsAgree configAgrees s).store = (loadConfig configAgrees s).store ∧
    (poweredOn cellLow totalsAgree configAgrees s).policy = (loadConfig configAgrees s).policy ∧
    (∀ a, ((poweredOn cellLow totalsAgree configAgrees s).channels.get a).lastGood =
      (powerOnLastGood (loadConfig configAgrees s).config).get a) ∧
    (poweredOn cellLow totalsAgree configAgrees s).totals =
      if totalsKept cellLow totalsAgree s then s.totals else resetTotals (loadConfig configAgrees s).config.gasDayHour := by
  obtain ⟨w, hw⟩ : ∃ w, w = setLastGood { loadConfig configAgrees s with supplied := true } := ⟨_, rfl⟩
  have hsupplied : w.supplied = true := by rw [hw]; rfl
  have hconfig : w.config = (loadConfig configAgrees s).config := by rw [hw]; rfl
  have hstore : w.store = (loadConfig configAgrees s).store := by rw [hw]; rfl
  have hpolicy : w.policy = (loadConfig configAgrees s).policy := by rw [hw]; rfl
  have htotals : w.totals = s.totals := by rw [hw]; rfl
  have hgood (a : Channel) : (w.channels.get a).lastGood = (powerOnLastGood (loadConfig configAgrees s).config).get a := by
    rw [hw, setLastGood, Tab.get_gen]
  have hkept : totalsKept cellLow totalsAgree w = totalsKept cellLow totalsAgree s := by
    rw [totalsKept, totalsKept, htotals]
  rw [poweredOn, ← hw]
  have ht := touches_judgeTotals w cellLow totalsAgree
  have htt : (judgeTotals cellLow totalsAgree w).totals =
      if totalsKept cellLow totalsAgree s then s.totals else resetTotals (loadConfig configAgrees s).config.gasDayHour := by
    rw [judgeTotals, hkept, apply_ite State.totals, htotals, hconfig]
  generalize judgeTotals cellLow totalsAgree w = u at ht htt ⊢
  have huc : u.channels = w.channels := ht.same .channels rfl
  have hus : u.supplied = w.supplied := ht.same .supplied rfl
  have huconfig : u.config = w.config := ht.same .config rfl
  have hustore : u.store = w.store := ht.same .store rfl
  have hupolicy : u.policy = w.policy := ht.same .policy rfl
  exact ⟨hus.trans hsupplied, huconfig.trans hconfig, hustore.trans hstore, hupolicy.trans hpolicy,
    fun a => huc ▸ hgood a, htt⟩

theorem loadConfig_good (h : s.store.checkAgrees = true) (h' : configAgrees = true) :
    (loadConfig configAgrees s).config = s.store.stored ∧ (loadConfig configAgrees s).store.defaulted = false := by
  simp [loadConfig, copyGood, h, h']

theorem loadConfig_bad (h : s.store.checkAgrees = false ∨ configAgrees = false) :
    (loadConfig configAgrees s).config = defaultConfig ∧ (loadConfig configAgrees s).store.defaulted = true := by
  obtain h | h := h <;> simp [loadConfig, copyGood, h, loadDefaults]

theorem totalsKept_iff : totalsKept cellLow totalsAgree s = true ↔
    cellLow = false ∧ s.totals.checkAgrees = true ∧ totalsAgree = true := by
  simp [totalsKept, and_assoc]

/-- What a supply failure leaves (notes/assumptions/10.md). -/
theorem powerFail_leaves (s : State) : ∃ t, exec .powerFail s = .next t ∧ t.supplied = false ∧ t.balance.pass = none ∧
    t.store = { s.store with saving := none } ∧ t.totals = s.totals ∧ ∀ l : Link, (t.ports.get l).state = .hunt := by
  refine ⟨_, rfl, rfl, rfl, rfl, rfl, fun l => ?_⟩
  simp only [Tab.get_gen, toHunt]

end PowerOn

/-- Settles O55: the power-on start is a start of the state it has formed. -/
theorem supplyFailureAndPowerOnStart : Obligations.SupplyFailureAndPowerOnStart := by
  refine ⟨fun s => ?_, fun amps cellLow totalsAgree configAgrees s => ?_⟩
  · obtain ⟨t, ht, hs, hp, hstore, htotals, hports⟩ := powerFail_leaves s
    have hheld : ¬relayHeld t := fun h => absurd (hs.symm.trans h.1) (by simp)
    exact ⟨t, ht, hs, hp, hstore, hheld, Bool.eq_false_iff.mpr ((relayEnergized_iff t).not.mpr hheld), htotals, hports⟩
  · have htouch := touches_poweredOn (s := s) (cellLow := cellLow) (totalsAgree := totalsAgree) (configAgrees := configAgrees)
    obtain ⟨hs, hconfig, hstore, hpolicy, hgood, htotals⟩ := poweredOn_blocks (s := s) (cellLow := cellLow)
      (totalsAgree := totalsAgree) (configAgrees := configAgrees)
    have hexec : exec (.powerOnStart amps cellLow totalsAgree configAgrees) s =
        .next (start amps (poweredOn cellLow totalsAgree configAgrees s)) := rfl
    generalize poweredOn cellLow totalsAgree configAgrees s = u at htouch hs hconfig hstore hpolicy hgood htotals hexec
    have hkept (a : Channel) : (u.channels.get a).lastGood =
        if a = chA1 ∨ a = chA2 then ((start amps u).config.ranges.get a).lo
        else if a = chA3 then (start amps u).config.defaultTemp
        else if a = chA4 then (start amps u).config.defaultCh4 else (start amps u).config.defaultH2s := by
      rw [hgood, powerOnLastGood_get, start_config, hconfig]
    have hleaves := startLeaves_start (amps := amps) hs (htouch.same .contacts rfl) (htouch.same .pending rfl) hkept
    have htc := start_config amps u
    have htt := start_totals amps u
    have hts : (start amps u).store = u.store := (touches_start u amps).same .store rfl
    have htp := (start_policy amps u).1
    generalize start amps u = t at hexec hleaves htc htt hts htp
    refine ⟨t, hexec, hleaves, fun h h' => ?_, fun h => ?_, ?_, ?_, fun b => ?_, fun h₁ h₂ h₃ => ?_, fun h => ?_⟩
    · rw [htc, hts, hconfig, hstore]
      exact loadConfig_good h h'
    · rw [htc, hts, hconfig, hstore]
      exact loadConfig_bad h
    · rw [hts, hstore]
      rfl
    · rw [hts, hstore]
      rfl
    · rw [htp, hpolicy]
      exact Tab.get_fill _ _
    · rw [if_pos (totalsKept_iff.mpr ⟨h₁, h₂, h₃⟩)] at htotals
      rw [htt, htotals, ← h₂]
    · have hno : ¬totalsKept cellLow totalsAgree s = true := fun hk => by
        obtain ⟨h₁, h₂, h₃⟩ := totalsKept_iff.mp hk
        simp [h₁, h₂, h₃] at h
      rw [if_neg hno] at htotals
      rw [htt, htotals, htc, hconfig]
      rfl

/-! ## The save and the restart (R156, R176, R178) -/

section Save

variable {s : State}

theorem serveSaveConfig_busy (h : s.store.saving ≠ none) : serveSaveConfig s = { state := s, status := .busy } :=
  if_pos ((saving_iff s).mp h)

theorem serveSaveConfig_taken (h : s.store.saving = none) :
    serveSaveConfig s =
      { state := { s with store := { s.store with stored := s.config, checkAgrees := false, saving := some 0 } }
        status := .done } := by
  simp only [serveSaveConfig, not_saving h, Bool.false_eq_true, if_false]

theorem exec_restartTakesPlace (amps : Currents) (hs : s.supplied = true) :
    exec (.restartTakesPlace amps) s = .next (if restartReady s then start amps s else s) := event_supplied _ hs

theorem exec_saveEnd (hs : s.supplied = true) :
    exec .saveEnd s = .next (if isSaving s then
      lower .configDefaulted { s with store := { s.store with checkAgrees := true, saving := none, defaulted := false } }
      else s) := event_supplied _ hs

end Save

/-- Settles O56: a save acts on the store alone, and a restart is a start that waits for its own answer. -/
theorem saveAndRestartAct : Obligations.SaveAndRestartAct := by
  refine ⟨fun s hs => ⟨fun h => answeredUnchanged_served rfl hs rfl (serveSaveConfig_busy h), fun h => ?begins,
    fun h => ?ends, fun h => ?idle⟩, fun s hs => ?restarts⟩
  case restarts =>
    intro sending
    refine ⟨?restart, fun amps => ⟨fun hp hsave hsend => ?starts, fun h => ?waits⟩⟩
    case restart =>
      obtain ⟨t, ht, hst, hp, htt⟩ := request_answers_unfollowed (i := .restart 0) (u := { s with restartPending := true })
        (congrFun (funext fun s => exec_restart 0 s) s) hs rfl rfl rfl fun _ => flowExpected_congr rfl rfl rfl _
      have htouch : TouchesOnly [.restartPending] s { s with restartPending := true } := .of_restore rfl
      have hr := ((htouch.andThen htt).weaken (cs := [.restartPending, .ports]) rfl).restored
      simp only [restore, List.foldr, Block.copy] at hr
      exact ⟨t, ht, hst, hp, htt.same .restartPending rfl, hr⟩
    case starts =>
      have hready : restartReady s = true := restart_due.mpr ⟨hp, hsave, hsend⟩
      refine ⟨start amps s, (exec_restartTakesPlace amps hs).trans (by rw [if_pos hready]),
        startLeaves_start hs rfl rfl fun _ => rfl, start_config amps s, (touches_start s amps).same .store rfl,
        (start_policy amps s).1, ?_⟩
      rw [start_totals]
    case waits =>
      have hready : ¬restartReady s = true := fun hr => by
        obtain ⟨hp, hsave, hsend⟩ := restart_due.mp hr
        obtain h | h | h := h
        · exact absurd (hp.symm.trans h) (by simp)
        · exact h hsave
        · exact hsend h
      rw [exec_restartTakesPlace amps hs, if_neg hready]
  case begins =>
    obtain ⟨t, ht, hst, hp, htt⟩ := request_answers_unfollowed (i := .saveConfig 0) rfl hs rfl (serveSaveConfig_taken h) rfl
      fun _ => flowExpected_congr rfl rfl rfl _
    have hstore : t.store = { s.store with stored := s.config, checkAgrees := false, saving := some 0 } := htt.same .store rfl
    have htouch : TouchesOnly [.store] s
        { s with store := { s.store with stored := s.config, checkAgrees := false, saving := some 0 } } := .of_restore rfl
    have hr := ((htouch.andThen htt).weaken (cs := [.store, .ports]) rfl).restored
    simp only [restore, List.foldr, Block.copy] at hr
    exact ⟨t, ht, hst, hp, by rw [hstore], by rw [hstore], by rw [hstore], by rw [hstore], hr⟩
  case ends =>
    obtain ⟨w, hw⟩ : ∃ w, w = ({ s with store := { s.store with checkAgrees := true, saving := none, defaulted := false } } : State) :=
      ⟨_, rfl⟩
    have hwa : w.alerts = s.alerts := by rw [hw]
    have htouch : TouchesOnly [.store] s w := hw ▸ .of_restore rfl
    have hexec : exec .saveEnd s = .next (lower .configDefaulted w) := by
      rw [exec_saveEnd hs, if_pos ((saving_iff s).mp h), hw]
    have hstore : (lower .configDefaulted w).store = { s.store with checkAgrees := true, saving := none, defaulted := false } := by
      rw [hw, lower_store]
    have hr := ((htouch.andThen (touches_lower w .configDefaulted)).weaken (cs := [.store, .alerts]) rfl).restored
    simp only [restore, List.foldr, Block.copy] at hr
    exact ⟨_, hexec, hstore, alertEnded_of_alerts hwa (alertEnded_lower .configDefaulted w),
      alertsSameBut_of_alerts hwa (lower_same_but .configDefaulted w), hr⟩
  case idle => rw [exec_saveEnd hs, if_neg (by simp [not_saving h])]

end Sys2Proof.Machine
end

section
/-! The holder stage (R42 to R56). -/

namespace Sys2Proof.Machine

open Sys2Proof

section Stages

variable {p : Pass} {s t u : State} {d : Int}

/-- A condition's record is judged by what it read before and after. -/
theorem alertFollows_congr {a : Alert} {before now : Bool} {s' t' : State} (hs : alertState a s = alertState a s')
    (ht : alertState a t = alertState a t') (h : AlertFollows a before now s t) : AlertFollows a before now s' t' := by
  unfold AlertFollows AlertEnded at *
  rwa [← hs, ← ht]

/-- The six production energies, less what the consumers and the flare took. -/
theorem netMetered_bounds (figures : Tab 12 Figures) :
    let energy := fun m : Meter => ((figures.get m).energy : Int)
    let net := energy 0 + energy 1 + energy 2 + energy 3 + energy 4 + energy 5 -
      (energy 6 + energy 7 + energy 8 + energy 9 + energy 10) - energy flareMeter
    2000 * netMetered figures ≤ 2 * net + 1000 ∧ 2 * net + 1000 < 2000 * (netMetered figures + 1) := by
  intro energy net
  have hnet : (sumOver productionMeters (fun m => (figures.get m).energy) : Int) -
      sumOver consumerMeters (fun m => (figures.get m).energy) - (figures.get flareMeter).energy = net := by
    simp only [sumOver, productionMeters, consumerMeters, List.map_cons, List.map_nil, List.sum_cons, List.sum_nil, net, energy]
    push_cast
    ring
  have h := roundHalfUp_bounds (num := net) (den := 1000) (by decide)
  rw [netMetered, hnet]
  exact h

/-! ## The band, HOLDER_LOW and the overfill (R46 to R49, R53, R54) -/

theorem leveled_band (p : Pass) (s : State) : (leveled p s).holder.band = stageBand p (s.channels.get chA1).reading.toNat s := rfl

theorem stageBand_switched {level : Nat} (h : p.switched = true) : stageBand p level s = recomputeBand (activeBank s) level :=
  if_pos h

theorem stageBand_frozen {level : Nat} (h : p.switched = false) (hf : (s.channels.get chA1).fault = true) :
    stageBand p level s = s.holder.band := by rw [stageBand, if_neg (by simp [h]), if_pos hf]

theorem stageBand_selected {level : Nat} (h : p.switched = false) (hf : (s.channels.get chA1).fault = false) :
    stageBand p level s = selectBand (activeBank s) level s.holder.band := by
  rw [stageBand, if_neg (by simp [h]), if_neg (by simp [hf])]

theorem stageHolderLow_alert (old : Band) (s : State) :
    (s.holder.band = old → alertState .holderLow (stageHolderLow old s) = alertState .holderLow s) ∧
      (s.holder.band ≠ old →
        (s.holder.band = .row 0 → alertState .holderLow (stageHolderLow old s) = .active) ∧
        (s.holder.band ≠ .row 0 → AlertEnded .holderLow s (stageHolderLow old s))) ∧
      AlertsSameBut [.holderLow] s (stageHolderLow old s) := by
  by_cases hold : s.holder.band = old
  · rw [stageHolderLow, if_pos hold]
    exact ⟨fun _ => rfl, fun h => absurd hold h, fun _ _ => rfl⟩
  · rw [stageHolderLow, if_neg hold]
    by_cases hrow : s.holder.band = .row 0
    · rw [followHolderLow, if_pos hrow]
      exact ⟨fun h => absurd h hold, fun _ => ⟨fun _ => alertState_raise _ _, fun h => absurd hrow h⟩, raise_same_but _ _⟩
    · rw [followHolderLow, if_neg hrow]
      exact ⟨fun h => absurd h hold, fun _ => ⟨fun h => absurd h hrow, fun _ => alertEnded_lower _ _⟩, lower_same_but _ _⟩

/-- The overfill condition as the leveled holder gives it. -/
def overfilled (p : Pass) (s : State) : Bool := (s.contacts.get conK3).debounced || (leveled p s).holder.band = .fallThrough

theorem bandFollowed_holder (p : Pass) (s : State) :
    (bandFollowed p s).holder = { (leveled p s).holder with overfill := overfilled p s } := by
  have hl := touches_leveled s p
  have hcontacts : (leveled p s).contacts = s.contacts := hl.same .contacts rfl
  rw [bandFollowed, overfilled]
  generalize leveled p s = u at hcontacts
  have hlow := touches_stageHolderLow u s.holder.band
  have hholder : (stageHolderLow s.holder.band u).holder = u.holder := hlow.same .holder rfl
  have hcontacts' : (stageHolderLow s.holder.band u).contacts = u.contacts := hlow.same .contacts rfl
  rw [followOverfill, overfillNow, hholder, hcontacts', hcontacts]

/-- What HOLDER_LOW and HOLDER_OVERFILL read after the band. -/
theorem bandFollowed_alerts (p : Pass) (s : State) :
    ((leveled p s).holder.band = s.holder.band → alertState .holderLow (bandFollowed p s) = alertState .holderLow s) ∧
      ((leveled p s).holder.band ≠ s.holder.band →
        ((leveled p s).holder.band = .row 0 → alertState .holderLow (bandFollowed p s) = .active) ∧
        ((leveled p s).holder.band ≠ .row 0 → AlertEnded .holderLow s (bandFollowed p s))) ∧
      AlertFollows .holderOverfill s.holder.overfill (overfilled p s) s (bandFollowed p s) ∧
      AlertsSameBut [.holderLow, .holderOverfill] s (bandFollowed p s) := by
  have hheld := bandFollowed_holder p s
  have hlo : (leveled p s).holder.overfill = s.holder.overfill := rfl
  have hla : (leveled p s).alerts = s.alerts := rfl
  obtain ⟨hsame, hmoves, hbut⟩ := stageHolderLow_alert s.holder.band (leveled p s)
  rw [bandFollowed] at *
  generalize leveled p s = w at *
  have huh : (stageHolderLow s.holder.band w).holder = w.holder := (touches_stageHolderLow w s.holder.band).same .holder rfl
  generalize stageHolderLow s.holder.band w = u at *
  have hover : overfillNow u = overfilled p s := congrArg Holder.overfill hheld
  have halerts : (followOverfill u).alerts = alertFollow .holderOverfill s.holder.overfill (overfilled p s) u.alerts := by
    rw [← hover, ← hlo, ← huh]
    rfl
  obtain ⟨hfollows, hfbut⟩ := alertFollows_of_follow halerts
  have hlow : alertState .holderLow (followOverfill u) = alertState .holderLow u := alertState_of_sameBut hfbut (by simp)
  have hover0 : alertState .holderOverfill u = alertState .holderOverfill w := alertState_of_sameBut hbut (by simp)
  have hwa (a : Alert) : alertState a w = alertState a s := congrArg (·.get (alertNumber a)) hla
  refine ⟨fun h => (hlow.trans (hsame h)).trans (hwa _), fun h => ⟨fun hr => hlow.trans ((hmoves h).1 hr), fun hr => ?_⟩,
    alertFollows_congr (hover0.trans (hwa _)) rfl hfollows, fun n hn => ?_⟩
  · have hended : AlertEnded .holderLow w u := (hmoves h).2 hr
    rw [AlertEnded, hlow, hended, hwa]
  · simp only [List.map_cons, List.map_nil, List.mem_cons, List.not_mem_nil, or_false, not_or] at hn
    rw [hfbut n (by simpa using hn.2), hbut n (by simpa using hn.1), hla]

/-! ## The balance check (R49 to R51) -/

/-- The policy banks after an onset of the mismatch, or none (R149). -/
def mismatchFired (before now : Bool) (s : State) : Policy :=
  if before = false ∧ now = true then
    { s.policy with switch := fireBindings s.config.bindings s.policy.active .mismatch s.policy.switch }
  else s.policy

/-- A judged window: the alert and the bindings follow the mismatch. -/
def windowJudged (now : Bool) (s : State) : State :=
  let w := { s with holder := { s.holder with accumulator := 0, window := 0, mismatch := now } }
  if now && !s.holder.mismatch then signal .mismatch (raise .balanceMismatch w)
  else if s.holder.mismatch && !now then lower .balanceMismatch w
  else w

theorem balanceCheck_open (h : s.holder.window + 1 < s.config.balanceWindow) (d : Int) :
    balanceCheck d s =
      { s with holder := { s.holder with accumulator := s.holder.accumulator + d, window := s.holder.window + 1 } } := if_pos h

theorem balanceCheck_judged (h : s.config.balanceWindow ≤ s.holder.window + 1) (d : Int) :
    balanceCheck d s = windowJudged (s.config.balanceTolerance * 3600 < (s.holder.accumulator + d).natAbs) s := if_neg (by omega)

theorem windowJudged_leaves (now : Bool) (s : State) :
    (windowJudged now s).holder = { s.holder with accumulator := 0, window := 0, mismatch := now } ∧
      (AlertFollows .balanceMismatch s.holder.mismatch now s (windowJudged now s) ∧
        AlertsSameBut [.balanceMismatch] s (windowJudged now s)) ∧
      (windowJudged now s).policy = mismatchFired s.holder.mismatch now s := by
  have halerts : (windowJudged now s).alerts = alertFollow .balanceMismatch s.holder.mismatch now s.alerts := by
    unfold windowJudged alertFollow
    cases now <;> cases s.holder.mismatch <;> rfl
  refine ⟨?_, alertFollows_of_follow halerts, ?_⟩
  · unfold windowJudged
    cases now <;> cases s.holder.mismatch <;> rfl
  · unfold windowJudged mismatchFired
    cases now <;> cases s.holder.mismatch <;> rfl

/-- What the balance check leaves of its three figures, its alert and the bindings. -/
theorem balanceChecked_leaves (p : Pass) (s : State) :
    ∃ (acc : Int) (window : Nat) (now : Bool),
      (balanceChecked p s).holder =
        { (bandFollowed p s).holder with accumulator := acc, window := window, mismatch := now } ∧
      (AlertFollows .balanceMismatch s.holder.mismatch now (bandFollowed p s) (balanceChecked p s) ∧
        AlertsSameBut [.balanceMismatch] (bandFollowed p s) (balanceChecked p s)) ∧
      (balanceChecked p s).policy = mismatchFired s.holder.mismatch now s ∧
      ((s.channels.get chA1).fault = true ∨ p.sampled.a1Ended = true →
        acc = s.holder.accumulator ∧ window = s.holder.window ∧ now = s.holder.mismatch) ∧
      ((s.channels.get chA1).fault = false → p.sampled.a1Ended = false →
        (s.holder.window + 1 < s.config.balanceWindow →
          acc = s.holder.accumulator + ((leveled p s).holder.deltaI - netMetered p.measured.figures) ∧
          window = s.holder.window + 1 ∧ now = s.holder.mismatch) ∧
        (s.config.balanceWindow ≤ s.holder.window + 1 →
          acc = 0 ∧ window = 0 ∧ (now = true ↔ s.config.balanceTolerance * 3600 <
            (s.holder.accumulator + ((leveled p s).holder.deltaI - netMetered p.measured.figures)).natAbs))) := by
  have hheld := bandFollowed_holder p s
  have htouch := touches_bandFollowed s p
  have hacc : (leveled p s).holder.accumulator = s.holder.accumulator := rfl
  have hwin : (leveled p s).holder.window = s.holder.window := rfl
  have hmis : (leveled p s).holder.mismatch = s.holder.mismatch := rfl
  unfold balanceChecked
  generalize (leveled p s).holder.deltaI - netMetered p.measured.figures = d
  generalize bandFollowed p s = u at hheld htouch ⊢
  have hconfig : u.config = s.config := htouch.same .config rfl
  have hpolicy : u.policy = s.policy := htouch.same .policy rfl
  have huacc : u.holder.accumulator = s.holder.accumulator := (congrArg Holder.accumulator hheld).trans hacc
  have huwin : u.holder.window = s.holder.window := (congrArg Holder.window hheld).trans hwin
  have humis : u.holder.mismatch = s.holder.mismatch := (congrArg Holder.mismatch hheld).trans hmis
  have hunfired (b : Bool) : mismatchFired b b s = s.policy := if_neg (by cases b <;> simp)
  by_cases hskip : ((s.channels.get chA1).fault || p.sampled.a1Ended) = true
  · rw [if_pos hskip]
    refine ⟨u.holder.accumulator, u.holder.window, u.holder.mismatch, rfl,
      ⟨⟨fun _ => rfl, fun h h' => absurd (h.symm.trans (humis ▸ h')) (by simp),
        fun h h' => absurd (h.symm.trans (humis ▸ h')) (by simp)⟩, fun _ _ => rfl⟩, ?_, fun _ => ⟨huacc, huwin, humis⟩,
      fun hf ha => by simp [hf, ha] at hskip⟩
    rw [humis, hunfired, hpolicy]
  · rw [if_neg hskip]
    simp only [Bool.or_eq_true, not_or, Bool.not_eq_true] at hskip
    by_cases hopen : u.holder.window + 1 < u.config.balanceWindow
    · rw [balanceCheck_open hopen]
      refine ⟨u.holder.accumulator + d, u.holder.window + 1, u.holder.mismatch, rfl,
        ⟨⟨fun _ => rfl, fun h h' => absurd (h.symm.trans (humis ▸ h')) (by simp),
          fun h h' => absurd (h.symm.trans (humis ▸ h')) (by simp)⟩, fun _ _ => rfl⟩, ?_, fun h => by simp [hskip] at h,
        fun _ _ => ⟨fun _ => ⟨by rw [huacc], by rw [huwin], humis⟩, fun h => ?_⟩⟩
      · rw [humis, hunfired]
        exact hpolicy
      · rw [huwin, hconfig] at hopen
        omega
    · rw [balanceCheck_judged (Nat.not_lt.mp hopen)]
      obtain ⟨hholder, halerts, hfired⟩ := windowJudged_leaves
        (u.config.balanceTolerance * 3600 < (u.holder.accumulator + d).natAbs) u
      refine ⟨0, 0, _, hholder, humis ▸ halerts, ?_, fun h => by simp [hskip] at h,
        fun _ _ => ⟨fun h => ?_, fun _ => ⟨rfl, rfl, ?_⟩⟩⟩
      · rw [hfired, mismatchFired, mismatchFired, humis, hpolicy, hconfig]
      · rw [huwin, hconfig] at hopen
        omega
      · rw [decide_eq_true_iff, hconfig, huacc]

/-- The pressure conditions of an A2 reading (R55). -/
theorem pressureNow_iff (s : State) :
    (pressureHighNow s = true ↔ (s.channels.get chA2).fault = false ∧
      (s.config.pressureHigh : Int) ≤ (s.channels.get chA2).reading) ∧
    (pressureLowNow s = true ↔ (s.channels.get chA2).fault = false ∧
      (s.channels.get chA2).reading < (s.config.pressureLow : Int)) := by
  simp [pressureHighNow, pressureLowNow]

theorem followPressure_leaves (u : State) :
    (followPressure u).holder = { u.holder with pressureHigh := pressureHighNow u, pressureLow := pressureLowNow u } ∧
      (AlertFollows .pressureHigh u.holder.pressureHigh (pressureHighNow u) u (followPressure u) ∧
        AlertsSameBut [.pressureHigh] u (followPressure u)) := ⟨rfl, alertFollows_of_follow rfl⟩

/-- The holder as the stage leaves it, by what it is formed of. -/
def heldHolder (p : Pass) (s : State) (acc : Int) (window : Nat) (now : Bool) : Holder :=
  { (leveled p s).holder with
    overfill := overfilled p s, accumulator := acc, window := window, mismatch := now
    pressureHigh := pressureHighNow s, pressureLow := pressureLowNow s }

/-- What the holder stage leaves of the holder, of its four records and of the bindings. -/
theorem holderStep_leaves (p : Pass) (s : State) :
    ∃ (acc : Int) (window : Nat) (now : Bool) (u : State),
      holderStep p s = withPass (handedPass p u.holder) u ∧ u.holder = heldHolder p s acc window now ∧
      u.policy = mismatchFired s.holder.mismatch now s ∧
      TouchesOnly [.holder, .alerts, .policy] s u ∧
      ((s.channels.get chA1).fault = true ∨ p.sampled.a1Ended = true →
        acc = s.holder.accumulator ∧ window = s.holder.window ∧ now = s.holder.mismatch) ∧
      ((s.channels.get chA1).fault = false → p.sampled.a1Ended = false →
        (s.holder.window + 1 < s.config.balanceWindow →
          acc = s.holder.accumulator + ((leveled p s).holder.deltaI - netMetered p.measured.figures) ∧
          window = s.holder.window + 1 ∧ now = s.holder.mismatch) ∧
        (s.config.balanceWindow ≤ s.holder.window + 1 →
          acc = 0 ∧ window = 0 ∧ (now = true ↔ s.config.balanceTolerance * 3600 <
            (s.holder.accumulator + ((leveled p s).holder.deltaI - netMetered p.measured.figures)).natAbs))) ∧
      ((leveled p s).holder.band = s.holder.band → alertState .holderLow u = alertState .holderLow s) ∧
      ((leveled p s).holder.band ≠ s.holder.band →
        ((leveled p s).holder.band = .row 0 → alertState .holderLow u = .active) ∧
        ((leveled p s).holder.band ≠ .row 0 → AlertEnded .holderLow s u)) ∧
      AlertFollows .holderOverfill s.holder.overfill (overfilled p s) s u ∧
      AlertFollows .pressureHigh s.holder.pressureHigh (pressureHighNow s) s u ∧
      AlertFollows .balanceMismatch s.holder.mismatch now s u ∧
      AlertsSameBut [.holderLow, .holderOverfill, .balanceMismatch, .pressureHigh] s u := by
  obtain ⟨acc, window, now, hholder, ⟨hmismatch, hmbut⟩, hpolicy, hskip, hcheck⟩ := balanceChecked_leaves p s
  obtain ⟨hlow, hmoves, hover, hbut⟩ := bandFollowed_alerts p s
  have hband := bandFollowed_holder p s
  have htouch := touches_balanceChecked s p
  have hstep := holderStep_eq p s
  have hpressure : (leveled p s).holder.pressureHigh = s.holder.pressureHigh := rfl
  generalize bandFollowed p s = w at *
  generalize balanceChecked p s = v at *
  obtain ⟨hvh, hhigh, hhbut⟩ := followPressure_leaves v
  have hvtouch := (htouch.andThen (touches_followPressure v)).weaken (cs := [.holder, .alerts, .policy]) rfl
  have hvpolicy : (followPressure v).policy = v.policy := (touches_followPressure v).same .policy rfl
  have hchannels : v.channels = s.channels := htouch.same .channels rfl
  have hconfig : v.config = s.config := htouch.same .config rfl
  have hnow : pressureHighNow v = pressureHighNow s ∧ pressureLowNow v = pressureLowNow s := by
    rw [pressureHighNow, pressureHighNow, pressureLowNow, pressureLowNow, hchannels, hconfig]
    exact ⟨rfl, rfl⟩
  rw [hnow.1, hnow.2] at hvh
  rw [hnow.1] at hhigh
  generalize followPressure v = u at *
  have hold : v.holder.pressureHigh = s.holder.pressureHigh := by
    rw [hholder, hband]
    exact hpressure
  have hv (a : Alert) (ha : a ≠ .balanceMismatch) : alertState a v = alertState a w :=
    alertState_of_sameBut hmbut (by simpa using ha)
  have hu (a : Alert) (ha : a ≠ .pressureHigh) : alertState a u = alertState a v :=
    alertState_of_sameBut hhbut (by simpa using ha)
  have hw (a : Alert) (h1 : a ≠ .holderLow) (h2 : a ≠ .holderOverfill) : alertState a w = alertState a s :=
    alertState_of_sameBut hbut (by simp [h1, h2])
  have hlu : alertState .holderLow u = alertState .holderLow w := (hu _ (by simp)).trans (hv _ (by simp))
  refine ⟨acc, window, now, u, hstep, ?_, hvpolicy.trans hpolicy, hvtouch, hskip, hcheck, fun h => hlu.trans (hlow h),
    fun h => ⟨fun hr => hlu.trans ((hmoves h).1 hr), fun hr => hlu.trans ((hmoves h).2 hr)⟩,
    alertFollows_congr rfl ((hu _ (by simp)).trans (hv _ (by simp))).symm hover,
    alertFollows_congr ((hv _ (by simp)).trans (hw _ (by simp) (by simp))) rfl (hold ▸ hhigh),
    alertFollows_congr (hw _ (by simp) (by simp)) (hu _ (by simp)).symm hmismatch, fun n hn => ?_⟩
  · rw [hvh, hholder, hband, heldHolder]
  · simp only [List.map_cons, List.map_nil, List.mem_cons, List.not_mem_nil, or_false, not_or] at hn
    obtain ⟨hn1, hn2, hn3, hn4⟩ := hn
    rw [hhbut n (by simpa using hn4), hmbut n (by simpa using hn3), hbut n (by simp [hn1, hn2])]

end Stages

/-- Settles O26: the stage's records are read off one after the other, and the band by its three cases. -/
theorem holderStageFormsLevelAndOverrides : Obligations.HolderStageFormsLevelAndOverrides := by
  intro p s hs hp hst level energy net
  have hexec := exec_inStage (i := .holderStage) (f := holderStep) rfl hs hp hst
  obtain ⟨acc, window, now, u, hstep, hholder, hpolicy, htouch, hskip, hcheck, hlow, hmoves, hover, hhigh, hmismatch, hbut⟩ :=
    holderStep_leaves p s
  obtain ⟨hnetLow, hnetHigh⟩ := netMetered_bounds p.measured.figures
  obtain ⟨hhighNow, hlowNow⟩ := pressureNow_iff s
  have hrest := ((htouch.andThen (touches_withPass u (handedPass p u.holder))).weaken
    (cs := [.holder, .alerts, .policy, .balance]) rfl).restored
  simp only [restore, List.foldr, Block.copy] at hrest
  have hth : (withPass (handedPass p u.holder) u).holder = u.holder := rfl
  have hta : (withPass (handedPass p u.holder) u).alerts = u.alerts := rfl
  have htp : (withPass (handedPass p u.holder) u).policy = u.policy := rfl
  have htb : (withPass (handedPass p u.holder) u).balance = { u.balance with pass := some (handedPass p u.holder) } := rfl
  have hub : u.balance = s.balance := htouch.same .balance rfl
  refine ⟨_, handedPass p u.holder, netMetered p.measured.figures, hexec.trans (by rw [hstep]), congrArg Balance.pass htb, rfl,
    hnetLow, hnetHigh, ?_⟩
  generalize withPass (handedPass p u.holder) u = t at hrest hth hta htp htb
  have hstate (a : Alert) : alertState a t = alertState a u := congrArg (·.get (alertNumber a)) hta
  have hheld : t.holder = heldHolder p s acc window now := hth.trans hholder
  have hpass : (handedPass p u.holder).handed =
      { band := t.holder.band, overfill := p.sampled.k3 || t.holder.band = .fallThrough
        pressureHigh := t.holder.pressureHigh, pressureLow := t.holder.pressureLow } := by rw [hth]; rfl
  have hlevel : t.holder.level = level := by rw [hheld]; rfl
  have hdelta : t.holder.deltaI = (leveled p s).holder.deltaI := by rw [hheld]; rfl
  have hband : t.holder.band = stageBand p level s := by rw [hheld]; rfl
  have hlband : (leveled p s).holder.band = t.holder.band := by rw [hheld]; rfl
  have hacc : t.holder.accumulator = acc := by rw [hheld]; rfl
  have hwindow : t.holder.window = window := by rw [hheld]; rfl
  have hnow : t.holder.mismatch = now := by rw [hheld]; rfl
  have hoverfill : t.holder.overfill = overfilled p s := by rw [hheld]; rfl
  have hph : t.holder.pressureHigh = pressureHighNow s := by rw [hheld]; rfl
  have hpl : t.holder.pressureLow = pressureLowNow s := by rw [hheld]; rfl
  rw [hlband] at hlow hmoves
  have hfollows {a : Alert} {before after : Bool} (h : AlertFollows a before after s u) : AlertFollows a before after s t :=
    alertFollows_congr rfl (hstate a).symm h
  refine ⟨hlevel, by rw [hheld]; rfl, by rw [hheld]; rfl, by rw [hheld]; rfl, fun h => hband.trans (stageBand_switched h),
    fun h h' => hband.trans (stageBand_frozen h h'), fun h h' => hband.trans (stageBand_selected h h'), fun h => ?skip,
    fun h h' hw => ?opened, fun h h' hw => ?judged, ?overfill, ?high, ?low, ?handedBand, ?handedHigh, ?handedLow,
    ?handedOver, fun h => (hstate _).trans (hlow h),
    fun h => ⟨fun hr => (hstate _).trans ((hmoves h).1 hr), fun hr => (hstate _).trans ((hmoves h).2 hr)⟩,
    hfollows (hoverfill ▸ hover), hfollows (hph ▸ hhigh), hfollows (hnow ▸ hmismatch), fun n hn => hta ▸ hbut n hn, ?policy,
    rfl, ?balance, hrest⟩
  case skip =>
    obtain ⟨ha, hw, hn⟩ := hskip h
    exact ⟨hacc.trans ha, hwindow.trans hw, hnow.trans hn⟩
  case opened =>
    obtain ⟨ha, hw, hn⟩ := (hcheck h h').1 hw
    exact ⟨hacc.trans (by rw [ha, hdelta]), hwindow.trans hw, hnow.trans hn⟩
  case judged =>
    obtain ⟨ha, hw, hn⟩ := (hcheck h h').2 hw
    exact ⟨hacc.trans ha, hwindow.trans hw, by rw [hnow, hdelta]; exact hn⟩
  case overfill =>
    rw [hoverfill, overfilled, hlband]
    simp
  case high => rw [hph]; exact hhighNow
  case low => rw [hpl]; exact hlowNow
  case handedBand | handedHigh | handedLow => rw [hpass]
  case handedOver =>
    rw [hpass]
    simp
  case policy => rw [htp, hpolicy, mismatchFired, hnow]
  case balance => rw [htb, hub]

end Sys2Proof.Machine
end

section
/-! The measure stage (R10, R31 to R39). -/

namespace Sys2Proof.Machine

open Sys2Proof

section Figures

variable {count factor pAbs tAbs carry ch4 period : Nat}

/-- No gas is lost: the normal volume and the new carry make up what was there (R32, R33). -/
theorem normalVolume_add_newCarry (h : 0 < count) :
    normalVolume count factor pAbs tAbs carry * 1000 + newCarry count factor pAbs tAbs carry =
        microlitres count factor pAbs tAbs + carry ∧
      newCarry count factor pAbs tAbs carry ≤ 999 := by
  have hne : count ≠ 0 := by omega
  simp only [normalVolume, newCarry, carriedTotal, if_neg hne]
  omega

theorem normalVolume_eq : normalVolume count factor pAbs tAbs carry =
    if count = 0 then 0 else (microlitres count factor pAbs tAbs + carry) / 1000 := by
  unfold normalVolume carriedTotal
  split_ifs <;> rfl

/-- A rate is the energy over the period, rounded half up (R35). -/
theorem rateOf_bounds (energy : Nat) (h : 1 ≤ period) :
    2 * (period * 1000) * rateOf energy period ≤ 2 * energy + period * 1000 ∧
      2 * energy + period * 1000 < 2 * (period * 1000) * (rateOf energy period + 1) := by
  have hbounds := roundHalfUp_bounds (num := (energy : Int)) (den := period * 1000) (by omega)
  have hnonneg : 0 ≤ roundHalfUp (energy : Int) (period * 1000) := Int.ediv_nonneg (by positivity) (by positivity)
  have hrate : (rateOf energy period : Int) = roundHalfUp energy (period * 1000) := Int.toNat_of_nonneg hnonneg
  rw [← hrate] at hbounds
  constructor
  · exact_mod_cast hbounds.1
  · exact_mod_cast hbounds.2

end Figures

section Stage

variable {p : Pass} {s : State} {m : Meter}

/-- A CONFIGURE has written the meter's line since the sample stage (R10, R41). -/
abbrev Rewritten (p : Pass) (m : Meter) : Prop := ∃ l : Line, m = lineMeter l ∧ p.sampled.lineChanged.get l = true

theorem countStands_not_rewritten :
    countStands p m = true ↔ passInUse p.settings.inUse m = true ∧ ¬Rewritten p m := by
  rw [countStands_iff]
  refine and_congr_right fun _ => ?_
  simp only [Rewritten, not_exists, not_and, Bool.not_eq_true]

theorem meterCarry_kept (h : p.sampled.counts.get m = 0 ∨ passInUse p.settings.inUse m = false ∨ Rewritten p m) :
    meterCarry p s m = s.normalizer.carries.get m := by
  unfold meterCarry
  split_ifs with hstands
  · obtain ⟨huse, hno⟩ := countStands_not_rewritten.mp hstands
    obtain h | h | h := h
    · rw [newCarry, if_pos h]
    · exact absurd (huse.symm.trans h) (by simp)
    · exact absurd h hno
  · rfl

theorem meterHeld_eq (p : Pass) (s : State) (m : Meter) :
    meterHeld p s m =
      if m.val < 6 ∧ countStands p m = true ∧ 0 < p.sampled.counts.get m then
        { s.meters.get m with heldRate := (meterMeasured p s m).rate }
      else s.meters.get m := by
  simp [meterHeld, and_assoc]

theorem meterFigures_off (h : passInUse p.settings.inUse m = false) : meterFigures p s m = ⟨0, 0, 0⟩ := by
  simp [meterFigures, h]

theorem meterFigures_substituted (h : passInUse p.settings.inUse m = true) {rate : Nat}
    (hr : p.sampled.substitutes.get m = some rate) :
    meterFigures p s m = substituteFigures rate p.period p.sampled.ch4 := by simp [meterFigures, h, hr]

theorem meterFigures_measured (h : passInUse p.settings.inUse m = true) (hr : p.sampled.substitutes.get m = none) :
    meterFigures p s m = meterMeasured p s m := by simp [meterFigures, h, hr]

theorem meterMeasured_eq (h : passInUse p.settings.inUse m = true) :
    meterMeasured p s m =
      measuredFigures (p.sampled.counts.get m) (p.settings.factors.get m) (absolutePressure p.settings s.channels)
        (absoluteTemperature p.settings s.channels) (s.normalizer.carries.get m) p.sampled.ch4 p.period := if_pos h

theorem productionRate_eq (figures : Tab 12 Figures) :
    productionRate figures = Nat.min 20000 (sumOver productionMeters fun m => (figures.get m).rate) := by
  rw [productionRate, clampNat_zero]
  exact Nat.min_comm _ _

/-- The pass as the measure stage leaves it. -/
def measuredPass (p : Pass) (s : State) : Pass :=
  let figures := Tab.gen (meterFigures p s)
  { p with
    stage := .measured
    measured :=
      { figures, pRaw := productionRate figures
        pF := filtered p.settings.filterShift s.normalizer.filtered (productionRate figures) } }

/-- The blocks as the measure stage leaves them. -/
theorem measureStep_blocks (p : Pass) (s : State) :
    (measureStep p s).balance = { s.balance with pass := some (measuredPass p s) } ∧
      (measureStep p s).meters = Tab.gen (meterHeld p s) ∧
      (measureStep p s).normalizer =
        { carries := Tab.gen (meterCarry p s), filtered := (measuredPass p s).measured.pF } := ⟨rfl, rfl, rfl⟩

end Stage

/-- Settles O25: each meter's figures and carry by its own count, the rest by the stage's equations. -/
theorem measureStageFormsThePassFigures : Obligations.MeasureStageFormsThePassFigures := by
  intro p s hs hp hst pAbs tAbs perPass changed
  have hexec := exec_inStage (i := .measureStage) (f := measureStep) rfl hs hp hst
  obtain ⟨hbalance, hmeters, hnormalizer⟩ := measureStep_blocks p s
  have hrest := ((touches_measureStep s p).weaken (cs := [.meters, .normalizer, .balance]) rfl).restored
  simp only [restore, List.foldr, Block.copy] at hrest
  generalize measureStep p s = t at hexec hbalance hmeters hnormalizer hrest
  have hcarry (m : Meter) : t.normalizer.carries.get m = meterCarry p s m := by rw [hnormalizer, Tab.get_gen]
  have hheld (m : Meter) : t.meters.get m = meterHeld p s m := by rw [hmeters, Tab.get_gen]
  have hfigures (m : Meter) : (measuredPass p s).measured.figures.get m = meterFigures p s m := Tab.get_gen _ _
  refine ⟨t, measuredPass p s, hexec, congrArg Balance.pass hbalance, rfl, fun m h => (hcarry m).trans (meterCarry_kept h),
    fun m h => (hfigures m).trans (meterFigures_off h), fun m huse => ?_, fun m => ?_, productionRate_eq _, rfl,
    congrArg Normalizer.filtered hnormalizer, rfl, by rw [hbalance], hrest⟩
  · intro count micro total volume energy
    have hstands (hno : ¬changed m) : countStands p m = true := countStands_not_rewritten.mpr ⟨huse, hno⟩
    have hvolume : normalVolume (p.sampled.counts.get m) (p.settings.factors.get m) (absolutePressure p.settings s.channels)
        (absoluteTemperature p.settings s.channels) (s.normalizer.carries.get m) = volume := normalVolume_eq
    have hmeasured : meterMeasured p s m = ⟨volume, energy, rateOf energy p.period⟩ := by
      rw [meterMeasured_eq huse, measuredFigures, hvolume]
      rfl
    refine ⟨fun hcount hno => ?_, fun rate hr => (hfigures m).trans (meterFigures_substituted huse hr),
      rateOf energy p.period, fun hT => rateOf_bounds energy hT,
      fun hr => (hfigures m).trans ((meterFigures_measured huse hr).trans hmeasured), fun hm hcount hno => ?_⟩
    · have hcarried : t.normalizer.carries.get m =
          newCarry count (p.settings.factors.get m) pAbs tAbs (s.normalizer.carries.get m) :=
        (hcarry m).trans (if_pos (hstands hno))
      rw [hcarried, ← hvolume]
      exact normalVolume_add_newCarry hcount
    · rw [hheld, meterHeld_eq, if_pos ⟨hm, hstands hno, hcount⟩, hmeasured]
  · rw [hheld, meterHeld_eq]
    refine ⟨by split_ifs <;> rfl, fun h => if_neg ?_⟩
    rintro ⟨hm, hstands, hcount⟩
    obtain ⟨huse, hno⟩ := countStands_not_rewritten.mp hstands
    obtain h | h | h | h := h
    · omega
    · omega
    · exact absurd (huse.symm.trans h) (by simp)
    · exact hno h

end Sys2Proof.Machine
end

section
/-! The sample stage: counters, channels, quality and the sour condition as the pass takes them (R3, R7, R10, R12 to
R14, R20, R21, R28, R87). -/

namespace Sys2Proof.Machine

open Sys2Proof

variable {s : State}

/-! ## The counters (R2, R3, R7, R10) -/

section Counters

variable {r : MeterRec} {production : Bool} {m : Meter}

/-- The snapshot ends the meter's stall: pulses for the third pass in a row (R7). -/
def recovers (r : MeterRec) : Prop := r.stalled = true ∧ 0 < r.count ∧ 2 ≤ r.recovery

theorem snapMeter_sound (h : r.stalled = false) : snapMeter production r = { r with count := 0 } := by
  simp [snapMeter, h]

theorem snapMeter_recovers (h : recovers r) : snapMeter production r =
    { r with count := 0, stalled := false, recovery := 0, hold := 0, stallTimer := some 0 } := by
  obtain ⟨hs, hc, hr⟩ := h
  simp [snapMeter, hs, hc, hr]

theorem snapMeter_stalled (hs : r.stalled = true) (h : ¬recovers r) : snapMeter production r =
    { r with count := 0, recovery := if 0 < r.count then r.recovery + 1 else 0
             hold := r.hold + if production then 1 else 0 } := by
  have hno : ¬(0 < r.count ∧ 2 ≤ r.recovery) := fun hr => h ⟨hs, hr⟩
  cases production <;> simp [snapMeter, hs, hno]

/-- The stall that remains after the snapshot. -/
theorem snapMeter_stays_stalled : (snapMeter production r).stalled = true ↔ r.stalled = true ∧ ¬recovers r := by
  cases hs : r.stalled with
  | false => simp [snapMeter_sound hs, hs]
  | true =>
    by_cases h : recovers r
    · simp [snapMeter_recovers h, h]
    · simp [snapMeter_stalled hs h, h, hs]

/-- Where the meter stage ends the timer and the stall, of the snapshot only the cleared counter remains. -/
theorem snapMeter_ended (production : Bool) (r : MeterRec) :
    { snapMeter production r with stallTimer := none, stalled := false, recovery := 0, hold := 0 } =
      { r with count := 0, stallTimer := none, stalled := false, recovery := 0, hold := 0 } := by
  unfold snapMeter
  split_ifs <;> rfl

theorem snapMeters_get (m : Meter) :
    (snapMeters s).meters.get m = snapMeter (decide (m.val < 6)) (s.meters.get m) := Tab.get_gen _ _

theorem snapMeters_stall_ended (h : recovers (s.meters.get m)) : AlertEnded (.meterStall m) s (snapMeters s) := by
  have hafter : ((snapAll s.meters).get m).stalled = false := by
    rw [snapAll, Tab.get_gen, snapMeter_recovers h]
  rw [AlertEnded, ← endOf_eq]
  simp [alertState, snapMeters, snapAlerts, alertNumber, h.1, hafter]

theorem snapMeters_stall_kept (h : ¬recovers (s.meters.get m)) :
    alertState (.meterStall m) (snapMeters s) = alertState (.meterStall m) s := by
  have hafter : (s.meters.get m).stalled = true → ((snapAll s.meters).get m).stalled = true := fun hs => by
    rw [snapAll, Tab.get_gen]
    exact snapMeter_stays_stalled.mpr ⟨hs, h⟩
  simp +contextual [alertState, snapMeters, snapAlerts, alertNumber, hafter]

theorem snapMeters_overrun_ended (m : Meter) : AlertEnded (.counterOverrun m) s (snapMeters s) := by
  rw [AlertEnded, ← endOf_eq]
  simp [alertState, snapMeters, snapAlerts, alertNumber, show 12 + m.val < 24 by omega]

theorem snapMeters_alert {n : Fin 58} (h : 24 ≤ n.val) : (snapMeters s).alerts.get n = s.alerts.get n := by
  simp [snapMeters, snapAlerts, show ¬n.val < 12 by omega, show ¬n.val < 24 by omega]

end Counters

/-! ## Substitutes (R8, R9, R10) -/

section Substitutes

variable {p : Pass} {m : Meter} {amps : Currents}

theorem substituteOf_production {stallHold demand : Nat} {claims : Tab 5 Claim} {r : MeterRec} (hs : r.stalled = true)
    (hm : m.val < 6) :
    substituteOf stallHold claims demand m r = some (if r.hold ≤ stallHold then r.heldRate else 0) := by
  simp [substituteOf, hs, hm]

theorem substituteOf_slotMeter {stallHold demand : Nat} {claims : Tab 5 Claim} {r : MeterRec} (hs : r.stalled = true)
    (c : Slot) : substituteOf stallHold claims demand (slotMeter c) r = some (claims.get c).lastRate := by
  have h6 : ¬(slotMeter c).val < 6 := by simp [slotMeter]
  have h11 : (slotMeter c).val < 11 := by simp only [slotMeter]; omega
  have hc : (⟨(slotMeter c).val - 6, by omega⟩ : Slot) = c := Fin.ext (by simp [slotMeter])
  rw [substituteOf, if_pos hs, if_neg h6, dif_pos h11, hc]

theorem substituteOf_flareMeter {stallHold demand : Nat} {claims : Tab 5 Claim} {r : MeterRec} (hs : r.stalled = true) :
    substituteOf stallHold claims demand flareMeter r = some demand := by
  simp [substituteOf, hs, flareMeter]

theorem sampledOf_substitutes (amps : Currents) (p : Pass) (s : State) (m : Meter) :
    (sampledOf amps p s).substitutes.get m =
      substituteOf p.settings.stallHold s.claims s.flare.demand m (snapMeter (decide (m.val < 6)) (s.meters.get m)) := by
  rw [← snapMeters_get]
  exact Tab.get_gen _ _

theorem sampledOf_no_substitute (h : (s.meters.get m).stalled = false ∨ recovers (s.meters.get m)) :
    (sampledOf amps p s).substitutes.get m = none := by
  have hs : (snapMeter (decide (m.val < 6)) (s.meters.get m)).stalled = false := by
    rw [← Bool.not_eq_true, snapMeter_stays_stalled]
    rintro ⟨hs, hr⟩
    obtain h | h := h
    · exact absurd (hs.symm.trans h) (by simp)
    · exact hr h
  rw [sampledOf_substitutes, substituteOf, hs]
  rfl

/-- What stands in for the count of a meter that stays stalled. -/
theorem sampledOf_substitute (hs : (s.meters.get m).stalled = true) (h : ¬recovers (s.meters.get m)) :
    (m.val < 6 → (sampledOf amps p s).substitutes.get m =
      some (if (s.meters.get m).hold + 1 ≤ p.settings.stallHold then (s.meters.get m).heldRate else 0)) ∧
    (∀ c : Slot, m = slotMeter c → (sampledOf amps p s).substitutes.get m = some (s.claims.get c).lastRate) ∧
    (m = flareMeter → (sampledOf amps p s).substitutes.get m = some s.flare.demand) := by
  have hstays : (snapMeter (decide (m.val < 6)) (s.meters.get m)).stalled = true := snapMeter_stays_stalled.mpr ⟨hs, h⟩
  rw [sampledOf_substitutes]
  refine ⟨fun hm => ?_, ?_, ?_⟩
  · rw [substituteOf_production hstays hm, snapMeter_stalled hs h]
    simp [hm]
  · rintro c rfl
    exact substituteOf_slotMeter hstays c
  · rintro rfl
    exact substituteOf_flareMeter hstays

end Substitutes

/-! ## The channels (R12 to R14) -/

section Channels

variable {a b : Channel}

theorem alertFollow_ne {x : Alert} {before now : Bool} {u : Tab 58 AlertState} {n : Fin 58} (h : n ≠ alertNumber x) :
    (alertFollow x before now u).get n = u.get n := by
  unfold alertFollow alertOnset alertEnd
  split_ifs
  · exact Tab.get_set_ne _ _ h
  · exact Tab.get_set_ne _ _ h
  · rfl

theorem alertFollow_congr {x : Alert} {before now : Bool} {t u : Tab 58 AlertState}
    (h : t.get (alertNumber x) = u.get (alertNumber x)) :
    (alertFollow x before now t).get (alertNumber x) = (alertFollow x before now u).get (alertNumber x) := by
  unfold alertFollow alertOnset alertEnd
  split_ifs <;> simp [h]

theorem channelFault_ne (h : a ≠ b) : alertNumber (.channelFault a) ≠ alertNumber (.channelFault b) := fun e =>
  h (Alert.channelFault.inj (alertNumber_injective e))

/-- Each channel's record follows its own fault flag, whatever the order. -/
theorem followChannelAlerts_same (before after : Tab 5 ChannelRec) (u : Tab 58 AlertState) (a : Channel) :
    (followChannelAlerts before after u).get (alertNumber (.channelFault a)) =
      (alertFollow (.channelFault a) (before.get a).fault (after.get a).fault u).get (alertNumber (.channelFault a)) := by
  have hall : ∀ a : Channel, a ∈ ([chA1, chA2, chA3, chA4, chA5] : List Channel) := by decide
  have h := foldl_view (fun (a : Channel) (u : Tab 58 AlertState) => u.get (alertNumber (.channelFault a)))
    (fun u a => alertFollow (.channelFault a) (before.get a).fault (after.get a).fault u)
    (fun _ _ _ h => alertFollow_ne (channelFault_ne h)) (fun _ _ _ h => alertFollow_congr h)
    (is := [chA1, chA2, chA3, chA4, chA5]) (by decide) u a
  rwa [if_pos (hall a)] at h

theorem followChannelAlerts_ne (before after : Tab 5 ChannelRec) (u : Tab 58 AlertState) {n : Fin 58}
    (h : ∀ a : Channel, n ≠ alertNumber (.channelFault a)) : (followChannelAlerts before after u).get n = u.get n := by
  simp only [followChannelAlerts, List.foldl, alertFollow_ne (h _)]

/-- What the analog stage leaves in the channels and the register (R12 to R14). -/
theorem sampleAnalog_leaves (amps : Currents) (s : State) (a : Channel) :
    (sampleAnalog amps s).channels.get a =
        sampleChannel (classify (s.config.ranges.get a) (amps.get a)) (s.channels.get a) ∧
      AlertFollows (.channelFault a) (s.channels.get a).fault ((sampleAnalog amps s).channels.get a).fault s
        (sampleAnalog amps s) := by
  have hchannels : (sampleAnalog amps s).channels = sampleAll s.config.ranges amps s.channels := rfl
  have halerts : (sampleAnalog amps s).alerts =
      followChannelAlerts s.channels (sampleAll s.config.ranges amps s.channels) s.alerts := rfl
  rw [← hchannels] at halerts
  refine ⟨by rw [hchannels, sampleAll, Tab.get_gen], ?_⟩
  generalize sampleAnalog amps s = t at halerts
  have hstate : alertState (.channelFault a)
      { s with alerts := alertFollow (.channelFault a) (s.channels.get a).fault (t.channels.get a).fault s.alerts } =
        alertState (.channelFault a) t := by
    rw [alertState, alertState, halerts, followChannelAlerts_same]
  exact alertFollows_congr rfl hstate (alertFollows_of_follow rfl).1

theorem sampleAnalog_alert (amps : Currents) (s : State) {n : Fin 58} (h : ∀ a : Channel, n ≠ alertNumber (.channelFault a)) :
    (sampleAnalog amps s).alerts.get n = s.alerts.get n := followChannelAlerts_ne _ _ _ h

end Channels

/-! ## The quality monitor's examination (R20, R21) -/

section Quality

theorem examineQuality_live (hl : s.quality.source = .live) (h : samplesQualify s = true) :
    examineQuality s =
      { s with quality :=
          { s.quality with ch4 := (s.channels.get chA4).reading.toNat, h2s := (s.channels.get chA5).reading.toNat } } := by
  rw [examineQuality, if_pos hl, if_pos h]

theorem examineQuality_leaves (hl : s.quality.source = .live) (h : ¬samplesQualify s = true) :
    examineQuality s = enterHeld s := by
  rw [examineQuality, if_pos hl, if_neg h]

theorem examineQuality_idle (hl : s.quality.source ≠ .live) : examineQuality s = s := if_neg hl

theorem examineQuality_sameBut (s : State) :
    AlertsSameBut [.qualityHeld, .qualitySubstituted] s (examineQuality s) := by
  unfold examineQuality
  split_ifs
  · exact fun _ _ => rfl
  · exact (enterHeld_leaves s).2
  · exact fun _ _ => rfl

/-- Leaving LIVE reads the configuration, the monitor, the policy banks and its two records. -/
theorem qualityLeftLive_congr {s w t : State} (hq : w.quality = s.quality) (hc : w.config = s.config) (hp : w.policy = s.policy)
    (ha : alertState .qualitySubstituted w = alertState .qualitySubstituted s) (h : qualityLeftLive w t) :
    qualityLeftLive s t := by
  unfold qualityLeftLive at *
  rwa [hq, hc, hp, ha] at h

end Quality

/-! ## The sour evaluation's claims (R28, R29, R69) -/

section Evaluation

/-- The sour evaluation counts, or it locks C1 to C4, or it unlocks them. -/
theorem evaluateSour_cases (h2s : Nat) (s : State) :
    (∃ high low, evaluateSour h2s s = sourCounted high low s) ∨
      evaluateSour h2s s = signal .sour (raise .sourGas (lockAll .sour (soured true 0 0 s))) ∨
      evaluateSour h2s s = lower .sourGas (unlockAll .sour (soured false 0 0 s)) := by
  cases hs : s.quality.sour with
  | false =>
    obtain h | h := Nat.lt_or_ge s.config.sourLimit h2s
    · obtain hp | hp := Nat.lt_or_ge (s.quality.high + 1) s.config.sourPersistence
      · exact .inl ⟨_, _, evaluateSour_rises hs h hp⟩
      · exact .inr (.inl (evaluateSour_onset hs h hp))
    · exact .inl ⟨_, _, evaluateSour_clear hs h⟩
  | true =>
    obtain h | h := Nat.lt_or_ge h2s (sourEndLevel s.config)
    · obtain hp | hp := Nat.lt_or_ge (s.quality.low + 1) s.config.sourPersistence
      · exact .inl ⟨_, _, evaluateSour_falls hs h hp⟩
      · exact .inr (.inr (evaluateSour_end hs h hp))
    · exact .inl ⟨_, _, evaluateSour_stays hs h⟩

theorem evaluateSour_sameBut (h2s : Nat) (s : State) : AlertsSameBut [.sourGas] s (evaluateSour h2s s) := by
  obtain ⟨high, low, h⟩ | h | h := evaluateSour_cases h2s s <;> rw [h]
  · exact fun _ _ => rfl
  · have hu : (lockAll .sour (soured true 0 0 s)).alerts = s.alerts :=
      ((touches_soured true 0 0 s).andThen (touches_lockAll _ .sour)).same .alerts rfl
    exact alertsSameBut_of_alerts hu (raise_same_but _ _)
  · have hu : (unlockAll .sour (soured false 0 0 s)).alerts = s.alerts :=
      ((touches_soured false 0 0 s).andThen (touches_unlockAll _ .sour)).same .alerts rfl
    exact alertsSameBut_of_alerts hu (lower_same_but _ _)

/-- The sour condition moves no cause but its own, and leaves C5 alone. -/
theorem evaluateSour_claims (h2s : Nat) (s : State) :
    (∀ c : Slot, ((evaluateSour h2s s).claims.get c).locks.gasRoom = (s.claims.get c).locks.gasRoom ∧
      ((evaluateSour h2s s).claims.get c).locks.estop = (s.claims.get c).locks.estop ∧
      ((evaluateSour h2s s).claims.get c).locks.held = (s.claims.get c).locks.held) ∧
    (evaluateSour h2s s).claims.get 4 = s.claims.get 4 := by
  have hlast : ∀ c : Slot, c.val < 4 ∨ c = 4 := by decide
  obtain ⟨high, low, h⟩ | h | h := evaluateSour_cases h2s s <;> rw [h]
  · exact ⟨fun c => ⟨rfl, rfl, rfl⟩, rfl⟩
  · obtain ⟨hlocked, hother⟩ := sourLocked_get s 0 0
    have hclaims : (signal .sour (raise .sourGas (lockAll .sour (soured true 0 0 s)))).claims =
        (lockAll .sour (soured true 0 0 s)).claims := by rw [signal_claims, raise_claims]
    rw [hclaims]
    refine ⟨fun c => ?_, hother⟩
    obtain hc | rfl := hlast c
    · rw [(hlocked c hc).2, addCause_set]
      exact ⟨rfl, rfl, rfl⟩
    · rw [hother]
      exact ⟨rfl, rfl, rfl⟩
  · obtain ⟨hunlocked, hother⟩ := sourUnlocked_get s 0 0
    have hclaims : (lower .sourGas (unlockAll .sour (soured false 0 0 s))).claims =
        (unlockAll .sour (soured false 0 0 s)).claims := lower_claims _ _
    rw [hclaims]
    refine ⟨fun c => ?_, hother⟩
    obtain hc | rfl := hlast c
    · rw [(hunlocked c hc).2, removeCause_set]
      exact ⟨rfl, rfl, rfl⟩
    · rw [hother]
      exact ⟨rfl, rfl, rfl⟩

/-- The sour evaluation keeps the working quality. -/
theorem evaluateSour_quality (h2s : Nat) (s : State) :
    (evaluateSour h2s s).quality.ch4 = s.quality.ch4 ∧ (evaluateSour h2s s).quality.h2s = s.quality.h2s ∧
      (evaluateSour h2s s).quality.source = s.quality.source := by
  obtain ⟨high, low, h⟩ | h | h := evaluateSour_cases h2s s <;> rw [h]
  · exact ⟨rfl, rfl, rfl⟩
  · have hq : (lockAll .sour (soured true 0 0 s)).quality = (soured true 0 0 s).quality :=
      (touches_lockAll _ .sour).same .quality rfl
    rw [signal_quality, raise_quality, hq]
    exact ⟨rfl, rfl, rfl⟩
  · have hq : (unlockAll .sour (soured false 0 0 s)).quality = (soured false 0 0 s).quality :=
      (touches_unlockAll _ .sour).same .quality rfl
    rw [lower_quality, hq]
    exact ⟨rfl, rfl, rfl⟩

end Evaluation

/-! ## The meter stage after the snapshot (R5, R7) -/

section Followed

variable {t u : State} {m : Meter}

theorem flowExpected_followFlow (s u : State) (m : Meter) : flowExpected (followFlow s u) m = flowExpected u m :=
  flowExpected_congr rfl rfl rfl m

theorem followFlow_stall_same (h : flowExpected u m = flowExpected s m) :
    alertState (.meterStall m) (followFlow s u) = alertState (.meterStall m) u :=
  followFlow_alert fun k hk => by
    obtain rfl : m = k := Fin.ext (by simpa [alertNumber] using hk)
    exact h

/-- An ended stall record reads the same where the meter stage ends it again. -/
theorem followFlow_stall_ended (h : AlertEnded (.meterStall m) s u) : AlertEnded (.meterStall m) s (followFlow s u) := by
  rw [AlertEnded, ← endOf_eq] at *
  by_cases he : flowExpected s m = true ∧ flowExpected u m = false
  · rw [followFlow_alert_end he.1 he.2, h, endOf_endOf]
  · have hkept : (followFlow s u).alerts.get (alertNumber (.meterStall m)) = u.alerts.get (alertNumber (.meterStall m)) := by
      simp only [followFlow_alerts, followAlerts, Tab.get_gen]
      simp [alertNumber]
      exact fun h₁ h₂ => absurd ⟨h₁, h₂⟩ he
    exact hkept.trans h

/-- What the sample stage leaves of a meter, the flow expectation moved by the claims that it locks. -/
theorem snapped_followed (ht : t = followFlow s u) (hm : u.meters = (snapMeters s).meters)
    (ha : ∀ m, alertState (.meterStall m) u = alertState (.meterStall m) (snapMeters s)) (m : Meter) :
    (flowExpected t m = flowExpected s m →
      t.meters.get m = snapMeter (decide (m.val < 6)) (s.meters.get m) ∧
      (¬recovers (s.meters.get m) → alertState (.meterStall m) t = alertState (.meterStall m) s)) ∧
    (flowExpected s m = true → flowExpected t m = false →
      t.meters.get m =
        { s.meters.get m with count := 0, stallTimer := none, stalled := false, recovery := 0, hold := 0 } ∧
      AlertEnded (.meterStall m) s t) ∧
    (recovers (s.meters.get m) → AlertEnded (.meterStall m) s t) := by
  subst ht
  have hget : u.meters.get m = snapMeter (decide (m.val < 6)) (s.meters.get m) := by rw [hm, snapMeters_get]
  have hended (h : recovers (s.meters.get m)) : AlertEnded (.meterStall m) s (followFlow s u) :=
    followFlow_stall_ended ((ha m).trans (snapMeters_stall_ended h))
  rw [flowExpected_followFlow]
  refine ⟨fun he => ⟨(followFlow_meter he).trans hget, fun hr => ?_⟩, fun h₁ h₂ => ⟨?_, ?_⟩, hended⟩
  · rw [followFlow_stall_same he, ha, snapMeters_stall_kept hr]
  · rw [followFlow_meters, Tab.get_gen, h₁, h₂, hget]
    exact snapMeter_ended _ _
  · by_cases hr : recovers (s.meters.get m)
    · exact hended hr
    · rw [AlertEnded, ← endOf_eq, followFlow_alert_end h₁ h₂, ha, snapMeters_stall_kept hr]

end Followed

/-! ## The stage as a whole (R87) -/

section Stage

variable {amps : Currents}

theorem sampledOf_counts (amps : Currents) (p : Pass) (s : State) (m : Meter) :
    (sampledOf amps p s).counts.get m = (s.meters.get m).count := Tab.get_gen _ _

/-- The quality monitor as it is handed to the sour evaluation (R20, R21). -/
theorem fieldSampled_quality {channels : Tab 5 ChannelRec} (hcs : channels = (sampleAnalog amps (snapMeters s)).channels) :
    let v := fieldSampled amps s
    let good := (channels.get chA4).fault = false ∧ (channels.get chA5).fault = false ∧
      within 300 900 (channels.get chA4).reading
    let leaves := s.quality.source = .live ∧ ¬good
    (¬leaves → v.policy = s.policy ∧ alertState .qualityHeld v = alertState .qualityHeld s ∧
      alertState .qualitySubstituted v = alertState .qualitySubstituted s) ∧
    (s.quality.source = .live → good →
      v.quality = { s.quality with ch4 := (channels.get chA4).reading.toNat
                                   h2s := (channels.get chA5).reading.toNat }) ∧
    (leaves → qualityLeftLive s v) ∧
    (s.quality.source ≠ .live → v.quality = s.quality) := by
  intro v good leaves
  obtain ⟨w, hwdef⟩ : ∃ w, w = sampleAnalog amps (snapMeters s) := ⟨_, rfl⟩
  rw [← hwdef] at hcs
  have hw : TouchesOnly [.meters, .channels, .loops, .alerts] s w :=
    hwdef ▸ ((touches_snapMeters s).andThen (touches_sampleAnalog _ amps)).weaken rfl
  have hq : w.quality = s.quality := hw.same .quality rfl
  have hp : w.policy = s.policy := hw.same .policy rfl
  have hc : w.config = s.config := hw.same .config rfl
  have hafter (n : Fin 58) (h : 29 ≤ n.val) : w.alerts.get n = s.alerts.get n :=
    (hwdef ▸ sampleAnalog_alert amps (snapMeters s) fun a e => by
      have : n.val = 24 + a.val := congrArg Fin.val e
      omega).trans (snapMeters_alert (by omega))
  have hheld : alertState .qualityHeld w = alertState .qualityHeld s := hafter 29 (by decide)
  have hsub : alertState .qualitySubstituted w = alertState .qualitySubstituted s := hafter 30 (by decide)
  have hgood : samplesQualify w = true ↔ good := by rw [samplesQualify_iff, ← hcs]
  have hv : v = examineQuality w := by rw [hwdef]; rfl
  clear_value v
  by_cases hl : s.quality.source = .live
  · by_cases hg : good
    · have hexamined := hv.trans (examineQuality_live (hq ▸ hl) (hgood.mpr hg))
      rw [hexamined]
      exact ⟨fun _ => ⟨hp, hheld, hsub⟩, fun _ _ => by rw [hq, hcs], fun h => absurd hg h.2, fun h => absurd hl h⟩
    · have hexamined := hv.trans (examineQuality_leaves (hq ▸ hl) (mt hgood.mp hg))
      rw [hexamined]
      exact ⟨fun h => absurd ⟨hl, hg⟩ h, fun _ h => absurd h hg,
        fun _ => qualityLeftLive_congr hq hc hp hsub (enterHeld_leaves w).1, fun h => absurd hl h⟩
  · have hexamined := hv.trans (examineQuality_idle (hq ▸ hl))
    rw [hexamined]
    exact ⟨fun _ => ⟨hp, hheld, hsub⟩, fun h => absurd h hl, fun h => absurd h.1 hl, fun _ => hq⟩

/-- What the register shows of each part of the stage: the counters' records, those of the channels, and the rest. -/
theorem sourEvaluated_alerts (amps : Currents) (s : State) :
    (∀ n : Fin 58, n.val < 24 → (sourEvaluated amps s).alerts.get n = (snapMeters s).alerts.get n) ∧
    (∀ n : Fin 58, 32 ≤ n.val → (sourEvaluated amps s).alerts.get n = s.alerts.get n) ∧
    (∀ a, alertState (.channelFault a) (sourEvaluated amps s) =
      alertState (.channelFault a) (sampleAnalog amps (snapMeters s))) ∧
    alertState .sourGas (fieldSampled amps s) = alertState .sourGas s := by
  have hsour : AlertsSameBut [.sourGas] (fieldSampled amps s) (sourEvaluated amps s) := evaluateSour_sameBut _ _
  have hqual : AlertsSameBut [.qualityHeld, .qualitySubstituted] (sampleAnalog amps (snapMeters s)) (fieldSampled amps s) :=
    examineQuality_sameBut _
  have hanalog (n : Fin 58) (h : n.val < 24 ∨ 29 ≤ n.val) :
      (sampleAnalog amps (snapMeters s)).alerts.get n = (snapMeters s).alerts.get n :=
    sampleAnalog_alert amps _ fun a e => by
      have hn : n.val = 24 + a.val := congrArg Fin.val e
      omega
  have hthrough (n : Fin 58) (h : n.val < 29 ∨ 32 ≤ n.val) :
      (sourEvaluated amps s).alerts.get n = (sampleAnalog amps (snapMeters s)).alerts.get n :=
    (hsour n fun hn => by
      simp only [List.map_cons, List.map_nil, List.mem_cons, List.not_mem_nil, or_false] at hn
      have : n.val = 31 := congrArg Fin.val hn
      omega).trans (hqual n fun hn => by
        simp only [List.map_cons, List.map_nil, List.mem_cons, List.not_mem_nil, or_false] at hn
        have : n.val = 29 ∨ n.val = 30 := hn.imp (congrArg Fin.val) (congrArg Fin.val)
        omega)
  refine ⟨fun n h => (hthrough n (by omega)).trans (hanalog n (.inl h)),
    fun n h => (hthrough n (.inr h)).trans ((hanalog n (by omega)).trans (snapMeters_alert (by omega))),
    fun a => hthrough _ (.inl ?_), ?_⟩
  · simp only [alertNumber]
    omega
  · exact (alertState_of_sameBut hqual (by simp)).trans
      ((hanalog 31 (.inr (by decide))).trans (snapMeters_alert (by decide)))

/-- The pass as the sample stage hands it on. -/
def sampledPass (amps : Currents) (p : Pass) (s : State) : Pass :=
  { p with stage := .sampled, sampled := sampledOf amps p s }

/-- What the pass carries besides its counts and substitutes (R87). -/
theorem sampledPass_leaves (amps : Currents) (p : Pass) (s : State) :
    let q := sampledPass amps p s
    let v := fieldSampled amps s
    q.stage = .sampled ∧
    q.sampled.k3 = (s.contacts.get conK3).debounced ∧ q.sampled.ch4 = v.quality.ch4 ∧ q.sampled.h2s = v.quality.h2s ∧
    q.sampled.source = v.quality.source ∧ q.sampled.lineChanged = Tab.fill 6 false ∧
    (q.sampled.a1Ended = true ↔
      (s.channels.get chA1).fault = true ∧ ((sampleAnalog amps (snapMeters s)).channels.get chA1).fault = false) ∧
    { q with stage := p.stage, sampled := p.sampled } = p := by
  intro q v
  have hk3 : q.sampled.k3 = (v.contacts.get conK3).debounced := rfl
  have hcontacts : v.contacts = s.contacts := (touches_fieldSampled s amps).same .contacts rfl
  have ha1 : q.sampled.a1Ended =
      ((s.channels.get chA1).fault && !((sampleAnalog amps (snapMeters s)).channels.get chA1).fault) := rfl
  refine ⟨rfl, hk3.trans (by rw [hcontacts]), rfl, rfl, rfl, rfl, ?_, rfl⟩
  rw [ha1]
  simp

/-- The state that a sample stage leaves, the meter stage having followed it. -/
def sampledState (amps : Currents) (p : Pass) (s : State) : State := followFlow s (sampleStep amps p s)

theorem sampledState_blocks (amps : Currents) (p : Pass) (s : State) :
    let t := sampledState amps p s
    let e := sourEvaluated amps s
    t.balance = { s.balance with pass := some (sampledPass amps p s) } ∧
      t.channels = (sampleAnalog amps (snapMeters s)).channels ∧ t.loops = amps ∧
      t.quality = e.quality ∧ t.claims = e.claims ∧ t.stack = e.stack ∧ t.policy = e.policy ∧
      t.policy.active = s.policy.active := by
  intro t e
  have hu : TouchesOnly [.balance, .meters, .alerts] e t :=
    (touches_withPass e (sampledPass amps p s)).andThen (touches_followFlow s _)
  have he : TouchesOnly sourBlocks (sampleAnalog amps (snapMeters s)) e :=
    ((touches_examineQuality _).andThen (touches_evaluateSour _ _)).weaken rfl
  have hbalance : e.balance = s.balance := (touches_sourEvaluated s amps).same .balance rfl
  have hpass : t.balance = { e.balance with pass := some (sampledPass amps p s) } := rfl
  exact ⟨by rw [hpass, hbalance], (hu.same .channels rfl).trans (he.same .channels rfl),
    (hu.same .loops rfl).trans (he.same .loops rfl), hu.same .quality rfl, hu.same .claims rfl, hu.same .stack rfl,
    hu.same .policy rfl, (signalled_sampleStep s amps p).2.1⟩

theorem sampledState_frame (amps : Currents) (p : Pass) (s : State) :
    let t := sampledState amps p s
    { t with
      meters := s.meters, channels := s.channels, loops := s.loops, alerts := s.alerts, quality := s.quality
      claims := s.claims, stack := s.stack, policy := s.policy, balance := s.balance } = s := by
  have h := (((touches_sampleStep s amps p).andThen (touches_followFlow s _)).weaken
    (cs := [.meters, .channels, .loops, .alerts, .quality, .claims, .stack, .policy, .balance]) rfl).restored
  simp only [restore, List.foldr, Block.copy] at h
  exact h

/-- The counters' snapshot reaches the meter stage whole (R3). -/
theorem sampleStep_snapped (amps : Currents) (p : Pass) (s : State) :
    (sampleStep amps p s).meters = (snapMeters s).meters ∧
      ∀ m, alertState (.meterStall m) (sampleStep amps p s) = alertState (.meterStall m) (snapMeters s) :=
  ⟨((touches_sourEvaluated_snapped s amps).andThen (touches_withPass _ _)).same .meters rfl,
    fun m => (sourEvaluated_alerts amps s).1 _ (by simp only [alertNumber]; omega)⟩

/-- Past the stall records the register is the sour evaluation's. -/
theorem sampledState_alert (amps : Currents) (p : Pass) (s : State) {n : Fin 58} (h : 12 ≤ n.val) :
    (sampledState amps p s).alerts.get n = (sourEvaluated amps s).alerts.get n :=
  followFlow_alert (b := sampleStep amps p s) fun m e => absurd (congrArg Fin.val e) (by simp only [alertNumber]; omega)

theorem sampledState_overrun_ended (amps : Currents) (p : Pass) (s : State) (m : Meter) :
    AlertEnded (.counterOverrun m) s (sampledState amps p s) := by
  have h : alertState (.counterOverrun m) (sampledState amps p s) = alertState (.counterOverrun m) (snapMeters s) :=
    (sampledState_alert amps p s (by simp [alertNumber])).trans
      ((sourEvaluated_alerts amps s).1 _ (by simp only [alertNumber]; omega))
  exact h.trans (snapMeters_overrun_ended m)

/-- Each channel's reading and its CHANNEL_FAULT record (R12 to R14). -/
theorem sampledState_channel (amps : Currents) (p : Pass) (s : State) (a : Channel) :
    let t := sampledState amps p s
    t.channels.get a = sampleChannel (classify (s.config.ranges.get a) (amps.get a)) (s.channels.get a) ∧
      AlertFollows (.channelFault a) (s.channels.get a).fault (t.channels.get a).fault s t := by
  intro t
  obtain ⟨-, hchannels, -⟩ := sampledState_blocks amps p s
  obtain ⟨-, -, hfault, -⟩ := sourEvaluated_alerts amps s
  obtain ⟨hsampled, hfollows⟩ := sampleAnalog_leaves amps (snapMeters s) a
  have hread : alertState (.channelFault a) (snapMeters s) = alertState (.channelFault a) s :=
    snapMeters_alert (by simp [alertNumber])
  have hshown : alertState (.channelFault a) t = alertState (.channelFault a) (sampleAnalog amps (snapMeters s)) :=
    (sampledState_alert amps p s (by simp only [alertNumber]; omega)).trans (hfault a)
  have htchannels : t.channels = (sampleAnalog amps (snapMeters s)).channels := hchannels
  rw [htchannels]
  exact ⟨hsampled, alertFollows_congr hread hshown.symm hfollows⟩

end Stage

/-- Settles O22: each meter by its own snapshot, then the monitor, the sour evaluation and the meter stage in turn. -/
theorem sampleStageSnapshotsTheField : Obligations.SampleStageSnapshotsTheField := by
  intro amps p s hs hp hst
  have hexec : exec (.sampleStage amps) s = .next (sampledState amps p s) :=
    exec_inStage_followed (f := sampleStep amps) rfl hs hp hst
  obtain ⟨hbalance, hchannels, hloops, hquality, hclaims, hstack, hpolicy, hactive⟩ := sampledState_blocks amps p s
  obtain ⟨hstage, hk3, hworking, hheld, hread, hlines, hended, hkept⟩ := sampledPass_leaves amps p s
  obtain ⟨-, hhigh, -, hsour⟩ := sourEvaluated_alerts amps s
  obtain ⟨hstays, hlive, hleaves, hidle⟩ := fieldSampled_quality hchannels
  have hcounts (m : Meter) : (sampledPass amps p s).sampled.counts.get m = (s.meters.get m).count :=
    sampledOf_counts amps p s m
  have hnone (m : Meter) (h : (s.meters.get m).stalled = false ∨ recovers (s.meters.get m)) :
      (sampledPass amps p s).sampled.substitutes.get m = none := sampledOf_no_substitute h
  have hsome (m : Meter) := sampledOf_substitute (s := s) (m := m) (amps := amps) (p := p)
  have hsubstitutes : (sampledOf amps p s).substitutes = (sampledPass amps p s).sampled.substitutes := rfl
  have hfield := touches_fieldSampled s amps
  have hfclaims : (fieldSampled amps s).claims = s.claims := hfield.same .claims rfl
  have hfstack : (fieldSampled amps s).stack = s.stack := hfield.same .stack rfl
  have hfconfig : (fieldSampled amps s).config = s.config := hfield.same .config rfl
  have hevaluated : sourEvaluated amps s = evaluateSour (fieldSampled amps s).quality.h2s (fieldSampled amps s) := rfl
  obtain ⟨hlocks, hlast⟩ := evaluateSour_claims (fieldSampled amps s).quality.h2s (fieldSampled amps s)
  obtain ⟨hch4, hh2s, hsource⟩ := evaluateSour_quality (fieldSampled amps s).quality.h2s (fieldSampled amps s)
  obtain ⟨hsnapped, hstalls⟩ := sampleStep_snapped amps p s
  have hmeter := snapped_followed (t := sampledState amps p s) rfl hsnapped hstalls
  have hchannel := sampledState_channel amps p s
  have hoverrun := sampledState_overrun_ended amps p s
  have halert (n : Fin 58) (h : 12 ≤ n.val) := sampledState_alert amps p s h
  have hframe := sampledState_frame amps p s
  rw [hsubstitutes] at hsome
  rw [← hevaluated] at hlocks hlast hch4 hh2s hsource
  rw [← hheld] at hevaluated
  rw [← hchannels] at hended
  clear hchannels hsubstitutes hfield hsnapped hstalls
  generalize sampledState amps p s = t at *
  generalize fieldSampled amps s = v at *
  generalize sourEvaluated amps s = e at *
  generalize sampledPass amps p s = q at *
  refine ⟨t, q, hexec, by rw [hbalance], hstage, fun m => ?_, hchannel, hended, hk3, ?_, ?_, ?_, hlines,
    ⟨v, hfclaims, hfstack, hfconfig, hsour, hstays, hlive, hleaves, hidle, ?_, ?_, ?_, ?_, ?_⟩, fun c => ?_, ?_, hloops,
    fun n hn => ?_, hkept, by rw [hbalance], hactive, hframe⟩
  · obtain ⟨hsame, hstopped, hrecovered⟩ := hmeter m
    refine ⟨hcounts m, fun he => ⟨fun hs => ?_, fun hr => ?_, fun hs hr => ?_, (hsame he).2⟩, hstopped, hrecovered, hoverrun m,
      hnone m, hsome m⟩
    · exact (hsame he).1.trans (snapMeter_sound hs)
    · exact (hsame he).1.trans (snapMeter_recovers hr)
    · rw [(hsame he).1, snapMeter_stalled hs hr]
      simp only [decide_eq_true_eq]
  · rw [hquality, hch4, hworking]
  · rw [hquality, hh2s, hheld]
  · rw [hquality, hsource, hread]
  · rw [hquality, hevaluated]
  · rw [hclaims, hevaluated]
  · rw [hstack, hevaluated]
  · rw [hpolicy, hevaluated]
  · intro a ha
    have hnumber : 12 ≤ (alertNumber a).val := by
      revert ha
      simp only [List.mem_cons, List.not_mem_nil, or_false]
      rintro (rfl | rfl | rfl) <;> decide
    exact hevaluated ▸ halert _ hnumber
  · rw [hclaims, ← hfclaims]
    exact hlocks c
  · rw [hclaims, hlast, hfclaims]
  · rw [halert n (by omega), hhigh n hn]

end Sys2Proof.Machine
end

section
/-! The shortfall stage: claims shed whole in cutting order, and shortfall steps (R92 to R96, R108). -/

namespace Sys2Proof.Machine

open Sys2Proof

/-! ## Whole sheds in cutting order (R92, R93) -/

section Whole

variable {cuts : WorkClaim → Bool} {kind : ShedReport} {order : List Slot} {d : Decisions} {c e : Slot}

/-- One claim shed WHOLE where `cuts` picks it. -/
def shedOne (cuts : WorkClaim → Bool) (kind : ShedReport) (d : Decisions) (c : Slot) : Decisions :=
  if cuts (d.work.get c) then cut c .whole (d.work.get c).ceiling { d with kind } else d

/-- What R92 picks: a claim held below its m. -/
def heldBelowMin (w : WorkClaim) : Bool := holdsGas w && decide (w.ceiling < w.m)

/-- What R93 picks: a claim holding a ceiling. -/
def heldAboveZero (w : WorkClaim) : Bool := holdsGas w && decide (0 < w.ceiling)

theorem shedBelowMin_eq : shedBelowMin = shedOne heldBelowMin .steps := rfl

theorem cutAllOne_eq (kind : ShedReport) : cutAllOne kind = shedOne heldAboveZero kind := rfl

/-- The working claim shed WHOLE. -/
def shedWhole (w : WorkClaim) : WorkClaim := { w with state := .shed, withheld := w.withheld + w.ceiling }

theorem shedOne_of (h : cuts (d.work.get c) = true) :
    shedOne cuts kind d c = cut c .whole (d.work.get c).ceiling { d with kind } := if_pos h

theorem shedOne_of_not (h : cuts (d.work.get c) = false) : shedOne cuts kind d c = d := by
  rw [shedOne, h]
  rfl

theorem shedOne_ne (h : e ≠ c) : (shedOne cuts kind d c).work.get e = d.work.get e := by
  unfold shedOne
  split
  · exact cut_work_ne h
  · rfl

/-- The records of the claims that `cuts` picks, in the order given. -/
def shedList (cuts : WorkClaim → Bool) (order : List Slot) (work : Tab 5 WorkClaim) : List Shed :=
  (order.filter fun c => cuts (work.get c) && decide (0 < (work.get c).ceiling)).map
    fun c => ⟨c, .whole, (work.get c).ceiling⟩

/-- What a run over some slots decides, slot by slot. -/
structure ShedOver (cuts : WorkClaim → Bool) (kind : ShedReport) (order : List Slot) (d u : Decisions) : Prop where
  work : ∀ c, u.work.get c = if c ∈ order ∧ cuts (d.work.get c) = true then shedWhole (d.work.get c) else d.work.get c
  toPush : u.toPush = d.toPush ++ shedList cuts order d.work
  shedMade : u.shedMade = (d.shedMade || order.any fun c => cuts (d.work.get c))
  kind : u.kind = if order.any (fun c => cuts (d.work.get c)) then kind else d.kind
  rest : { u with work := d.work, toPush := d.toPush, shedMade := d.shedMade, kind := d.kind } = d

theorem shedList_congr {work work' : Tab 5 WorkClaim} (h : ∀ c ∈ order, work.get c = work'.get c) :
    shedList cuts order work = shedList cuts order work' := by
  have hf : (order.filter fun c => cuts (work.get c) && decide (0 < (work.get c).ceiling)) =
      order.filter fun c => cuts (work'.get c) && decide (0 < (work'.get c).ceiling) :=
    List.filter_congr fun c hc => by rw [h c hc]
  unfold shedList
  rw [hf]
  exact List.map_congr_left fun c hc => by rw [h c (List.mem_of_mem_filter hc)]

/-- The first slot of a run that picks it. -/
theorem ShedOver.cons {u : Decisions} (hc : c ∉ order) (h : ShedOver cuts kind order (shedOne cuts kind d c) u) :
    ShedOver cuts kind (c :: order) d u := by
  have hlater : ∀ e ∈ order, (shedOne cuts kind d c).work.get e = d.work.get e := fun e he =>
    shedOne_ne fun heq => hc (heq ▸ he)
  have hany : (order.any fun e => cuts ((shedOne cuts kind d c).work.get e)) = order.any fun e => cuts (d.work.get e) := by
    rw [Bool.eq_iff_iff, List.any_eq_true, List.any_eq_true]
    exact exists_congr fun e => and_congr_right fun he => by rw [hlater e he]
  have hlist := shedList_congr (cuts := cuts) hlater
  obtain ⟨hwork, hpush, hmade, hkind, hrest⟩ := h
  rw [hany] at hmade hkind
  rw [hlist] at hpush
  cases hp : cuts (d.work.get c) with
  | false =>
    rw [shedOne_of_not hp] at hwork hpush hmade hkind hrest
    refine ⟨fun e => ?_, ?_, ?_, ?_, hrest⟩
    · rw [hwork]
      by_cases he : e = c
      · simp [he, hp]
      · simp [he]
    · simpa [shedList, hp] using hpush
    · simpa [hp] using hmade
    · simpa [hp] using hkind
  | true =>
    rw [shedOne_of hp] at hwork hpush hmade hkind hrest
    refine ⟨fun e => ?_, ?_, ?_, ?_, ?_⟩
    · rw [hwork]
      by_cases he : e = c
      · rw [he, cut_work_same]
        simp [hc, hp, cutWork, shedWhole]
      · rw [cut_work_ne he]
        simp [he]
    · rw [hpush]
      by_cases hz : (d.work.get c).ceiling = 0
      · simp [cut, shedList, hz]
      · simp [cut, shedList, hz, hp, Nat.pos_of_ne_zero hz]
    · simpa [hp, cut] using hmade
    · rw [hkind]
      simp [hp, cut]
    · exact congrArg (fun x : Decisions =>
        { x with work := d.work, toPush := d.toPush, shedMade := d.shedMade, kind := d.kind }) hrest

theorem foldl_shedOne (hd : order.Nodup) (d : Decisions) :
    ShedOver cuts kind order d (order.foldl (shedOne cuts kind) d) := by
  induction order generalizing d with
  | nil => exact ⟨by simp, by simp [shedList], by simp, by simp, rfl⟩
  | cons c cs ih =>
    obtain ⟨hc, hcs⟩ := List.nodup_cons.mp hd
    exact (ih hcs (shedOne cuts kind d c)).cons hc

/-- A run over every slot leaves what R92 and R93 ask, with the shed kind named. -/
theorem ShedOver.eq_wholeSheds {u : Decisions} (h : ShedOver cuts kind order d u) (hall : ∀ c, c ∈ order) :
    u = { wholeSheds cuts order d with
      kind := if order.any (fun c => cuts (d.work.get c)) then kind else d.kind } := by
  obtain ⟨hwork, hpush, hmade, hkind, hrest⟩ := h
  have hw : u.work = (wholeSheds cuts order d).work := Tab.ext_get fun c => by
    rw [hwork c]
    simp [wholeSheds, hall c, shedWhole]
  rw [← hkind]
  have hu : u = { ({ u with work := d.work, toPush := d.toPush, shedMade := d.shedMade, kind := d.kind } : Decisions) with
    work := u.work, toPush := u.toPush, shedMade := u.shedMade, kind := u.kind } := rfl
  rw [hrest, hw, hpush, hmade] at hu
  exact hu

end Whole

/-! ## What every cut keeps -/

section Kept

variable {d u : Decisions} {w : WorkClaim} {c : Slot} {kind : ShedKind} {amount shedStep : Nat}

/-- What a claim adds to S_c (R91). -/
def heldCeiling (w : WorkClaim) : Nat := if holdsGas w then w.ceiling else 0

theorem sumCeilings_eq (work : Tab 5 WorkClaim) :
    sumCeilings work = (allSlots.map fun c => heldCeiling (work.get c)).sum := sumWork_eq _ work

/-- No claim adds more to S_c than it did. -/
def Lessens (d u : Decisions) : Prop := ∀ c, heldCeiling (u.work.get c) ≤ heldCeiling (d.work.get c)

theorem Lessens.sumCeilings_le (h : Lessens d u) : sumCeilings u.work ≤ sumCeilings d.work := by
  rw [sumCeilings_eq, sumCeilings_eq]
  exact List.sum_le_sum fun c _ => h c

/-- Every claim held has at least its m (R92). -/
def MinimaFit (d : Decisions) : Prop := ∀ c, holdsGas (d.work.get c) = true → (d.work.get c).m ≤ (d.work.get c).ceiling

/-- The shed kind of a pass that cuts by its minima and its steps alone (R108). -/
def kindBySheds (d : Decisions) : ShedReport := if d.shedMade then .steps else .none

theorem holdsGas_shedWhole (w : WorkClaim) : holdsGas (shedWhole w) = false := rfl

theorem heldCeiling_shedWhole (w : WorkClaim) : heldCeiling (shedWhole w) = 0 := rfl

theorem heldCeiling_cutWork_le (kind : ShedKind) (amount : Nat) (w : WorkClaim) :
    heldCeiling (cutWork kind amount w) ≤ heldCeiling w := by
  cases kind with
  | whole => exact Nat.zero_le _
  | trim =>
    have hg : holdsGas (cutWork .trim amount w) = holdsGas w := rfl
    unfold heldCeiling
    rw [hg, cutWork_ceiling]
    split
    · exact Nat.sub_le _ _
    · exact Nat.le_refl _

theorem lessens_stepOn (shedStep : Nat) (c : Slot) (d : Decisions) : Lessens d (stepOn shedStep c d) := by
  obtain ⟨kind, amount, h⟩ := stepOn_cases shedStep c d
  intro e
  rw [h]
  by_cases he : e = c
  · rw [he, cut_work_same]
    exact heldCeiling_cutWork_le _ _ _
  · rw [cut_work_ne he]
    exact Nat.le_refl _

theorem stepOn_minimaFit (hm : MinimaFit d) : MinimaFit (stepOn shedStep c d) := by
  intro e he
  by_cases hec : e = c
  · subst hec
    by_cases h : (d.work.get e).m < (d.work.get e).ceiling
    · have hmin : Nat.min shedStep ((d.work.get e).ceiling - (d.work.get e).m) ≤
          (d.work.get e).ceiling - (d.work.get e).m := Nat.min_le_right _ _
      rw [stepOn_trim h, cut_work_same, cutWork_ceiling]
      show (d.work.get e).m ≤ (d.work.get e).ceiling - _
      omega
    · rw [stepOn_whole (Nat.not_lt.mp h), cut_work_same] at he
      exact absurd he (by simp [cutWork, holdsGas])
  · obtain ⟨kind, amount, h⟩ := stepOn_cases shedStep c d
    rw [h, cut_work_ne hec] at he ⊢
    exact hm e he

theorem stepOn_counts (shedStep : Nat) (c : Slot) (d : Decisions) :
    (stepOn shedStep c d).steps = d.steps + 1 ∧ (stepOn shedStep c d).kind = kindBySheds (stepOn shedStep c d) ∧
      (stepOn shedStep c d).shedMade = true ∧ (stepOn shedStep c d).toPush.length ≤ d.toPush.length + 1 := by
  obtain ⟨kind, amount, h⟩ := stepOn_cases shedStep c d
  rw [h]
  refine ⟨rfl, rfl, rfl, ?_⟩
  by_cases hz : amount = 0
  · simp [cut, hz, counted]
  · simp [cut, hz, counted]

end Kept

/-! ## Shortfall steps (R94, R95) -/

section Run

variable {snap : Snapshot} {n k : Nat} {d : Decisions}

/-- The next step on the victim, where one is left. -/
def stepVictim (snap : Snapshot) (d : Decisions) : Decisions :=
  match victim snap.ranks d.work with
  | some c => stepOn snap.row.shedStep c d
  | none => d

/-- The decisions after the first `k` steps. -/
def stepsMade (snap : Snapshot) : Nat → Decisions → Decisions
  | 0, d => d
  | k + 1, d => stepsMade snap k (stepVictim snap d)

theorem stepVictim_some {c : Slot} (h : victim snap.ranks d.work = some c) :
    stepVictim snap d = stepOn snap.row.shedStep c d := by
  rw [stepVictim, h]

theorem stepsMade_succ (k : Nat) (d : Decisions) : stepsMade snap (k + 1) d = stepVictim snap (stepsMade snap k d) := by
  induction k generalizing d with
  | zero => rfl
  | succ k ih => exact ih (stepVictim snap d)

/-- The steps go on while D is less than S_c and a victim is left, and no further than the row allows. -/
theorem shortfallSteps_run (snap : Snapshot) (n : Nat) (d : Decisions) :
    ∃ k, k ≤ n ∧ shortfallSteps snap n d = stepsMade snap k d ∧
      (∀ j, j < k → snap.distributable < sumCeilings (stepsMade snap j d).work ∧
        ∃ c, victim snap.ranks (stepsMade snap j d).work = some c) ∧
      (k < n → sumCeilings (stepsMade snap k d).work ≤ snap.distributable ∨
        victim snap.ranks (stepsMade snap k d).work = none) := by
  induction n generalizing d with
  | zero => exact ⟨0, Nat.le_refl 0, rfl, fun j hj => absurd hj (Nat.not_lt_zero j), fun h => absurd h (Nat.lt_irrefl 0)⟩
  | succ n ih =>
    by_cases hlt : snap.distributable < sumCeilings d.work
    · cases hv : victim snap.ranks d.work with
      | none =>
        have hstop : shortfallSteps snap (n + 1) d = d := by rw [shortfallSteps, if_pos hlt, hv]
        exact ⟨0, Nat.zero_le _, hstop, fun j hj => absurd hj (Nat.not_lt_zero j), fun _ => .inr hv⟩
      | some c =>
        have hnext : shortfallSteps snap (n + 1) d = shortfallSteps snap n (stepVictim snap d) := by
          rw [shortfallSteps, if_pos hlt, stepVictim, hv]
        obtain ⟨k, hk, hrun, hbefore, hafter⟩ := ih (stepVictim snap d)
        refine ⟨k + 1, Nat.succ_le_succ hk, hnext.trans hrun, fun j hj => ?_, fun h => hafter (Nat.lt_of_succ_lt_succ h)⟩
        cases j with
        | zero => exact ⟨hlt, c, hv⟩
        | succ j => exact hbefore j (Nat.lt_of_succ_lt_succ hj)
    · have hstop : shortfallSteps snap (n + 1) d = d := by rw [shortfallSteps, if_neg hlt]
      exact ⟨0, Nat.zero_le _, hstop, fun j hj => absurd hj (Nat.not_lt_zero j), fun _ => .inl (Nat.not_lt.mp hlt)⟩

/-- What the steps keep of the decisions they begin with. -/
theorem stepsMade_keeps (hv : ∀ j, j < k → ∃ c, victim snap.ranks (stepsMade snap j d).work = some c)
    (hm : MinimaFit d) (hkind : d.kind = kindBySheds d) (hpush : d.toPush ≠ [] → d.shedMade = true) :
    (stepsMade snap k d).steps = d.steps + k ∧ MinimaFit (stepsMade snap k d) ∧
      (stepsMade snap k d).kind = kindBySheds (stepsMade snap k d) ∧
      ((stepsMade snap k d).toPush ≠ [] → (stepsMade snap k d).shedMade = true) ∧
      (stepsMade snap k d).toPush.length ≤ d.toPush.length + k ∧ Lessens d (stepsMade snap k d) := by
  induction k with
  | zero => exact ⟨rfl, hm, hkind, hpush, Nat.le_refl _, fun _ => Nat.le_refl _⟩
  | succ k ih =>
    obtain ⟨hsteps, hmin, -, -, hlength, hless⟩ := ih fun j hj => hv j (Nat.lt_succ_of_lt hj)
    obtain ⟨c, hc⟩ := hv k (Nat.lt_succ_self k)
    rw [stepsMade_succ, stepVictim_some hc]
    obtain ⟨hone, hnamed, hmade, hadded⟩ := stepOn_counts snap.row.shedStep c (stepsMade snap k d)
    exact ⟨by rw [hone, hsteps, Nat.add_assoc], stepOn_minimaFit hmin, hnamed, fun _ => hmade, by omega,
      fun e => (lessens_stepOn _ _ _ e).trans (hless e)⟩

end Run

/-! ## The stage's two runs of whole sheds -/

section Over

variable {cuts : WorkClaim → Bool} {kind : ShedReport} {order : List Slot} {d b u : Decisions}

namespace ShedOver

theorem lessens (h : ShedOver cuts kind order d u) : Lessens d u := fun c => by
  rw [h.work c]
  split
  · exact (Nat.zero_le _).trans' (Nat.le_of_eq (heldCeiling_shedWhole _))
  · exact Nat.le_refl _

theorem minimaFit (h : ShedOver cuts kind order d u) (hm : MinimaFit d) : MinimaFit u := fun c hc => by
  rw [h.work c] at hc ⊢
  split at hc
  · exact absurd hc (by simp [holdsGas_shedWhole])
  · next hno => rw [if_neg hno]; exact hm c hc

/-- After the first run every claim held has its m (R92). -/
theorem minimaFit_of_belowMin (h : ShedOver heldBelowMin kind order d u) (hall : ∀ c, c ∈ order) : MinimaFit u := fun c hc => by
  rw [h.work c] at hc ⊢
  split at hc
  · exact absurd hc (by simp [holdsGas_shedWhole])
  · next hno =>
    rw [if_neg hno]
    have hfits : ¬heldBelowMin (d.work.get c) = true := fun hb => hno ⟨hall c, hb⟩
    simpa [heldBelowMin, hc] using hfits

/-- A cut-all leaves no claim a ceiling (R93). -/
theorem sumCeilings_zero (h : ShedOver heldAboveZero kind order d u) (hall : ∀ c, c ∈ order) : sumCeilings u.work = 0 := by
  rw [sumCeilings_eq, List.sum_eq_zero_iff]
  intro x hx
  obtain ⟨c, -, rfl⟩ := List.mem_map.mp hx
  rw [h.work c]
  split
  · exact heldCeiling_shedWhole _
  · next hno =>
    have hzero : ¬heldAboveZero (d.work.get c) = true := fun hz => hno ⟨hall c, hz⟩
    rw [heldCeiling]
    split
    · next hg => simpa [heldAboveZero, hg] using hzero
    · rfl

theorem pushes (h : ShedOver cuts kind order d u) (hd : d.toPush ≠ [] → d.shedMade = true) :
    u.toPush ≠ [] → u.shedMade = true := by
  intro hne
  rw [h.shedMade, Bool.or_eq_true]
  by_cases hp : d.toPush = []
  · refine .inr (List.any_eq_true.mpr ?_)
    rw [h.toPush, hp, List.nil_append] at hne
    obtain ⟨x, hx⟩ := List.exists_mem_of_ne_nil _ hne
    obtain ⟨c, hc, -⟩ := List.mem_map.mp hx
    obtain ⟨hmem, hcut⟩ := List.mem_filter.mp hc
    exact ⟨c, hmem, (Bool.and_eq_true_iff.mp hcut).1⟩
  · exact .inl (hd hp)

theorem steps (h : ShedOver cuts kind order d u) : u.steps = d.steps :=
  (congrArg Decisions.steps h.rest :)

end ShedOver

theorem shedList_length (cuts : WorkClaim → Bool) (order : List Slot) (work : Tab 5 WorkClaim) :
    (shedList cuts order work).length ≤ order.countP fun c => cuts (work.get c) := by
  rw [shedList, List.length_map, ← List.countP_eq_length_filter]
  exact List.countP_mono_left fun c _ h => (Bool.and_eq_true_iff.mp h).1

/-- A claim that the first run shed has nothing left for the second: the two push one record for each slot at most. -/
theorem twoRuns_length (h : ShedOver heldBelowMin kind order d b) :
    (shedList heldBelowMin order d.work).length + (shedList heldAboveZero order b.work).length ≤ order.length := by
  have hapart : order.countP (fun c => heldAboveZero (b.work.get c)) ≤
      order.countP fun c => !heldBelowMin (d.work.get c) :=
    List.countP_mono_left fun c hc hz => by
      rw [Bool.not_eq_true']
      by_contra hb
      rw [h.work c, if_pos ⟨hc, by simpa using hb⟩] at hz
      exact absurd hz (by simp [heldAboveZero, holdsGas_shedWhole])
  have hall := List.length_eq_countP_add_countP (fun c => heldBelowMin (d.work.get c)) (l := order)
  have hno : order.countP (fun c => decide ¬heldBelowMin (d.work.get c) = true) =
      order.countP fun c => !heldBelowMin (d.work.get c) := by
    congr 1
    funext c
    cases heldBelowMin (d.work.get c) <;> rfl
  have h₁ := shedList_length heldBelowMin order d.work
  have h₂ := shedList_length heldAboveZero order b.work
  omega

end Over

/-! ## The stage (R92 to R95, R108) -/

section Stage

variable {snap : Snapshot} {pressureLow : Bool} {d : Decisions}

/-- The decisions once every claim held below its m is shed (R92). -/
def belowMinShed (ranks : Tab 5 Nat) (d : Decisions) : Decisions := (cutOrder ranks).foldl shedBelowMin d

/-- The shed kind that a cut-all or pressure-low pass reports where it cuts a claim by it, and the one it begins with
(R108). -/
def cutAllKind (snap : Snapshot) : ShedReport := if snap.row.cutAll then .cutAll else .pressureLow

def cutAllFrom (snap : Snapshot) (pressureLow : Bool) (b : Decisions) : Decisions :=
  { b with kind := if snap.row.cutAll && pressureLow then .cutAll else b.kind }

theorem shortfall_cutAll (h : snap.row.cutAll = true ∨ pressureLow = true) :
    shortfall snap pressureLow d =
      (cutOrder snap.ranks).foldl (cutAllOne (cutAllKind snap))
        (cutAllFrom snap pressureLow (belowMinShed snap.ranks d)) := by
  unfold shortfall cutAllKind cutAllFrom belowMinShed
  cases hc : snap.row.cutAll <;> cases hp : pressureLow <;> simp [hc, hp] at h ⊢

theorem shortfall_steps (hc : snap.row.cutAll = false) (hp : pressureLow = false) :
    shortfall snap pressureLow d = shortfallSteps snap snap.row.steps (belowMinShed snap.ranks d) := by
  rw [shortfall, hc, hp]
  rfl

theorem cutOrder_nodup (ranks : Tab 5 Nat) : (cutOrder ranks).Nodup := (cutOrder_perm ranks).nodup_iff.mpr (by decide)

theorem belowMinShed_over (ranks : Tab 5 Nat) (d : Decisions) :
    ShedOver heldBelowMin .steps (cutOrder ranks) d (belowMinShed ranks d) := foldl_shedOne (cutOrder_nodup ranks) d

/-- What the first run leaves for the second is what R92 leaves alone and a cut-all takes. -/
theorem heldAboveZero_belowMinShed (ranks : Tab 5 Nat) (d : Decisions) (c : Slot) :
    heldAboveZero ((belowMinShed ranks d).work.get c) = true ↔
      holdsGas (d.work.get c) = true ∧ (d.work.get c).m ≤ (d.work.get c).ceiling ∧ 0 < (d.work.get c).ceiling := by
  rw [(belowMinShed_over ranks d).work c]
  by_cases h : heldBelowMin (d.work.get c) = true
  · rw [if_pos ⟨mem_cutOrder ranks c, h⟩]
    obtain ⟨hg, hlt⟩ : holdsGas (d.work.get c) = true ∧ (d.work.get c).ceiling < (d.work.get c).m := by
      simpa [heldBelowMin] using h
    have hno : ¬(d.work.get c).m ≤ (d.work.get c).ceiling := Nat.not_le.mpr hlt
    simp [heldAboveZero, holdsGas_shedWhole, hno]
  · rw [if_neg fun hand => h hand.2]
    simp only [heldAboveZero, heldBelowMin, Bool.and_eq_true, decide_eq_true_eq, not_and, Nat.not_lt] at h ⊢
    exact ⟨fun ⟨hg, hz⟩ => ⟨hg, h hg, hz⟩, fun ⟨hg, _, hz⟩ => ⟨hg, hz⟩⟩

/-- The decisions before the stage. -/
structure Undecided (d : Decisions) : Prop where
  toPush : d.toPush = []
  shedMade : d.shedMade = false
  kind : d.kind = .none
  steps : d.steps = 0

/-- After the first run the kind tells whether it shed, and nothing is counted as a step. -/
theorem belowMinShed_leaves (ranks : Tab 5 Nat) (h : Undecided d) :
    let b := belowMinShed ranks d
    b = { wholeSheds heldBelowMin (cutOrder ranks) d with
      kind := if (wholeSheds heldBelowMin (cutOrder ranks) d).shedMade then .steps else .none } ∧
    b.kind = kindBySheds b ∧ b.steps = 0 ∧ MinimaFit b ∧ Lessens d b ∧ (b.toPush ≠ [] → b.shedMade = true) ∧
    b.toPush = shedList heldBelowMin (cutOrder ranks) d.work := by
  intro b
  have hover := belowMinShed_over ranks d
  have hall := mem_cutOrder ranks
  have hmade : b.shedMade = (cutOrder ranks).any fun c => heldBelowMin (d.work.get c) := by
    rw [hover.shedMade, h.shedMade, Bool.false_or]
  have hkind : b.kind = kindBySheds b := by
    rw [hover.kind, kindBySheds, hmade, h.kind]
  have hwhole := hover.eq_wholeSheds hall
  rw [h.kind] at hwhole
  refine ⟨hwhole.trans ?_, hkind, hover.steps.trans h.steps, hover.minimaFit_of_belowMin hall, hover.lessens,
    hover.pushes fun hne => absurd h.toPush hne, by rw [hover.toPush, h.toPush, List.nil_append]⟩
  have hany : (wholeSheds heldBelowMin (cutOrder ranks) d).shedMade =
      (cutOrder ranks).any fun c => heldBelowMin (d.work.get c) := by
    rw [wholeSheds, h.shedMade, Bool.false_or]
  rw [hany]

/-- What the stage decides in a pass with a cut-all row or the pressure-low override. -/
theorem shortfall_cutAll_decides (h : snap.row.cutAll = true ∨ pressureLow = true) (hd : Undecided d) :
    let order := cutOrder snap.ranks
    let u := shortfall snap pressureLow d
    { u with kind := .none } =
        { wholeSheds heldAboveZero order (wholeSheds heldBelowMin order d) with kind := .none } ∧
      MinimaFit u ∧ u.steps = 0 ∧ sumCeilings u.work = 0 ∧ Lessens d u ∧ (u.toPush ≠ [] → u.shedMade = true) ∧
      u.toPush.length ≤ 5 ∧
      ((∃ c, heldAboveZero ((belowMinShed snap.ranks d).work.get c) = true) → u.kind = cutAllKind snap) ∧
      ((∀ c, ¬heldAboveZero ((belowMinShed snap.ranks d).work.get c) = true) →
        u.kind = if snap.row.cutAll && pressureLow then .cutAll else kindBySheds u) := by
  intro order u
  have hall : ∀ c, c ∈ order := mem_cutOrder snap.ranks
  obtain ⟨hb, hbkind, hbsteps, hbmin, hbless, hbpush, hblist⟩ := belowMinShed_leaves snap.ranks hd
  have hbover := belowMinShed_over snap.ranks d
  have hu : u = order.foldl (shedOne heldAboveZero (cutAllKind snap))
      (cutAllFrom snap pressureLow (belowMinShed snap.ranks d)) := shortfall_cutAll h
  have hover : ShedOver heldAboveZero (cutAllKind snap) order
      (cutAllFrom snap pressureLow (belowMinShed snap.ranks d)) u := hu ▸ foldl_shedOne (cutOrder_nodup snap.ranks) _
  clear_value u
  generalize belowMinShed snap.ranks d = b at *
  have hany : (order.any fun c => heldAboveZero ((cutAllFrom snap pressureLow b).work.get c)) =
      order.any fun c => heldAboveZero (b.work.get c) := rfl
  refine ⟨?_, hover.minimaFit hbmin, hover.steps.trans hbsteps, hover.sumCeilings_zero hall,
    fun c => (hover.lessens c).trans (hbless c), hover.pushes hbpush, ?_, fun ⟨c, hc⟩ => ?_, fun hno => ?_⟩
  · rw [hover.eq_wholeSheds hall]
    exact congrArg (fun x => { wholeSheds heldAboveZero order x with kind := .none }) hb
  · have hlength := twoRuns_length hbover
    have horder : order.length = 5 := (cutOrder_perm snap.ranks).length_eq
    rw [hover.toPush, List.length_append]
    show b.toPush.length + (shedList heldAboveZero order b.work).length ≤ 5
    rw [hblist]
    exact hlength.trans (Nat.le_of_eq horder)
  · rw [hover.kind, hany, if_pos (List.any_eq_true.mpr ⟨c, hall c, hc⟩)]
  · have hnone : (order.any fun c => heldAboveZero (b.work.get c)) = false := by
      rw [List.any_eq_false]
      exact fun c _ => hno c
    have hmade : u.shedMade = b.shedMade := by
      rw [hover.shedMade, hany, hnone, Bool.or_false]
      rfl
    rw [hover.kind, hany, hnone, kindBySheds, hmade]
    show (if _ then _ else b.kind) = _
    rw [hbkind]
    rfl

/-- What the stage decides in any other pass. -/
theorem shortfall_steps_decides (hc : snap.row.cutAll = false) (hp : pressureLow = false) (hd : Undecided d) :
    let u := shortfall snap pressureLow d
    u = stepsMade snap u.steps (belowMinShed snap.ranks d) ∧ u.steps ≤ snap.row.steps ∧
      (∀ k, k < u.steps → snap.distributable < sumCeilings (stepsMade snap k (belowMinShed snap.ranks d)).work ∧
        ∃ c, victim snap.ranks (stepsMade snap k (belowMinShed snap.ranks d)).work = some c) ∧
      (u.steps < snap.row.steps → sumCeilings u.work ≤ snap.distributable ∨ victim snap.ranks u.work = none) ∧
      MinimaFit u ∧ Lessens d u ∧ u.kind = kindBySheds u ∧ (u.toPush ≠ [] → u.shedMade = true) ∧
      u.toPush.length ≤ 5 + u.steps := by
  intro u
  obtain ⟨-, hbkind, hbsteps, hbmin, hbless, hbpush, hblist⟩ := belowMinShed_leaves snap.ranks hd
  have hbover := belowMinShed_over snap.ranks d
  have hu : u = shortfallSteps snap snap.row.steps (belowMinShed snap.ranks d) := shortfall_steps hc hp
  clear_value u
  generalize belowMinShed snap.ranks d = b at *
  obtain ⟨k, hk, hrun, hbefore, hafter⟩ := shortfallSteps_run snap snap.row.steps b
  obtain ⟨hsteps, hmin, hkind, hpush, hlength, hless⟩ :=
    stepsMade_keeps (fun j hj => (hbefore j hj).2) hbmin hbkind hbpush
  rw [hbsteps, Nat.zero_add] at hsteps
  rw [← hrun, ← hu] at hsteps hmin hkind hpush hlength hless hafter
  have hcount : b.toPush.length ≤ 5 := by
    have htwo := twoRuns_length hbover
    have horder : (cutOrder snap.ranks).length = 5 := (cutOrder_perm snap.ranks).length_eq
    rw [hblist]
    omega
  rw [hsteps]
  exact ⟨hu.trans hrun, hk, hbefore, hafter, hmin, fun c => (hless c).trans (hbless c), hkind, hpush, by omega⟩

end Stage

/-- Settles O38: whole sheds in cutting order, then a second run of them or the steps. -/
theorem shortfallStageCutsToFit : Obligations.ShortfallStageCutsToFit := by
  intro p s hs hp hst hd cuttable
  have hexec := exec_inStage (i := .shortfallStage) (f := shortfallStep) rfl hs hp hst
  have hundecided : Undecided p.decisions := by
    rw [hd]
    exact ⟨rfl, rfl, rfl, rfl⟩
  have hcuttable (c : Slot) : heldAboveZero ((belowMinShed p.snapshot.ranks p.decisions).work.get c) = true ↔ cuttable c :=
    heldAboveZero_belowMinShed _ _ c
  have horder : (cutOrder p.snapshot.ranks).Pairwise fun c e =>
      p.snapshot.ranks.get e < p.snapshot.ranks.get c ∨ p.snapshot.ranks.get c = p.snapshot.ranks.get e ∧ e < c :=
    (cutOrder_pairwise p.snapshot.ranks).imp (cutBefore_iff _ _ _).mp
  have hperm := cutOrder_perm p.snapshot.ranks
  obtain ⟨hb, -⟩ := belowMinShed_leaves p.snapshot.ranks hundecided
  clear_value cuttable
  obtain ⟨q, hq⟩ : ∃ q, q = ({ p with
    stage := .pushing, decisions := shortfall p.snapshot p.handed.pressureLow p.decisions } : Pass) := ⟨_, rfl⟩
  have hqd : q.decisions = shortfall p.snapshot p.handed.pressureLow p.decisions := by rw [hq]
  have hkept : { q with stage := p.stage, decisions := p.decisions } = p := by rw [hq]
  have hstage : q.stage = .pushing := by rw [hq]
  have hstep : shortfallStep p s = withPass q s := by rw [hq]; rfl
  clear hd hq
  refine ⟨_, q, hexec.trans (by rw [hstep]), rfl, hstage, ?_⟩
  by_cases h : p.snapshot.row.cutAll = true ∨ p.handed.pressureLow = true
  · obtain ⟨hdecided, hmin, hsteps, hsum, hless, hpush, hlength, hcut, hnone⟩ := shortfall_cutAll_decides h hundecided
    have hless := hless.sumCeilings_le
    rw [← hqd] at hdecided hmin hsteps hsum hless hpush hlength hcut hnone
    have hcuts (he : ∃ c, cuttable c) : q.decisions.kind = cutAllKind p.snapshot :=
      hcut (he.imp fun c => (hcuttable c).mpr)
    have hleaves (he : ∀ c, ¬cuttable c) := hnone fun c => mt (hcuttable c).mp (he c)
    refine ⟨⟨_, hperm, horder, fun _ => hdecided, fun hc hp => ?_⟩, hmin, fun _ => ⟨hsteps, hsum⟩, fun hc hp => ?_,
      fun hc hp => ?_, fun hc he => ?_, fun hc hp he => ?_, fun hboth he => ?_, hlength.trans (Nat.le_add_right 5 _), hless,
      hpush, hkept, rfl, rfl⟩
    · simp [hc, hp] at h
    · simp [hc, hp] at h
    · by_cases he : ∃ c, cuttable c
      · rw [hcuts he, cutAllKind, if_pos hc]
      · rw [hleaves (not_exists.mp he), hc, hp]
        rfl
    · rw [hcuts he, cutAllKind, if_pos hc]
    · rw [hcuts he, cutAllKind, hc]
      rfl
    · have hno : (p.snapshot.row.cutAll && p.handed.pressureLow) = false := by simpa using hboth
      rw [hleaves (he h), hno]
      rfl
  · obtain ⟨hc, hp⟩ : p.snapshot.row.cutAll = false ∧ p.handed.pressureLow = false := by simpa using h
    obtain ⟨hrun, hsteps, hbefore, hafter, hmin, hless, hkind, hpush, hlength⟩ := shortfall_steps_decides hc hp hundecided
    have hless := hless.sumCeilings_le
    rw [← hqd] at hrun hsteps hbefore hafter hmin hkind hless hpush hlength
    refine ⟨⟨_, hperm, horder, fun hn => absurd hn h, fun _ _ => ⟨fun k => stepsMade p.snapshot k _, hb, hrun.symm, fun k hk => ?_⟩⟩,
      hmin, fun hn => absurd hn h, fun _ _ => ⟨hsteps, fun hlt => (hafter hlt).imp_right fun hv c => victim_none hv⟩,
      fun hn => absurd (.inl hn) h, fun hn => absurd (.inl hn) h, fun _ hn => absurd (.inr hn) h, fun _ _ => hkind, hlength,
      hless, hpush, hkept, rfl, rfl⟩
    obtain ⟨hlt, c, hv⟩ := hbefore k hk
    exact ⟨hlt, c, hv, (stepsMade_succ k _).trans (stepVictim_some hv)⟩

end Sys2Proof.Machine
end

section
/-! The apply stage: what a pass writes to the claims, the stack, its results and the totals (R105 to R108, R116, R136,
R171). -/

namespace Sys2Proof.Machine

open Sys2Proof

section Apply

variable {p : Pass} {s u : State} {c : Slot} {m : Meter}

theorem discards_iff (p : Pass) (claims : Tab 5 Claim) (c : Slot) :
    discards p claims c = true ↔ (claims.get c).epoch ≠ (p.snapshot.claims.get c).epoch := by
  simp [discards]

/-- A claim whose epoch the pass finds unmoved takes the pass's result (R105). -/
theorem applyClaims_written (h : (s.claims.get c).epoch = (p.snapshot.claims.get c).epoch) :
    (applyClaims p s).get c =
      writeResult (p.decisions.work.get c) (p.decisions.allotments.get c) (s.claims.get c) := by
  have hno : ¬discards p s.claims c = true := fun hd => (discards_iff p s.claims c).mp hd h
  exact (Tab.get_gen _ _).trans (if_neg hno)

/-- A claim whose epoch has moved loses the w of its marked records alone (R106). -/
theorem applyClaims_discarded (h : (s.claims.get c).epoch ≠ (p.snapshot.claims.get c).epoch) :
    (applyClaims p s).get c = dropPending c s.stack.records (s.claims.get c) :=
  (Tab.get_gen _ _).trans (if_pos ((discards_iff p s.claims c).mpr h))

/-- The blocks as the apply stage leaves them. -/
theorem applyStep_blocks (p : Pass) (s : State) :
    let t := applyStep p s
    t.claims = applyClaims p s ∧ t.stack = applyStack p s ∧ t.alerts = s.alerts ∧ t.meters = s.meters ∧
    t.balance = { s.balance with
      passNumber := wrapSucc 65535 s.balance.passNumber, spacing := nextSpacing p s.balance.spacing, pass := none
      results := resultsOf p s } ∧
    t.flare = { s.flare with burnSeconds := 0, starts := 0 } ∧
    t.totals = accumulate (lineVolumes p) (slotFigure (·.volume) p) (slotFigure (·.energy) p) s.flare.burnSeconds
      s.flare.starts s.totals := ⟨rfl, rfl, rfl, rfl, rfl, rfl, rfl⟩

theorem toRemove_eq (p : Pass) (claims : Tab 5 Claim) : toRemove p claims = fun r : ShedRecord => r.pending &&
    decide ((claims.get r.slot).epoch ≠ (p.snapshot.claims.get r.slot).epoch) := rfl

/-- A total takes up whole units and its remainder the rest (R171). -/
theorem addTotals_get (unit : Nat) (total remainder amount : Tab 6 Nat) (i : Fin 6) :
    (addTotals unit total remainder amount).get i =
        Nat.min 4294967295 (total.get i + (remainder.get i + amount.get i) / unit) ∧
      (addRemainders unit remainder amount).get i = (remainder.get i + amount.get i) % unit :=
  ⟨(Tab.get_gen _ _).trans (saturate_eq_min _ _), Tab.get_gen _ _⟩

/-- What the totals take up of a pass. -/
theorem accumulate_gets (lineMl slotMl slotJ : Tab 6 Nat) (seconds starts : Nat) (t : Totals) :
    let u := accumulate lineMl slotMl slotJ seconds starts t
    (∀ l : Line,
      u.current.lineLitres.get l =
        Nat.min 4294967295 (t.current.lineLitres.get l + (t.lineRemainders.get l + lineMl.get l) / 1000) ∧
      u.lineRemainders.get l = (t.lineRemainders.get l + lineMl.get l) % 1000) ∧
    (∀ i : Fin 6,
      (u.current.slotLitres.get i =
        Nat.min 4294967295 (t.current.slotLitres.get i + (t.slotRemainders.get i + slotMl.get i) / 1000) ∧
      u.slotRemainders.get i = (t.slotRemainders.get i + slotMl.get i) % 1000) ∧
      u.current.slotKwh.get i =
        Nat.min 4294967295 (t.current.slotKwh.get i + (t.energyRemainders.get i + slotJ.get i) / 3600000) ∧
      u.energyRemainders.get i = (t.energyRemainders.get i + slotJ.get i) % 3600000) ∧
    u.current.burnSeconds = Nat.min 4294967295 (t.current.burnSeconds + seconds) ∧
    u.current.starts = Nat.min 65535 (t.current.starts + starts) ∧
    u.current.passes = Nat.min 4294967295 (t.current.passes + 1) ∧ u.current.start = t.current.start ∧
    { u with
      current := t.current, lineRemainders := t.lineRemainders, slotRemainders := t.slotRemainders
      energyRemainders := t.energyRemainders, checkAgrees := t.checkAgrees } = t :=
  ⟨fun l => addTotals_get 1000 _ _ _ l, fun i => ⟨addTotals_get 1000 _ _ _ i, addTotals_get 3600000 _ _ _ i⟩,
    saturate_eq_min _ _, saturate_eq_min _ _, saturate_eq_min _ _, rfl, rfl⟩

/-- A meter is a line's, the flare's or a slot's. -/
theorem meter_cases : ∀ m : Meter, (m.val < 6 ∨ m = flareMeter) ∨ ∃ c : Slot, m = slotMeter c := by decide

/-- Where the line-in-use flags and the flare's state stay, the meter stage moves no record but those of Q1 to Q5. -/
theorem followFlow_consumerStalls (hi : u.config.inUse = s.config.inUse) (hf : u.flare.state = s.flare.state)
    (ha : u.alerts = s.alerts) : AlertsSameBut consumerStalls s (followFlow s u) := fun n hn => by
  refine (followFlow_alert fun m hm => ?_).trans (congrArg (·.get n) ha)
  obtain hc | ⟨c, rfl⟩ := meter_cases m
  · exact flowExpected_not_consumer hi hf hc
  · exact absurd (List.mem_map.mpr ⟨_, List.mem_map.mpr ⟨c, mem_allSlots c, rfl⟩, hm.symm⟩) hn

end Apply

/-- Settles O45: each claim by its epoch, the stack, results and totals by the stage's equations. -/
theorem applyStageWritesOnlyUnmovedClaims : Obligations.ApplyStageWritesOnlyUnmovedClaims := by
  intro p s hs hp hst line slot
  have hexec := exec_inStage_followed (i := .applyStage) (f := applyStep) rfl hs hp hst
  obtain ⟨hclaims, hstack, halerts, hmeters, hbalance, hflare, htotals⟩ := applyStep_blocks p s
  obtain ⟨hlines, hslots, hseconds, hstarts, hpasses, hstart, hrest⟩ :=
    accumulate_gets (lineVolumes p) (slotFigure (·.volume) p) (slotFigure (·.energy) p) s.flare.burnSeconds
      s.flare.starts s.totals
  have hlv (l : Line) : (lineVolumes p).get l = (line l).volume := Tab.get_gen _ _
  have hsv (i : Fin 6) : (slotFigure (·.volume) p).get i = (slot i).volume := Tab.get_gen _ _
  have hse (i : Fin 6) : (slotFigure (·.energy) p).get i = (slot i).energy := Tab.get_gen _ _
  have hconfig : (applyStep p s).config = s.config := (touches_applyStep s p).same .config rfl
  have hflow : FlowFollowed s (followFlow s (applyStep p s)) :=
    followFlow_flowFollowed hmeters fun m => congrArg (·.get (alertNumber (.meterStall m))) halerts
  have hstalls : AlertsSameBut consumerStalls s (followFlow s (applyStep p s)) :=
    followFlow_consumerStalls (congrArg WorkingConfig.inUse hconfig) (by rw [hflare]) halerts
  have hflowed := touches_followFlow s (applyStep p s)
  have hframe := (((touches_applyStep s p).andThen hflowed).weaken
    (cs := [.claims, .stack, .balance, .flare, .totals, .meters, .alerts]) rfl).restored
  simp only [restore, List.foldr, Block.copy] at hframe
  replace hclaims := (hflowed.same .claims rfl).trans hclaims
  replace hstack := (hflowed.same .stack rfl).trans hstack
  replace hbalance := (hflowed.same .balance rfl).trans hbalance
  replace hflare := (hflowed.same .flare rfl).trans hflare
  replace htotals := (hflowed.same .totals rfl).trans htotals
  rw [← htotals] at hlines hslots hseconds hstarts hpasses hstart hrest
  simp only [hlv, hsv, hse] at hlines hslots
  clear hmeters halerts hconfig hflowed htotals
  generalize followFlow s (applyStep p s) = t at *
  have hresults : t.balance.results = resultsOf p s := by rw [hbalance]
  have hdiscarded : t.balance.results.discarded = Tab.gen (discards p s.claims) := by rw [hresults]; rfl
  have hrates : t.balance.results.slotRates = slotFigure (·.rate) p := by rw [hresults]; rfl
  refine ⟨t, hexec, fun c => ?_, by rw [hstack, applyStack, toRemove_eq], by rw [hstack]; rfl, by rw [hbalance], by rw [hbalance],
    ?_, fun c => ?_, fun i => ?_, ?_, by rw [hbalance], by rw [hbalance], hflare, hlines,
    fun i => ?_, hseconds, hstarts, hpasses, hstart, hrest, hflow, hstalls, hframe⟩
  · intro old w a
    have hget : t.claims.get c = (applyClaims p s).get c := congrArg (·.get c) hclaims
    refine ⟨fun he => ⟨fun hw ha => ?_, fun hne => ?_⟩, fun he => hget.trans (applyClaims_discarded he)⟩
    · exact hget.trans ((applyClaims_written he).trans (writeResult_same hw ha))
    · exact hget.trans ((applyClaims_written he).trans (writeResult_changed hne))
  · rw [hbalance]
    show nextSpacing p _ = _
    rw [nextSpacing, saturate_eq_min]
  · rw [hdiscarded, Tab.get_gen]
    exact discards_iff p s.claims c
  · rw [hrates]
    exact Tab.get_gen _ _
  · rw [hdiscarded, hrates, hresults]
    rfl
  · obtain ⟨⟨hlitres, hml⟩, hkwh, hj⟩ := hslots i
    exact ⟨hlitres, hml, hkwh, hj⟩

end Sys2Proof.Machine
end

section
/-! Readings, working level and working quality in their ranges after every step (sections 1.4, 2.1 and 3.1, R139, R174,
R175). -/

namespace Sys2Proof.Machine

open Sys2Proof

variable {s t u : State}

/-! ## What the settings grant -/

/-- A setting's own range, read off the configuration (R175). -/
theorem ConfigInRange.setting {k : WorkingConfig} (h : ConfigInRange k) (x : Setting) (hx : x ∈ allSettings) :
    within (settingRange x).1 (settingRange x).2 (readSetting k x) := h.1 x hx

/-- The defaults that stand in for A3 to A5 lie in their channels' ranges. -/
theorem ConfigInRange.defaults {k : WorkingConfig} (h : ConfigInRange k) :
    (300 ≤ k.defaultCh4 ∧ k.defaultCh4 ≤ 900) ∧ k.defaultH2s ≤ 5000 ∧ -200 ≤ k.defaultTemp ∧ k.defaultTemp ≤ 600 := by
  have hch4 := h.setting .defaultCh4 (by decide)
  have hh2s := h.setting .defaultH2s (by decide)
  have htemp := h.setting .defaultTemp (by decide)
  simp only [within, settingRange, readSetting] at hch4 hh2s htemp
  omega

theorem ConfigInRange.ranges {k : WorkingConfig} (h : ConfigInRange k) (a : Channel) :
    (fullRanges.get a).lo ≤ (k.ranges.get a).lo ∧ (k.ranges.get a).lo < (k.ranges.get a).hi ∧
      (k.ranges.get a).hi ≤ (fullRanges.get a).hi := by
  obtain ⟨-, -, -, -, hranges, -⟩ := h
  exact hranges a

/-! ## Readings (section 1.4, R12 to R14, R18) -/

section Channels

variable {i : Instr} {amps : Currents}

/-- A value within the quantity's range. -/
abbrev Fits (a : Channel) (v : Int) : Prop := within (fullRanges.get a).lo (fullRanges.get a).hi v

/-- Every reading and last good value is within its quantity's range. -/
abbrev ReadingsFit (s : State) : Prop := ∀ a : Channel, Fits a (s.channels.get a).reading ∧ Fits a (s.channels.get a).lastGood

theorem ReadingsFit.of_same (hs : ReadingsFit s) (h : t.channels = s.channels) : ReadingsFit t := by
  unfold ReadingsFit
  rwa [h]

/-- A sample gives an old value or one within the channel's range. -/
theorem sampleChannel_fits {k : WorkingConfig} (hk : ConfigInRange k) {a : Channel} {c : ChannelRec} (amps : Nat)
    (hr : Fits a c.reading) (hg : Fits a c.lastGood) :
    Fits a (sampleChannel (classify (k.ranges.get a) amps) c).reading ∧
      Fits a (sampleChannel (classify (k.ranges.get a) amps) c).lastGood := by
  obtain ⟨hlo, hlt, hhi⟩ := hk.ranges a
  have hvalue (v : Int) (hv : v ∈ (classify (k.ranges.get a) amps).value) : Fits a v := by
    obtain ⟨h₁, h₂⟩ := classify_within (Int.le_of_lt hlt) amps v hv
    exact ⟨hlo.trans h₁, h₂.trans hhi⟩
  obtain ⟨hreading, hlast⟩ := sampleChannel_values (classify (k.ranges.get a) amps) c
  constructor
  · obtain h | h | h := hreading
    · rwa [h]
    · rwa [h]
    · exact hvalue _ h
  · obtain h | h := hlast
    · rwa [h]
    · exact hvalue _ h

theorem ReadingsFit.start (hk : ConfigInRange s.config) (hg : ∀ a, Fits a (s.channels.get a).lastGood) :
    ReadingsFit (start amps s) := fun a => by
  rw [(start_channels amps s a).1]
  exact sampleChannel_fits hk _ (hg a) (hg a)

/-- The last good values of a power-on start (R18). -/
theorem powerOnLastGood_fits {k : WorkingConfig} (hk : ConfigInRange k) (a : Channel) : Fits a ((powerOnLastGood k).get a) := by
  obtain ⟨hch4, hh2s, htemp⟩ := hk.defaults
  have h1 := hk.ranges chA1
  have h2 := hk.ranges chA2
  have hall : ∀ a : Channel, a = chA1 ∨ a = chA2 ∨ a = chA3 ∨ a = chA4 ∨ a = chA5 := by decide
  obtain rfl | rfl | rfl | rfl | rfl := hall a
  · show within _ _ (k.ranges.get chA1).lo
    exact ⟨h1.1, by omega⟩
  · show within _ _ (k.ranges.get chA2).lo
    exact ⟨h2.1, by omega⟩
  · show within (-200) 600 k.defaultTemp
    exact htemp
  · show within 0 1000 k.defaultCh4
    simp only [within]
    omega
  · show within 0 5000 k.defaultH2s
    simp only [within]
    omega

theorem readingsFit_exec (hk : SettingsInRange s) (hs : ReadingsFit s) (h : exec i s = .next t) : ReadingsFit t := by
  cases i with
  | sampleStage amps =>
    refine flowStage_keeps (fun u hu => hu.of_same rfl) h hs fun p _ _ a => ?_
    obtain ⟨-, hchannels, -⟩ := sampledState_blocks amps p s
    have hstep : (sampleStep amps p s).channels = (sampleAnalog amps (snapMeters s)).channels := hchannels
    rw [hstep, (sampleAnalog_leaves amps (snapMeters s) a).1]
    exact sampleChannel_fits hk.1 _ (hs a).1 (hs a).2
  | powerOnStart amps cellLow totalsAgree configAgrees =>
    cases h
    have hloaded := settingsInRange_loadConfig configAgrees hk
    refine ReadingsFit.start ?_ fun a => ?_
    · have htouch := touches_judgeTotals (setLastGood { loadConfig configAgrees s with supplied := true }) cellLow totalsAgree
      rw [show _ = _ from htouch.same .config rfl]
      exact hloaded.1
    · have htouch := touches_judgeTotals (setLastGood { loadConfig configAgrees s with supplied := true }) cellLow totalsAgree
      rw [show _ = _ from htouch.same .channels rfl]
      have hlast : ((setLastGood { loadConfig configAgrees s with supplied := true }).channels.get a).lastGood =
          (powerOnLastGood (loadConfig configAgrees s).config).get a := congrArg ChannelRec.lastGood (Tab.get_gen _ _)
      rw [hlast]
      exact powerOnLastGood_fits hloaded.1 a
  | restartTakesPlace amps =>
    refine event_keeps h hs ?_
    split
    · exact ReadingsFit.start hk.1 fun a => (hs a).2
    · exact hs
  | _ => exact hs.of_same ((exec_touches h).same .channels rfl)

end Channels

/-! ## The working level (R42, R45) -/

section Levels

variable {i : Instr}

/-- The working levels are within 0 to 1,000. -/
abbrev LevelsFit (s : State) : Prop := s.holder.level ≤ 1000 ∧ s.holder.prevLevel ≤ 1000

theorem LevelsFit.of_same (hs : LevelsFit s) (h : t.holder = s.holder) : LevelsFit t := by
  unfold LevelsFit
  rwa [h]

theorem level_of_reading (hr : ReadingsFit s) : (s.channels.get chA1).reading.toNat ≤ 1000 := by
  have h : within 0 1000 (s.channels.get chA1).reading := (hr chA1).1
  simp only [within] at h
  omega

theorem levelsFit_holderStep (hr : ReadingsFit s) (hs : LevelsFit s) (p : Pass) : LevelsFit (holderStep p s) := by
  obtain ⟨acc, window, now, u, hstep, hholder, -⟩ := holderStep_leaves p s
  have hlevel := level_of_reading hr
  have hheld : (holderStep p s).holder = heldHolder p s acc window now := by
    rw [hstep]
    exact hholder
  have hprev : (heldHolder p s acc window now).prevLevel =
      if (s.channels.get chA1).fault then s.holder.prevLevel else (s.channels.get chA1).reading.toNat := rfl
  have hread : (heldHolder p s acc window now).level = (s.channels.get chA1).reading.toNat := rfl
  unfold LevelsFit
  rw [hheld, hprev, hread]
  refine ⟨hlevel, ?_⟩
  split
  · exact hs.2
  · exact hlevel

theorem levelsFit_start {amps : Currents} (hr : ReadingsFit (start amps s)) : LevelsFit (start amps s) := by
  have hlevel := level_of_reading hr
  obtain ⟨hholder, -⟩ := start_holder amps s
  generalize start amps s = t at *
  unfold LevelsFit
  rw [hholder]
  exact ⟨hlevel, hlevel⟩

theorem levelsFit_debounce {k : Contact} (hs : LevelsFit s) : LevelsFit (debounce k s) := by
  obtain rfl | rfl | rfl | rfl := contact_cases k
  · exact hs.of_same ((touches_debounce_K1 s).same .holder rfl)
  · exact hs.of_same ((touches_debounce_lock (.inl rfl)).same .holder rfl)
  · exact debounce_keeps hs hs (by rw [contactOnset_K3]; exact hs) (by rw [contactEnd_K3]; exact hs)
  · exact hs.of_same ((touches_debounce_lock (.inr rfl)).same .holder rfl)

theorem levelsFit_exec (hr : ReadingsFit s) (hrt : ReadingsFit t) (hs : LevelsFit s) (h : exec i s = .next t) : LevelsFit t := by
  cases i with
  | holderStage => exact stage_keeps h hs fun p _ _ => levelsFit_holderStep hr hs p
  | debounceExpiry k =>
    rw [exec_debounceExpiry] at h
    exact flowEvent_rel (R := fun _ t => LevelsFit t) h hs fun _ => (levelsFit_debounce hs).of_same rfl
  | powerOnStart => cases h; exact levelsFit_start hrt
  | restartTakesPlace amps =>
    refine event_rel (R := fun _ t => ReadingsFit t → LevelsFit t) h (fun _ => hs) (fun _ => ?_) hrt
    split
    · exact levelsFit_start
    · exact fun _ => hs
  | _ => exact hs.of_same ((exec_touches h).same .holder rfl)

end Levels

/-! ## The quality monitor (section 2.1, R20 to R27) -/

section Quality

variable {i : Instr} {k : Contact}

/-- The working CH4 lies in the plausible band, and the hold timer runs exactly in HELD. -/
abbrev QualityFits (q : Quality) : Prop := 300 ≤ q.ch4 ∧ q.ch4 ≤ 900 ∧ (q.hold.isSome = true ↔ q.source = .held)

theorem QualityFits.of_touches {bs : List Block} (hs : QualityFits s.quality) (h : TouchesOnly bs s t)
    (hb : decide (Block.quality ∉ bs) = true) : QualityFits t.quality := by
  rwa [show t.quality = s.quality from h.same .quality hb]

theorem enterSubstituted_quality (s : State) :
    (enterSubstituted s).quality = { s.quality with
      source := .substituted, ch4 := s.config.defaultCh4, h2s := s.config.defaultH2s, hold := none } := rfl

theorem qualityFits_enterSubstituted (hk : ConfigInRange s.config) : QualityFits (enterSubstituted s).quality := by
  obtain ⟨⟨hlo, hhi⟩, -⟩ := hk.defaults
  rw [enterSubstituted_quality]
  exact ⟨hlo, hhi, by simp⟩

theorem qualityFits_enterHeld (hk : ConfigInRange s.config) (hs : QualityFits s.quality) : QualityFits (enterHeld s).quality := by
  obtain ⟨hlo, hhi, -⟩ := hs
  rw [enterHeld_eq]
  split
  · exact qualityFits_enterSubstituted hk
  · rw [(markHeld_acts s).1]
    exact ⟨hlo, hhi, by simp⟩

theorem ch4_of_qualify (h : samplesQualify s = true) :
    300 ≤ (s.channels.get chA4).reading.toNat ∧ (s.channels.get chA4).reading.toNat ≤ 900 := by
  obtain ⟨-, -, hlo, hhi⟩ := (samplesQualify_iff s).mp h
  omega

theorem qualityFits_examineQuality (hk : ConfigInRange s.config) (hs : QualityFits s.quality) :
    QualityFits (examineQuality s).quality := by
  by_cases hl : s.quality.source = .live
  · by_cases hq : samplesQualify s = true
    · obtain ⟨hlo, hhi⟩ := ch4_of_qualify hq
      rw [examineQuality_live hl hq]
      exact ⟨hlo, hhi, hs.2.2⟩
    · rw [examineQuality_leaves hl hq]
      exact qualityFits_enterHeld hk hs
  · rwa [examineQuality_idle hl]

theorem evaluateSour_hold (h2s : Nat) (s : State) : (evaluateSour h2s s).quality.hold = s.quality.hold := by
  obtain ⟨high, low, h⟩ | h | h := evaluateSour_cases h2s s <;> rw [h]
  · rfl
  · have hq : (lockAll .sour (soured true 0 0 s)).quality = (soured true 0 0 s).quality :=
      (touches_lockAll _ .sour).same .quality rfl
    rw [signal_quality, raise_quality, hq]
    rfl
  · have hq : (unlockAll .sour (soured false 0 0 s)).quality = (soured false 0 0 s).quality :=
      (touches_unlockAll _ .sour).same .quality rfl
    rw [lower_quality, hq]
    rfl

theorem qualityFits_evaluateSour (h2s : Nat) (hs : QualityFits s.quality) : QualityFits (evaluateSour h2s s).quality := by
  obtain ⟨hch4, -, hsource⟩ := evaluateSour_quality h2s s
  unfold QualityFits
  rwa [hch4, hsource, evaluateSour_hold]

theorem qualityFits_sampleStep (hk : ConfigInRange s.config) (hs : QualityFits s.quality) (amps : Currents) (p : Pass) :
    QualityFits (sampleStep amps p s).quality := by
  have hfield := (touches_snapMeters s).andThen (touches_sampleAnalog _ amps)
  rw [sampleStep_eq]
  refine QualityFits.of_touches ?_ (touches_withPass (sourEvaluated amps s) _) rfl
  refine qualityFits_evaluateSour _ (qualityFits_examineQuality ?_ (hs.of_touches hfield rfl))
  rwa [show (sampleAnalog amps (snapMeters s)).config = s.config from hfield.same .config rfl]

theorem qualityFits_holdExpires (hk : ConfigInRange s.config) (hs : QualityFits s.quality) :
    QualityFits (holdExpires s).quality := by
  unfold holdExpires
  split
  · exact qualityFits_enterSubstituted hk
  · exact hs

theorem qualityFits_debounce (hk : ConfigInRange s.config) (hs : QualityFits s.quality) :
    QualityFits (debounce k s).quality := by
  obtain rfl | rfl | rfl | rfl := contact_cases k
  · refine debounce_keeps (P := fun s => QualityFits s.quality) hs hs hs ?_
    rw [contactEnd_K1]
    split
    · exact qualityFits_enterHeld (s := settled conK1 s) hk hs
    · exact hs
  · exact hs.of_touches (touches_debounce_lock (.inl rfl)) rfl
  · exact hs.of_touches (touches_debounce_K3 s) rfl
  · exact hs.of_touches (touches_debounce_lock (.inr rfl)) rfl

theorem qualityFits_serveQualityResume (hs : QualityFits s.quality) : QualityFits (serveQualityResume s).state.quality := by
  simp only [serveQualityResume, apply_ite Served.state]
  split
  · exact hs
  · split
    · next hq =>
      obtain ⟨hlo, hhi⟩ := ch4_of_qualify (Bool.and_eq_true_iff.mp hq).2
      exact ⟨hlo, hhi, by simp [enterLive]⟩
    · exact hs

theorem qualityFits_followDefaults (hk : ConfigInRange s.config) (hs : QualityFits s.quality) :
    QualityFits (followDefaults s).quality := by
  obtain ⟨⟨hlo, hhi⟩, -⟩ := hk.defaults
  unfold followDefaults
  split
  · exact ⟨hlo, hhi, hs.2.2⟩
  · exact hs

/-- A written setting acts on the monitor by the hold time and the defaults alone (R23, R24). -/
theorem qualityFits_settingEffect (k : Setting) (hk : ConfigInRange s.config) (hs : QualityFits s.quality) :
    QualityFits (settingEffect k s).quality := by
  cases k with
  | qualityHold => exact qualityFits_holdExpires hk hs
  | defaultCh4 | defaultH2s => exact qualityFits_followDefaults hk hs
  | _ => exact hs.of_touches (touches_effect _ _) rfl

theorem qualityFits_serveConfigure {item : Nat} {value : Int} (hk : ConfigInRange s.config) (hs : QualityFits s.quality) :
    QualityFits (serveConfigure item value s).state.quality := by
  refine serveConfigure_keeps (P := fun s => QualityFits s.quality) hs
    (fun bank which => hs.of_touches (touches_writeBank s bank _ _) rfl)
    (fun number => hs.of_touches (touches_serveBinding s number value) rfl) fun i => ?_
  cases i with
  | setting k =>
    refine serveSetting_keeps (P := fun s => QualityFits s.quality) (s := s) hs fun v hv hpair _ => ?_
    exact qualityFits_settingEffect (s := { s with config := putSetting s.config v k }) k
      (configInRange_putSetting hk (hv ▸ clampInt_bounds (settingRange_ordered k) value) hpair) hs
  | factor m => exact hs
  | inUse l =>
    simp only [serveItem, serveInUse, apply_ite Served.state]
    split_ifs <;> exact hs
  | range a high => exact hs.of_touches (touches_serveRange s a high value) rfl

theorem qualityFits_start {amps : Currents} (hk : ConfigInRange s.config) : QualityFits (start amps s).quality := by
  have hquality := start_quality amps s
  have hconfig : (start amps s).config = s.config := (touches_start s amps).same .config rfl
  rw [hconfig] at hquality
  generalize start amps s = t at *
  obtain ⟨⟨hlo, hhi⟩, -⟩ := hk.defaults
  rw [hquality]
  split
  · next hq =>
    obtain ⟨hlo', hhi'⟩ := ch4_of_qualify (Bool.and_eq_true_iff.mp hq).2
    exact ⟨hlo', hhi', by simp⟩
  · exact ⟨hlo, hhi, by simp⟩

theorem qualityFits_exec (hk : SettingsInRange s) (hs : QualityFits s.quality) (h : exec i s = .next t) :
    QualityFits t.quality := by
  have answered (u v : State) (hv : TouchesOnly answerBlocks u v) (hu : QualityFits u.quality) : QualityFits v.quality :=
    hu.of_touches hv rfl
  cases i with
  | sampleStage amps =>
    exact flowStage_keeps (P := fun s => QualityFits s.quality) (fun _ hu => hu) h hs
      fun p _ _ => qualityFits_sampleStep hk.1 hs amps p
  | debounceExpiry k =>
    rw [exec_debounceExpiry] at h
    exact flowEvent_rel (R := fun _ t => QualityFits t.quality) h hs fun _ => qualityFits_debounce hk.1 hs
  | holdTimerExpiry =>
    exact event_keeps (P := fun s => QualityFits s.quality) h hs (qualityFits_holdExpires hk.1 hs)
  | qualityResume l =>
    exact request_keeps (P := fun s => QualityFits s.quality) answered h hs (qualityFits_serveQualityResume hs)
  | configure l item value =>
    exact request_keeps (P := fun s => QualityFits s.quality) answered h hs (qualityFits_serveConfigure hk.1 hs)
  | powerOnStart amps cellLow totalsAgree configAgrees =>
    cases h
    refine qualityFits_start ?_
    have hloaded := settingsInRange_loadConfig configAgrees hk
    have hconfig := ((touches_setLastGood { loadConfig configAgrees s with supplied := true }).andThen
      (touches_judgeTotals _ cellLow totalsAgree)).same .config rfl
    rw [show _ = _ from hconfig]
    exact hloaded.1
  | restartTakesPlace amps =>
    refine event_keeps (P := fun s => QualityFits s.quality) h hs ?_
    split
    · exact qualityFits_start hk.1
    · exact hs
  | _ => exact hs.of_touches (exec_touches h) rfl

end Quality

/-! ## Every step -/

/-- Settings, readings, levels and quality together: each leans on those before it. -/
def MeasuredFit (s : State) : Prop := SettingsInRange s ∧ ReadingsFit s ∧ LevelsFit s ∧ QualityFits s.quality

theorem measuredFit_tick (hs : MeasuredFit s) : MeasuredFit (tick s) := by
  obtain ⟨hk, hr, hl, hlo, hhi, hheld⟩ := hs
  have htouch := touches_tick s
  have hsettings : SettingsInRange (tick s) := by
    obtain ⟨-, h⟩ | ⟨-, h⟩ := tick_cases s <;> rw [h] <;> exact hk
  refine ⟨hsettings, hr.of_same (htouch.same .channels rfl), hl.of_same (htouch.same .holder rfl), ?_⟩
  obtain ⟨-, h⟩ | ⟨-, h⟩ := tick_cases s <;> rw [h]
  · refine ⟨hlo, hhi, ?_⟩
    show (Timer.advance s.quality.hold).isSome = true ↔ _
    rw [Timer.advance, Option.isSome_map]
    exact hheld
  · exact ⟨hlo, hhi, hheld⟩

theorem measuredFit_exec {i : Instr} (hs : MeasuredFit s) (h : exec i s = .next t) : MeasuredFit t := by
  obtain ⟨hk, hr, hl, hq⟩ := hs
  have hrt := readingsFit_exec hk hr h
  exact ⟨settingsInRange_exec hk h, hrt, levelsFit_exec hr hrt hl h, qualityFits_exec hk hq h⟩

theorem measuredFit_step (hs : MeasuredFit s) (h : step s = .next t) : MeasuredFit t :=
  step_keeps (P := MeasuredFit) (fun _ _ _ h => h) (fun _ _ _ => measuredFit_exec) (fun _ => measuredFit_tick) hs h

/-- Settles O13: the settings alone, and with them the measured values. -/
theorem settingsAndMeasuredValuesKept : Obligations.SettingsAndMeasuredValuesKept := by
  intro s t hk h
  refine ⟨settingsInRange_step hk h, fun ⟨hr, hl⟩ hq => ?_⟩
  obtain ⟨-, hrt, hlt, hqt⟩ := measuredFit_step ⟨hk, hr, hl, hq⟩ h
  exact ⟨⟨hrt, hlt⟩, hqt⟩

end Sys2Proof.Machine
end

section
/-! The flare demand, the held figures and the two timers by the sequencer's state, after every step (R121, R122, R128,
R131). -/

namespace Sys2Proof.Machine

open Sys2Proof

/-! ## The sequencer state by state -/

/-- The held figures (R121): no demand without a call, and one within the flare range with it. -/
def HeldFits (lo hi : Nat) (f : Flare) : Prop :=
  (f.heldCall = false → f.heldDemand = 0) ∧ (f.heldCall = true → lo ≤ f.heldDemand ∧ f.heldDemand ≤ hi)

/-- Demand and timers as the state asks for them (R122, R128, R131). -/
def PhaseFits (lo : Nat) (f : Flare) : Prop :=
  match f.state with
  | .off | .failed => f.demand = 0 ∧ f.ignition = none ∧ f.minBurn = none
  | .called => f.heldCall = true ∧ f.demand = f.heldDemand ∧ f.ignition.isSome = true ∧ f.minBurn = none
  | .burning => f.heldCall = true ∧ f.demand = f.heldDemand ∧ f.ignition = none ∧ f.minBurn = none
  | .holding => f.demand = lo ∧ f.ignition = none ∧ f.minBurn.isSome = true

/-- The sequencer is in order within the flare range. -/
def FlareFits (lo hi : Nat) (f : Flare) : Prop := HeldFits lo hi f ∧ PhaseFits lo f

theorem flareInRange_iff (s : State) : FlareInRange s ↔ FlareFits s.config.flareMin s.config.flareMax s.flare := by
  unfold FlareInRange FlareFits HeldFits PhaseFits
  cases s.flare.state <;> simp [and_assoc]
  all_goals tauto

section Phases

variable {lo hi : Nat} {f : Flare}

theorem PhaseFits.off (h : f.state = .off) : PhaseFits lo f ↔ f.demand = 0 ∧ f.ignition = none ∧ f.minBurn = none := by
  simp only [PhaseFits, h]

theorem PhaseFits.failed (h : f.state = .failed) : PhaseFits lo f ↔ f.demand = 0 ∧ f.ignition = none ∧ f.minBurn = none := by
  simp only [PhaseFits, h]

theorem PhaseFits.called (h : f.state = .called) : PhaseFits lo f ↔
    f.heldCall = true ∧ f.demand = f.heldDemand ∧ f.ignition.isSome = true ∧ f.minBurn = none := by
  simp only [PhaseFits, h]

theorem PhaseFits.burning (h : f.state = .burning) : PhaseFits lo f ↔
    f.heldCall = true ∧ f.demand = f.heldDemand ∧ f.ignition = none ∧ f.minBurn = none := by
  simp only [PhaseFits, h]

theorem PhaseFits.holding (h : f.state = .holding) : PhaseFits lo f ↔
    f.demand = lo ∧ f.ignition = none ∧ f.minBurn.isSome = true := by
  simp only [PhaseFits, h]

theorem PhaseFits.of_off (h : f.state = .off) (hp : f.demand = 0 ∧ f.ignition = none ∧ f.minBurn = none) : PhaseFits lo f :=
  (PhaseFits.off h).mpr hp

theorem PhaseFits.of_failed (h : f.state = .failed) (hp : f.demand = 0 ∧ f.ignition = none ∧ f.minBurn = none) :
    PhaseFits lo f := (PhaseFits.failed h).mpr hp

theorem PhaseFits.of_called (h : f.state = .called)
    (hp : f.heldCall = true ∧ f.demand = f.heldDemand ∧ f.ignition.isSome = true ∧ f.minBurn = none) : PhaseFits lo f :=
  (PhaseFits.called h).mpr hp

theorem PhaseFits.of_burning (h : f.state = .burning)
    (hp : f.heldCall = true ∧ f.demand = f.heldDemand ∧ f.ignition = none ∧ f.minBurn = none) : PhaseFits lo f :=
  (PhaseFits.burning h).mpr hp

theorem PhaseFits.of_holding (h : f.state = .holding)
    (hp : f.demand = lo ∧ f.ignition = none ∧ f.minBurn.isSome = true) : PhaseFits lo f := (PhaseFits.holding h).mpr hp

end Phases

/-! ## What the sequencer does keeps the order -/

section Acts

variable {lo hi demand : Nat} {f : Flare} {call : Bool} {r : FlareReport}

theorem flareFits_tryStart (h : FlareFits lo hi f) : FlareFits lo hi (tryStart f) := by
  by_cases hs : f.state = .off ∧ f.heldCall = true ∧ f.permit = true ∧ f.report.isReady = true
  · obtain ⟨hoff, hcall, hpermit, hready⟩ := hs
    obtain ⟨hheld, hphase⟩ := h
    obtain ⟨-, -, hburn⟩ := (PhaseFits.off hoff).mp hphase
    rw [tryStart_lit hoff hcall hpermit hready]
    exact ⟨hheld, .of_called rfl ⟨hcall, rfl, rfl, hburn⟩⟩
  · rwa [tryStart_unlit hs]

theorem flareFits_toOff (h : HeldFits lo hi f) : FlareFits lo hi (toOff f) :=
  ⟨h, .of_off rfl ⟨rfl, rfl, rfl⟩⟩

/-- The end of an attempt, out of CALLED and BURNING alike, keeps the held call for a retry. -/
theorem flareFits_retried (h : FlareFits lo hi f) (hs : f.state = .called ∨ f.state = .burning) :
    FlareFits lo hi (retried f) := by
  obtain ⟨hheld, hphase⟩ := h
  obtain hs | hs := hs
  · obtain ⟨hcall, hdemand, -, hburn⟩ := (PhaseFits.called hs).mp hphase
    exact ⟨hheld, .of_called rfl ⟨hcall, hdemand, rfl, hburn⟩⟩
  · obtain ⟨hcall, hdemand, -, hburn⟩ := (PhaseFits.burning hs).mp hphase
    exact ⟨hheld, .of_called rfl ⟨hcall, hdemand, rfl, hburn⟩⟩

theorem flareFits_gaveUp (h : FlareFits lo hi f) (hs : f.state = .called ∨ f.state = .burning) :
    FlareFits lo hi (gaveUp f) := by
  obtain ⟨hheld, hphase⟩ := h
  obtain hs | hs := hs
  · obtain ⟨-, -, -, hburn⟩ := (PhaseFits.called hs).mp hphase
    exact ⟨hheld, .of_failed rfl ⟨rfl, rfl, hburn⟩⟩
  · obtain ⟨-, -, -, hburn⟩ := (PhaseFits.burning hs).mp hphase
    exact ⟨hheld, .of_failed rfl ⟨rfl, rfl, hburn⟩⟩

theorem endAttempt_flare (s : State) :
    (endAttempt s).flare = if s.flare.attempts < s.config.flareAttempts then retried s.flare else gaveUp s.flare := by
  split
  · next h => exact (endAttempt_below h).1
  · next h => exact (endAttempt_last (Nat.not_lt.mp h)).1

theorem flareFits_endAttempt {s : State} (h : FlareFits lo hi s.flare) (hs : s.flare.state = .called ∨ s.flare.state = .burning) :
    FlareFits lo hi (endAttempt s).flare := by
  rw [endAttempt_flare]
  split
  · exact flareFits_retried h hs
  · exact flareFits_gaveUp h hs

/-- A flame report changes nothing that the demand and the timers lean on. -/
theorem flareFits_reported (h : FlareFits lo hi f) : FlareFits lo hi (reported r f) := h

theorem flareFits_takeReport {s : State} (h : FlareFits lo hi s.flare) : FlareFits lo hi (takeReport r s).flare := by
  have hr : FlareFits lo hi (recordReport r s).flare := flareFits_reported h
  cases hs : s.flare.state with
  | off =>
    rw [takeReport_off hs]
    exact flareFits_tryStart hr
  | called =>
    rw [takeReport_called hs]
    split
    · obtain ⟨hheld, hphase⟩ := h
      obtain ⟨hcall, hdemand, -, hburn⟩ := (PhaseFits.called hs).mp hphase
      rw [proveFlame_eq]
      exact ⟨hheld, .of_burning rfl ⟨hcall, hdemand, rfl, hburn⟩⟩
    · exact flareFits_endAttempt hr (.inl hs)
  | burning =>
    rw [takeReport_burning hs]
    split
    · exact hr
    · exact flareFits_endAttempt hr (.inr hs)
  | holding =>
    rw [takeReport_holding hs]
    split
    · exact hr
    · exact flareFits_toOff hr.1
  | failed =>
    rw [takeReport_failed hs]
    exact hr

/-- The held figures of a hand-over (R121). -/
theorem heldFits_calling {s : State} (hr : s.config.flareMin ≤ s.config.flareMax) (f : Flare) :
    HeldFits s.config.flareMin s.config.flareMax (calling call (heldOver call demand s) f) := by
  refine ⟨fun h => ?_, fun h => ?_⟩
  · rw [show call = false from h]
    rfl
  · rw [show call = true from h]
    exact clampNat_bounds hr demand

theorem flareFits_handOver {s : State} (hr : s.config.flareMin ≤ s.config.flareMax)
    (h : FlareFits s.config.flareMin s.config.flareMax s.flare) :
    FlareFits s.config.flareMin s.config.flareMax (handOver call demand s).flare := by
  have hheld := heldFits_calling (call := call) (demand := demand) hr s.flare
  obtain ⟨-, hphase⟩ := h
  cases hs : s.flare.state with
  | off =>
    rw [handOver_flare_off hs]
    exact flareFits_tryStart ⟨hheld, .of_off hs ((PhaseFits.off hs).mp hphase)⟩
  | called =>
    obtain ⟨-, -, hignition, hburn⟩ := (PhaseFits.called hs).mp hphase
    rw [handOver_flare_called hs]
    split
    · next hc => exact ⟨hheld, .of_called hs ⟨hc, rfl, hignition, hburn⟩⟩
    · exact flareFits_toOff hheld
  | burning =>
    obtain ⟨-, -, hignition, hburn⟩ := (PhaseFits.burning hs).mp hphase
    rw [handOver_flare_burning hs]
    split
    · next hc => exact ⟨hheld, .of_burning hs ⟨hc, rfl, hignition, hburn⟩⟩
    · split
      · exact flareFits_toOff hheld
      · exact ⟨hheld, .of_holding rfl ⟨rfl, hignition, rfl⟩⟩
  | holding =>
    obtain ⟨-, hignition, hburn⟩ := (PhaseFits.holding hs).mp hphase
    rw [handOver_flare_holding hs]
    split
    · next hc => exact ⟨hheld, .of_burning rfl ⟨hc, rfl, hignition, rfl⟩⟩
    · exact ⟨hheld, .of_holding hs ⟨rfl, hignition, hburn⟩⟩
  | failed =>
    rw [handOver_flare_failed hs]
    exact ⟨hheld, .of_failed hs ((PhaseFits.failed hs).mp hphase)⟩

theorem flareFits_setPermit {s : State} {on : Bool} (h : FlareFits lo hi s.flare) : FlareFits lo hi (setPermit on s).flare := by
  have hp : FlareFits lo hi { s.flare with permit := on } := h
  unfold setPermit
  split
  · exact h
  · dsimp only
    split
    · exact flareFits_tryStart hp
    · split
      · exact flareFits_toOff hp.1
      · exact flareFits_toOff hp.1
      · exact flareFits_toOff hp.1
      · exact hp
      · exact hp

theorem flareFits_serveFlareReset {s : State} (h : FlareFits lo hi s.flare) :
    FlareFits lo hi (serveFlareReset s).state.flare := by
  simp only [serveFlareReset, apply_ite Served.state]
  split
  · next hs =>
    obtain ⟨hheld, hphase⟩ := h
    obtain ⟨-, hignition, hburn⟩ := (PhaseFits.failed hs).mp hphase
    exact flareFits_tryStart ⟨hheld, .of_off rfl ⟨rfl, hignition, hburn⟩⟩
  · exact h

theorem flareFits_ignitionExpires {s : State} (h : FlareFits lo hi s.flare) : FlareFits lo hi (ignitionExpires s).flare := by
  unfold ignitionExpires
  split
  · next ho =>
    refine flareFits_endAttempt h (.inl ?_)
    simp only [ignitionOver, Bool.and_eq_true, decide_eq_true_eq] at ho
    exact ho.1
  · exact h

theorem flareFits_minBurnExpires {s : State} (h : FlareFits lo hi s.flare) : FlareFits lo hi (minBurnExpires s).flare := by
  unfold minBurnExpires
  split
  · exact flareFits_toOff h.1
  · exact h

/-- A taken change of the flare range (R122): a held demand is above 0 exactly where a call is held. -/
theorem flareFits_refitFlare {old lo hi high : Nat} (hlow : 0 < old) (hr : lo ≤ hi) (h : FlareFits old high f) :
    FlareFits lo hi (refitFlare lo hi f) := by
  obtain ⟨⟨hidle, hcalled⟩, hphase⟩ := h
  have hbounds := clampNat_bounds hr f.heldDemand
  have hheld : HeldFits lo hi { f with heldDemand := if f.heldDemand = 0 then 0 else clampNat lo hi f.heldDemand } := by
    refine ⟨fun hc => if_pos (hidle hc), fun hc => ?_⟩
    have hpos := (hcalled hc).1
    rw [if_neg (by omega)]
    exact hbounds
  have hdemand (hc : f.heldCall = true) (hd : f.demand = f.heldDemand) :
      clampNat lo hi f.demand = if f.heldDemand = 0 then 0 else clampNat lo hi f.heldDemand := by
    have hpos := (hcalled hc).1
    rw [if_neg (by omega), hd]
  cases hs : f.state with
  | off =>
    have he : refitFlare lo hi f =
        { f with heldDemand := if f.heldDemand = 0 then 0 else clampNat lo hi f.heldDemand } := by simp only [refitFlare, hs]
    rw [he]
    exact ⟨hheld, .of_off hs ((PhaseFits.off hs).mp hphase)⟩
  | failed =>
    have he : refitFlare lo hi f =
        { f with heldDemand := if f.heldDemand = 0 then 0 else clampNat lo hi f.heldDemand } := by simp only [refitFlare, hs]
    rw [he]
    exact ⟨hheld, .of_failed hs ((PhaseFits.failed hs).mp hphase)⟩
  | called =>
    obtain ⟨hc, hd, hignition, hburn⟩ := (PhaseFits.called hs).mp hphase
    have he : refitFlare lo hi f = { f with
        heldDemand := if f.heldDemand = 0 then 0 else clampNat lo hi f.heldDemand
        demand := clampNat lo hi f.demand } := by simp only [refitFlare, hs]
    rw [he]
    exact ⟨hheld, .of_called hs ⟨hc, hdemand hc hd, hignition, hburn⟩⟩
  | burning =>
    obtain ⟨hc, hd, hignition, hburn⟩ := (PhaseFits.burning hs).mp hphase
    have he : refitFlare lo hi f = { f with
        heldDemand := if f.heldDemand = 0 then 0 else clampNat lo hi f.heldDemand
        demand := clampNat lo hi f.demand } := by simp only [refitFlare, hs]
    rw [he]
    exact ⟨hheld, .of_burning hs ⟨hc, hdemand hc hd, hignition, hburn⟩⟩
  | holding =>
    obtain ⟨-, hignition, hburn⟩ := (PhaseFits.holding hs).mp hphase
    have he : refitFlare lo hi f = { f with
        heldDemand := if f.heldDemand = 0 then 0 else clampNat lo hi f.heldDemand, demand := lo } := by
      simp only [refitFlare, hs]
    rw [he]
    exact ⟨hheld, .of_holding hs ⟨rfl, hignition, hburn⟩⟩

theorem flareFits_startFlare (lo hi : Nat) : FlareFits lo hi startFlare :=
  ⟨⟨fun _ => rfl, nofun⟩, .of_off rfl ⟨rfl, rfl, rfl⟩⟩

/-- A millisecond runs in the timers that run. -/
theorem flareFits_advance (h : FlareFits lo hi f) (burnMs : Nat) : FlareFits lo hi
    { f with ignition := Timer.advance f.ignition, minBurn := Timer.advance f.minBurn, burnMs } := by
  obtain ⟨hheld, hphase⟩ := h
  refine ⟨hheld, ?_⟩
  unfold PhaseFits at hphase ⊢
  dsimp only
  split at hphase <;> simpa [Timer.advance] using hphase

end Acts

/-! ## Every command -/

section Commands

variable {s t u : State} {i : Instr}

/-- The sequencer is in order within the flare range as it is set. -/
def SequencerFits (s : State) : Prop := FlareFits s.config.flareMin s.config.flareMax s.flare

theorem SequencerFits.of_same (hs : SequencerFits s) (hc : t.config = s.config) (hf : t.flare = s.flare) : SequencerFits t := by
  unfold SequencerFits
  rwa [hc, hf]

theorem SequencerFits.of_flare (hc : t.config = s.config) (h : FlareFits s.config.flareMin s.config.flareMax t.flare) :
    SequencerFits t := by
  unfold SequencerFits
  rwa [hc]

theorem SequencerFits.of_touches {bs : List Block} (hs : SequencerFits s) (h : TouchesOnly bs s t)
    (hc : decide (Block.config ∉ bs) = true) (hf : decide (Block.flare ∉ bs) = true) : SequencerFits t :=
  hs.of_same (h.same .config hc) (h.same .flare hf)

/-- The flare range as it is set is a range, above 0 (R122). -/
theorem ConfigInRange.flareRange {k : WorkingConfig} (h : ConfigInRange k) : 0 < k.flareMin ∧ k.flareMin ≤ k.flareMax := by
  have hmin := h.setting .flareMin (by decide)
  obtain ⟨-, -, hpair, -⟩ := h
  simp only [within, settingRange, readSetting] at hmin
  exact ⟨by omega, hpair⟩

/-- A bank's write leaves the settings. -/
theorem sequencerFits_writeBank {bank : Nat} {known : Bank → Bool} {write : Bank → Bank × Bool} (hs : SequencerFits s) :
    SequencerFits (writeBank bank known write s).state := by
  cases h : bankOf bank with
  | none =>
    simp only [writeBank, h, apply_ite Served.state, ite_self]
    exact hs
  | some b =>
    simp only [writeBank, h, apply_ite Served.state]
    split_ifs <;> exact hs

theorem sequencerFits_serveBinding (number : Nat) (value : Int) (hs : SequencerFits s) :
    SequencerFits (serveBinding number value s).state := by
  simp only [serveBinding, apply_ite Served.state]
  split
  · exact hs
  · split <;> exact hs

/-- A setting other than the flare range leaves the flare range. -/
theorem sequencerFits_putSetting {k : Setting} (v : Int) (hk : k ≠ .flareMin ∧ k ≠ .flareMax) (hs : SequencerFits s) :
    SequencerFits { s with config := putSetting s.config v k } := by
  obtain ⟨hmin, hmax⟩ := hk
  cases k with
  | flareMin => exact absurd rfl hmin
  | flareMax => exact absurd rfl hmax
  | _ => exact hs

theorem settingEffect_config (k : Setting) (s : State) : (settingEffect k s).config = s.config :=
  (touches_settingEffect s k).same .config rfl

/-- A written setting acts on the sequencer by the flare range and by its two timers' settings (R122, R127, R130). -/
theorem sequencerFits_written {k : Setting} {v : Int} (hk : ConfigInRange s.config)
    (hw : ConfigInRange (putSetting s.config v k)) (hs : SequencerFits s) :
    SequencerFits (settingEffect k { s with config := putSetting s.config v k }) := by
  obtain ⟨hpos, -⟩ := hk.flareRange
  obtain ⟨-, hrange⟩ := hw.flareRange
  cases k with
  | flareMin | flareMax => exact .of_flare (settingEffect_config _ _) (flareFits_refitFlare hpos hrange hs)
  | ignitionTimeout =>
    exact .of_flare (settingEffect_config .ignitionTimeout _)
      (flareFits_ignitionExpires (sequencerFits_putSetting v (by decide) hs))
  | minBurn =>
    exact .of_flare (settingEffect_config .minBurn _)
      (flareFits_minBurnExpires (sequencerFits_putSetting v (by decide) hs))
  | _ => exact (sequencerFits_putSetting v (by decide) hs).of_touches (touches_effect _ _) rfl rfl

theorem sequencerFits_serveConfigure {item : Nat} {value : Int} (hk : ConfigInRange s.config) (hs : SequencerFits s) :
    SequencerFits (serveConfigure item value s).state := by
  refine serveConfigure_keeps hs (fun bank which => sequencerFits_writeBank hs)
    (fun number => sequencerFits_serveBinding number value hs) fun i => ?_
  cases i with
  | setting k =>
    exact serveSetting_keeps (s := s) hs fun v hv hpair _ => sequencerFits_written hk
      (configInRange_putSetting hk (hv ▸ clampInt_bounds (settingRange_ordered k) value) hpair) hs
  | factor m => exact hs
  | inUse l =>
    simp only [serveItem, serveInUse, apply_ite Served.state]
    split_ifs <;> exact hs
  | range a high =>
    simp only [serveItem, serveRange_eq, apply_ite Served.state]
    split <;> exact hs

theorem sequencerFits_start (amps : Currents) (s : State) : SequencerFits (start amps s) := by
  have hflare : (start amps s).flare = startFlare := (touches_startFormed s amps).same .flare rfl
  unfold SequencerFits
  rw [hflare]
  exact flareFits_startFlare _ _

theorem sequencerFits_exec (hk : SettingsInRange s) (hs : SequencerFits s) (h : exec i s = .next t) : SequencerFits t := by
  have answered (u v : State) (hv : TouchesOnly answerBlocks u v) (hu : SequencerFits u) : SequencerFits v :=
    hu.of_touches hv rfl rfl
  have followed (u : State) (hu : SequencerFits u) : SequencerFits (followFlow s u) := hu
  obtain ⟨-, hrange⟩ := hk.1.flareRange
  cases i with
  | flareStage =>
    refine flowStage_keeps followed h hs fun p _ _ => ?_
    exact .of_flare ((touches_flareStep s p).same .config rfl) (flareFits_handOver hrange hs)
  | applyStage => exact flowStage_keeps followed h hs fun p _ _ => hs
  | flareStatus l flame ready fault =>
    exact request_keeps (serve := fun s => { state := takeReport ⟨flame, ready, fault⟩ s, status := .done }) answered h hs
      (.of_flare ((touches_takeReport s _).same .config rfl) (flareFits_takeReport hs))
  | ignitionTimerExpiry =>
    exact flowEvent_keeps (fun _ _ ht hu => hu.of_touches ht rfl rfl) h hs
      (.of_flare ((touches_ignitionExpires s).same .config rfl) (flareFits_ignitionExpires hs))
  | minimumBurnTimerExpiry =>
    exact flowEvent_keeps (fun _ _ ht hu => hu.of_touches ht rfl rfl) h hs
      (.of_flare ((touches_minBurnExpires s).same .config rfl) (flareFits_minBurnExpires hs))
  | burnTimeSecond =>
    refine event_keeps h hs ?_
    split <;> exact hs
  | flareReset l =>
    exact request_keeps answered h hs
      (.of_flare ((touches_serveFlareReset s).same .config rfl) (flareFits_serveFlareReset hs))
  | flarePermit l on =>
    exact request_keeps (serve := fun s => { state := setPermit on s, status := .done }) answered h hs
      (.of_flare ((touches_setPermit s on).same .config rfl) (flareFits_setPermit hs))
  | configure l item value => exact request_keeps answered h hs (sequencerFits_serveConfigure hk.1 hs)
  | writeRow l bank row r => exact request_keeps answered h hs (sequencerFits_writeBank hs)
  | setRank l bank slot rank => exact request_keeps answered h hs (sequencerFits_writeBank hs)
  | configureBandGeometry l bank which value => exact request_keeps answered h hs (sequencerFits_writeBank hs)
  | configureEventBinding l number value =>
    exact request_keeps answered h hs (sequencerFits_serveBinding number value hs)
  | powerOnStart => cases h; exact sequencerFits_start _ _
  | restartTakesPlace amps =>
    refine event_keeps h hs ?_
    split
    · exact sequencerFits_start _ _
    · exact hs
  | _ => exact hs.of_touches (exec_touches h) rfl rfl

theorem sequencerFits_tick (hs : SequencerFits s) : SequencerFits (tick s) := by
  obtain ⟨-, h⟩ | ⟨-, h⟩ := tick_cases s <;> rw [h]
  · exact flareFits_advance hs _
  · exact hs

/-- Settles O12: with the settings in range every command and every millisecond keeps the sequencer in order. -/
theorem flareDemandInRangeKept : Obligations.FlareDemandInRangeKept := by
  intro s t hk hs h
  rw [flareInRange_iff] at hs ⊢
  have hkeeps : SettingsInRange t ∧ SequencerFits t :=
    step_keeps (P := fun s => SettingsInRange s ∧ SequencerFits s) (fun _ _ _ h => h)
      (fun _ _ _ ⟨hk, hs⟩ h => ⟨settingsInRange_exec hk h, sequencerFits_exec hk hs h⟩)
      (fun s ⟨hk, hs⟩ => ⟨by obtain ⟨-, h⟩ | ⟨-, h⟩ := tick_cases s <;> rw [h] <;> exact hk, sequencerFits_tick hs⟩)
      ⟨hk, hs⟩ h
  exact hkeeps.2

end Commands

end Sys2Proof.Machine
end

section
/-! The stall timers run exactly where flow is expected on a meter that is not stalled, after every step (R5, R7). -/

namespace Sys2Proof.Machine

open Sys2Proof

/-! ## What pushes and pops move of a claim (R96, R112, R114) -/

section Pushes

variable {p : Pass} {s : State}

/-- An eviction and a push move w and the orphaned amount of a claim alone. -/
theorem pushRecord_claim (r : ShedRecord) (s : State) (c : Slot) :
    ∃ w o, (pushRecord r s).claims.get c = { s.claims.get c with withheld := w, orphaned := o } := by
  have hevicted : ∃ o, (evict s).claims.get c = { s.claims.get c with orphaned := o } := by
    unfold evict
    split
    · exact ⟨_, rfl⟩
    · split
      · exact ⟨_, rfl⟩
      · exact ⟨_, evicted_get s.stack.records.dropLast _ s c⟩
  obtain ⟨o, ho⟩ := hevicted
  rw [pushRecord_eq, putOnTop_get, ho]
  exact ⟨_, _, rfl⟩

theorem shedPushStep_claim (p : Pass) (s : State) (c : Slot) :
    ∃ w o, (shedPushStep p s).claims.get c = { s.claims.get c with withheld := w, orphaned := o } := by
  unfold shedPushStep
  split
  · exact ⟨_, _, rfl⟩
  · exact pushRecord_claim _ s c

theorem popStep_claim (p : Pass) (s : State) (c : Slot) :
    ∃ w, (popStep p s).claims.get c = { s.claims.get c with withheld := w } := by
  unfold popStep
  split
  · exact ⟨_, rfl⟩
  · split
    · next rest _ _ => exact ⟨_, popRecord_get _ rest s c⟩
    · exact ⟨_, rfl⟩

/-- A restarted lease begins from zero where it ran (R61). -/
theorem restartLease_claim (l : Link) (s : State) (c : Slot) :
    (restartLease l s).claims.get c = s.claims.get c ∨
      (restartLease l s).claims.get c =
        { s.claims.get c with lease := (s.claims.get c).lease.map fun _ => 0 } := by
  unfold restartLease
  split
  · simp only [Tab.get_modify]
    split
    · next e =>
      split
      · rw [e]
        exact .inr rfl
      · rw [e]
        exact .inl rfl
    · exact .inl rfl
  · exact .inl rfl

end Pushes

/-! ## One meter (R5, R7) -/

section Meter

variable {flow before : Bool} {r : MeterRec} {production : Bool}

/-- The timer runs exactly with flow expected on a meter that is not stalled, and a stall needs flow expected. -/
def StallFits (flow : Bool) (r : MeterRec) : Prop :=
  r.stallTimer.isSome = (flow && !r.stalled) ∧ (r.stalled = true → flow = true)

/-- Where the expectation moves, the meter stage sets the timer and the stall itself. -/
theorem stallFits_followMeter (h : before = flow → StallFits flow r) : StallFits flow (followMeter before flow r) := by
  unfold followMeter
  split
  · next he => exact h he
  · split
    · next hflow =>
      subst hflow
      cases r.stalled <;> simp [StallFits]
    · next hflow =>
      simp only [Bool.not_eq_true] at hflow
      simp [StallFits, hflow]

theorem stallFits_startMeter (flow : Bool) : StallFits flow (startMeter (if flow then some 0 else none)) := by
  cases flow <;> simp [StallFits, startMeter]

theorem stallFits_countPulse (h : StallFits flow r) : StallFits flow (countPulse r) := by
  unfold StallFits countPulse at *
  simpa using h

/-- A meter whose timer runs stalls where flow is expected. -/
theorem stallFits_stalled (h : StallFits flow r) (ht : r.stallTimer.isSome = true) :
    StallFits flow { r with stallTimer := none, stalled := true, recovery := 0, hold := 0 } := by
  rw [h.1, Bool.and_eq_true] at ht
  exact ⟨by simp, fun _ => ht.1⟩

theorem stallFits_snapMeter (h : StallFits flow r) : StallFits flow (snapMeter production r) := by
  obtain ⟨htimer, hstall⟩ := h
  cases hs : r.stalled with
  | false =>
    rw [snapMeter_sound hs]
    exact ⟨htimer, hstall⟩
  | true =>
    by_cases hr : recovers r
    · rw [snapMeter_recovers hr]
      simp [StallFits, hstall hs]
    · rw [snapMeter_stalled hs hr]
      exact ⟨htimer, hstall⟩

theorem stallFits_advance (h : StallFits flow r) : StallFits flow { r with stallTimer := Timer.advance r.stallTimer } := by
  unfold StallFits Timer.advance at *
  simpa using h

end Meter

/-! ## All meters -/

section Meters

variable {s t u : State} {i : Instr}

/-- Every meter's timer follows its flow expectation. -/
def StallsFollow (s : State) : Prop := ∀ m : Meter, StallFits (flowExpected s m) (s.meters.get m)

theorem StallsFollow.of_same (hs : StallsFollow s) (hm : t.meters = s.meters)
    (hf : ∀ m, flowExpected t m = flowExpected s m) : StallsFollow t := fun m => by
  rw [hf, hm]
  exact hs m

/-- What the meter stage has to be given: meters in order where the flow expectation stays. -/
def StallsReady (s u : State) : Prop :=
  ∀ m : Meter, flowExpected s m = flowExpected u m → StallFits (flowExpected u m) (u.meters.get m)

theorem StallsFollow.ready (hs : StallsFollow s) (hm : u.meters = s.meters) : StallsReady s u := fun m he => by
  rw [← he, hm]
  exact hs m

theorem StallsFollow.ready_touched {bs : List Block} {w : State} (hs : StallsFollow s) (hw : w.meters = s.meters)
    (h : TouchesOnly bs w u) (hb : decide (Block.meters ∉ bs) = true) : StallsReady s u :=
  hs.ready ((h.same .meters hb).trans hw)

theorem StallsReady.followed (h : StallsReady s u) : StallsFollow (followFlow s u) := fun m => by
  rw [flowExpected_followFlow, followFlow_meters, Tab.get_gen]
  exact stallFits_followMeter (h m)

/-- The flow expectation reads three blocks alone. -/
theorem flowExpected_of_touches {bs : List Block} (h : TouchesOnly bs s t) (hc : decide (Block.config ∉ bs) = true)
    (hl : decide (Block.claims ∉ bs) = true) (hf : decide (Block.flare ∉ bs) = true) (m : Meter) :
    flowExpected t m = flowExpected s m := by
  have hconfig : t.config = s.config := h.same .config hc
  have hflare : t.flare = s.flare := h.same .flare hf
  exact flowExpected_congr (by rw [hconfig]) (h.same .claims hl) (by rw [hflare]) m

theorem StallsFollow.of_touches {bs : List Block} (hs : StallsFollow s) (h : TouchesOnly bs s t)
    (hm : decide (Block.meters ∉ bs) = true) (hc : decide (Block.config ∉ bs) = true)
    (hl : decide (Block.claims ∉ bs) = true) (hf : decide (Block.flare ∉ bs) = true) : StallsFollow t :=
  hs.of_same (h.same .meters hm) (flowExpected_of_touches h hc hl hf)

/-- A command that the meter stage follows, with or without an answer. -/
theorem StallsReady.finished {k : Finish} (hs : StallsFollow s) (h : StallsReady s u) (hf : Finished s u t k)
    (hk : k ≠ .plain) : StallsFollow t := by
  cases k with
  | plain => exact absurd rfl hk
  | followed =>
    cases hf
    exact h.followed
  | answered =>
    obtain ⟨rfl, rfl⟩ | ⟨l, code, st, figures, rfl⟩ := hf
    · exact hs
    · exact h.followed.of_touches (touches_respond _ _ _ _ _) rfl rfl rfl rfl

theorem stallsFollow_stallExpires (hs : StallsFollow s) (m : Meter) : StallsFollow (stallExpires m s) := by
  have hflow := flowExpected_of_touches (touches_stallExpires s m) rfl rfl rfl
  cases h : stallOver m s with
  | false => rwa [stallExpires_early h]
  | true =>
    intro n
    rw [hflow, stallExpires_at h]
    simp only [raise_meters, Tab.get_modify]
    split
    · next e =>
      subst e
      refine stallFits_stalled (hs n) ?_
      unfold stallOver timerReached timerAtLeast at h
      split at h
      · next hk => rw [hk]; rfl
      · exact absurd h (by simp)
    · exact hs n

/-- The stall time acts on every meter in turn (R6). -/
theorem stallsFollow_stallTime (ms : List Meter) (hs : StallsFollow s) :
    StallsFollow (ms.foldl (fun s m => stallExpires m s) s) := by
  induction ms generalizing s with
  | nil => exact hs
  | cons m ms ih => exact ih (stallsFollow_stallExpires hs m)

theorem stallsReady_changeLine (hs : StallsFollow s) (l : Line) (inUse : Bool) : StallsReady s (changeLine l inUse s) := by
  intro m he
  by_cases hm : m = lineMeter l
  · subst hm
    rw [flowExpected_changeLine_same, changeLine_meters, Tab.get_set_same]
    exact stallFits_startMeter inUse
  · rw [flowExpected_changeLine_ne hm, changeLine_meters, Tab.get_set_ne _ _ hm]
    exact hs m

theorem stallsReady_settingEffect (k : Setting) {c : WorkingConfig} (hc : c.inUse = s.config.inUse) (hs : StallsFollow s) :
    StallsReady s (settingEffect k { s with config := c }) := by
  have hw : StallsFollow { s with config := c } := hs.of_same rfl fun m =>
    flowExpected_congr (s := s) (t := { s with config := c }) hc rfl rfl m
  cases k with
  | stallTime => exact fun m _ => stallsFollow_stallTime allMeters hw m
  | _ => exact hs.ready_touched (w := { s with config := c }) rfl (touches_effect _ _) rfl

theorem stallsReady_serveConfigure {item : Nat} {value : Int} (hs : StallsFollow s) :
    StallsReady s (serveConfigure item value s).state := by
  refine serveConfigure_keeps (P := StallsReady s) (hs.ready rfl)
    (fun bank which => hs.ready ((touches_writeBank s bank _ _).same .meters rfl))
    (fun number => hs.ready ((touches_serveBinding s number value).same .meters rfl)) fun i => ?_
  cases i with
  | setting k =>
    obtain hrest := fun v => (putSetting_rest s.config v k).2.1
    exact serveSetting_keeps (P := StallsReady s) (s := s) (hs.ready rfl)
      fun v _ _ _ => stallsReady_settingEffect k (hrest v) hs
  | factor m => exact hs.ready rfl
  | inUse l =>
    simp only [serveItem, serveInUse, apply_ite Served.state]
    split
    · split
      · exact hs.ready rfl
      · exact stallsReady_changeLine hs l _
    · exact hs.ready rfl
  | range a high => exact hs.ready ((touches_serveRange s a high value).same .meters rfl)

theorem stallsFollow_start (amps : Currents) (s : State) : StallsFollow (start amps s) := fun m => by
  have hm := start_meters amps s m
  generalize start amps s = t at *
  rw [hm]
  exact stallFits_startMeter _

theorem stallsFollow_shedPush (p : Pass) (hs : StallsFollow s) : StallsFollow (shedPushStep p s) := by
  have htouch := touches_shedPushStep s p
  have hconfig : (shedPushStep p s).config = s.config := htouch.same .config rfl
  have hflare : (shedPushStep p s).flare = s.flare := htouch.same .flare rfl
  refine hs.of_same (htouch.same .meters rfl) (flowExpected_of_draws (by rw [hconfig]) (fun c => ?_) (by rw [hflare]))
  obtain ⟨w, o, h⟩ := shedPushStep_claim p s c
  rw [h]
  rfl

theorem stallsFollow_pop (p : Pass) (hs : StallsFollow s) : StallsFollow (popStep p s) := by
  have htouch := touches_popStep s p
  have hconfig : (popStep p s).config = s.config := htouch.same .config rfl
  have hflare : (popStep p s).flare = s.flare := htouch.same .flare rfl
  refine hs.of_same (htouch.same .meters rfl) (flowExpected_of_draws (by rw [hconfig]) (fun c => ?_) (by rw [hflare]))
  obtain ⟨w, h⟩ := popStep_claim p s c
  rw [h]
  rfl

theorem draws_restartLease (l : Link) (s : State) (c : Slot) :
    draws ((restartLease l s).claims.get c) = draws (s.claims.get c) := by
  obtain h | h := restartLease_claim l s c
  · rw [h]
  · rw [h]
    rfl

theorem stallsFollow_admitFrame (l : Link) (h : HeldRequest) (hs : StallsFollow s) : StallsFollow (admitFrame l h s) := by
  have htouch := touches_admitFrame s l h
  have hconfig : (admitFrame l h s).config = s.config := htouch.same .config rfl
  have hflare : (admitFrame l h s).flare = s.flare := htouch.same .flare rfl
  refine hs.of_same (htouch.same .meters rfl) (flowExpected_of_draws (by rw [hconfig]) (fun c => ?_) (by rw [hflare]))
  have hclaims : (admitFrame l h s).claims = (frameHeld l h s).claims := by
    rw [admitFrame_eq]
    split
    · exact respond_claims _ _ _ _ _
    · exact respond_claims _ _ _ _ _
    · rfl
    · rfl
  rw [hclaims]
  exact draws_restartLease l _ c

theorem stallsFollow_measureStep (p : Pass) (hs : StallsFollow s) : StallsFollow (measureStep p s) := fun m => by
  rw [flowExpected_of_touches (touches_measureStep s p) rfl rfl rfl, (measureStep_blocks p s).2.1, Tab.get_gen, meterHeld_eq]
  split
  · exact hs m
  · exact hs m

theorem stallsReady_sampleStep (amps : Currents) (p : Pass) (hs : StallsFollow s) : StallsReady s (sampleStep amps p s) :=
  fun m he => by
    rw [← he, (sampleStep_snapped amps p s).1, snapMeters_get]
    exact stallFits_snapMeter (hs m)

theorem stallsFollow_pulse (m : Meter) (hs : StallsFollow s) : StallsFollow { s with meters := s.meters.modify m countPulse } :=
  fun n => by
    have hget : (s.meters.modify m countPulse).get n = _ := Tab.get_modify _ _ _ _
    have hflow : flowExpected { s with meters := s.meters.modify m countPulse } n = flowExpected s n :=
      flowExpected_congr rfl rfl rfl n
    rw [hflow]
    show StallFits _ ((s.meters.modify m countPulse).get n)
    rw [hget]
    split
    · next e =>
      subst e
      exact stallFits_countPulse (hs n)
    · exact hs n

theorem stallsFollow_exec (hs : StallsFollow s) (hp : i ≠ .powerFail) (h : exec i s = .next t) : StallsFollow t := by
  cases i with
  | powerFail => exact absurd rfl hp
  | pulse m =>
    refine event_keeps h hs ?_
    have hcounted := stallsFollow_pulse m hs
    split
    · dsimp only
      split
      · exact hcounted
      · exact hcounted.of_touches (touches_raise _ _) rfl rfl rfl rfl
    · exact hs
  | stallTimerExpiry m => exact event_keeps h hs (stallsFollow_stallExpires hs m)
  | sampleStage amps =>
    refine flowEvent_rel (R := fun _ t => StallsFollow t) h hs fun _ => StallsReady.followed ?_
    exact inStage_keeps (P := StallsReady s) (hs.ready rfl) fun p _ _ => stallsReady_sampleStep amps p hs
  | measureStage => exact stage_keeps h hs fun p _ _ => stallsFollow_measureStep p hs
  | configure l item value =>
    refine request_rel (R := fun _ t => StallsFollow t) h hs
      (fun _ => hs.of_touches (touches_respond _ _ _ _ _) rfl rfl rfl rfl) fun _ => ?_
    exact (stallsReady_serveConfigure hs).followed.of_touches (touches_respond _ _ _ _ _) rfl rfl rfl rfl
  | powerOnStart => cases h; exact stallsFollow_start _ _
  | restartTakesPlace amps =>
    refine event_keeps h hs ?_
    split
    · exact stallsFollow_start _ _
    · exact hs
  | shedPush => exact stage_keeps h hs fun p _ _ => stallsFollow_shedPush p hs
  | pop => exact stage_keeps h hs fun p _ _ => stallsFollow_pop p hs
  | burnTimeSecond =>
    refine event_keeps h hs ?_
    split
    · exact hs.of_same rfl fun m => flowExpected_congr rfl rfl rfl m
    · exact hs
  | frameReceived l =>
    refine event_keeps h hs ?_
    have hports (p) : StallsFollow { s with ports := p } := hs.of_touches (touches_ports s p) rfl rfl rfl rfl
    split
    · split
      · exact stallsFollow_admitFrame l _ hs
      · exact hports _
    · exact hs
  | contactChange | clockSecond | passTimerExpiry | holderStage | snapshotStage | shortfallStage | restoreStage
  | admissionStage | allotmentStage | holdTimerExpiry | gapTimerExpiry | answerSent | unknownRequest | byteReceived
  | saveEnd => exact hs.of_touches (exec_touches h) rfl rfl rfl rfl
  | _ =>
    obtain ⟨u, hu, hf⟩ := exec_acts h
    exact (hs.ready (hu.same .meters rfl)).finished hs hf nofun

theorem flowExpected_advance (s : State) (m : Meter) : flowExpected (advanceBlocks s) m = flowExpected s m := by
  have hclaim (c : Slot) : (advanceBlocks s).claims.get c =
      { s.claims.get c with
        lease := Timer.advance (s.claims.get c).lease, start := Timer.advance (s.claims.get c).start } := Tab.get_gen _ c
  refine flowExpected_of_draws (s := s) (t := advanceBlocks s) rfl (fun c => ?_) rfl m
  rw [hclaim]
  rfl

theorem stallsFollow_tick (hs : StallsFollow s) : StallsFollow (tick s) := by
  obtain ⟨-, h⟩ | ⟨-, h⟩ := tick_cases s
  · intro m
    have hflow : flowExpected (tick s) m = flowExpected s m := by
      rw [h]
      exact (flowExpected_of_touches (touches_totals _ _) rfl rfl rfl m).trans (flowExpected_advance s m)
    have hget : (tick s).meters.get m =
        { s.meters.get m with stallTimer := Timer.advance (s.meters.get m).stallTimer } := by
      rw [h]
      exact Tab.get_gen _ m
    rw [hflow, hget]
    exact stallFits_advance (hs m)
  · rw [h]
    exact hs.of_same rfl fun m => flowExpected_congr rfl rfl rfl m

/-- On the backup cell the part stays so but for a power-on start. -/
theorem exec_supplied (hs : s.supplied = false) (hp : ∀ amps a b c, i ≠ .powerOnStart amps a b c)
    (h : exec i s = .next t) : t.supplied = false := by
  cases i with
  | powerOnStart amps a b c => exact absurd rfl (hp amps a b c)
  | powerFail => cases h; rfl
  | _ => exact (show t.supplied = s.supplied from (exec_touches h).same .supplied rfl).trans hs

theorem stallTimersFollow_exec (hs : StallTimersFollow s) (h : exec i s = .next t) : StallTimersFollow t := by
  intro ht
  by_cases hp : ∃ amps a b c, i = .powerOnStart amps a b c
  · obtain ⟨amps, a, b, c, rfl⟩ := hp
    cases h
    exact stallsFollow_start _ _
  · by_cases hsup : s.supplied = true
    · have hne : i ≠ .powerFail := by
        rintro rfl
        cases h
        exact absurd ht (by simp)
      exact stallsFollow_exec (hs hsup) hne h
    · have hno := exec_supplied (by simpa using hsup) (fun amps a b c e => hp ⟨amps, a, b, c, e⟩) h
      exact absurd (ht.symm.trans hno) (by simp)

/-- Settles O9: the meter stage follows what a command moves, and what moves a meter keeps it in order itself. -/
theorem stallTimersFollowFlowKept : Obligations.StallTimersFollowFlowKept := by
  intro s t hs h
  refine step_keeps (P := StallTimersFollow) (fun s q n hs hsup => ?_) (fun _ _ _ => stallTimersFollow_exec)
    (fun s hs hsup => ?_) hs h
  · exact StallsFollow.of_same (s := s) (hs hsup) rfl fun m => flowExpected_congr rfl rfl rfl m
  · refine stallsFollow_tick (hs ?_)
    exact (show (tick s).supplied = s.supplied from (touches_tick s).same .supplied rfl).symm.trans hsup

end Meters

end Sys2Proof.Machine
end

section
/-! What a command does to the pass in flight, the claims and the shed stack together: the course of a pass from its
beginning to its apply stage (chapter 5), against the moves of slots that any other command makes. -/

namespace Sys2Proof.Machine

open Sys2Proof

/-- What a pass in flight carries from stage to stage of its sheds, its allotments and their writing. -/
structure Course where
  stage : PassStage
  snapshot : Snapshot
  decisions : Decisions

def courseOf (p : Pass) : Course := ⟨p.stage, p.snapshot, p.decisions⟩

/-- The course of the pass in flight. -/
def course (s : State) : Option Course := s.balance.pass.map courseOf

theorem course_some {s : State} {p : Pass} (h : s.balance.pass = some p) : course s = some (courseOf p) := by
  rw [course, h]
  rfl

theorem course_congr {s t : State} (h : t.balance = s.balance) : course t = course s := by rw [course, h]; rfl

/-- A condition on the course of the pass in flight. -/
theorem forall_pass {Q : Course → Prop} (s : State) : (∀ p ∈ s.balance.pass, Q (courseOf p)) ↔ ∀ k ∈ course s, Q k := by
  cases h : s.balance.pass <;> simp [course, h]

/-- The course with other decisions and the stage they end. -/
def Course.decided (k : Course) (stage : PassStage) (d : Decisions) : Course := { k with stage, decisions := d }

/-- What a command makes of claims, stack and pass in flight. -/
inductive PassMove (i : Instr) (s t : State) : Prop
  /-- A command that has no part in the pass. -/
  | stays (hb : SlotsMove s t) (ht : course t = course s)
  /-- R83: a pass begins. -/
  | begins {k : Course} (hb : book t = book s) (hs : course s = none) (ht : course t = some k) (hk : k.stage = .banked)
    (hd : k.decisions = emptyDecisions)
  /-- The stages before the snapshot. -/
  | early {k : Course} (stage : PassStage) (hb : SlotsMove s t) (hs : course s = some k)
    (ht : course t = some { k with stage }) (hk : k.stage.hasSnapshot = false) (hk' : stage.hasSnapshot = false)
  /-- R89: the snapshot stage. -/
  | snaps {k : Course} {n : Snapshot} (hn : n.claims = Tab.gen fun c => copyClaim (s.claims.get c)) (hb : book t = book s)
    (hs : course s = some k) (hk : k.stage = .held)
    (ht : course t = some ⟨.snapped, n, { emptyDecisions with work := n.claims }⟩)
  /-- R92 to R95: the shortfall stage. -/
  | sheds {k : Course} (low : Bool) (hb : book t = book s) (hs : course s = some k) (hk : k.stage = .snapped)
    (ht : course t = some (k.decided .pushing (shortfall k.snapshot low k.decisions)))
  /-- R96, R111: a push. -/
  | pushes {k : Course} {x : Shed} {rest : List Shed} {pushed : List ShedRecord} {r : ShedRecord} (hs : course s = some k)
    (hk : k.stage = .pushing) (hx : k.decisions.toPush = x :: rest)
    (hr : r.slot = x.slot ∧ r.amount = x.amount ∧ r.pending = true) (hb : book t = book (pushRecord r s))
    (ht : course t = some (k.decided .pushing { k.decisions with toPush := rest, pushed }))
  /-- The restore stage, a pop that does not fit and the flare stage. -/
  | passes {k : Course} (stage : PassStage) {call : Bool} {demand : Nat} (hb : book t = book s) (hs : course s = some k)
    (hk : k.stage.hasSheds = true) (hk' : stage.hasSheds = true) (ha : stage.hasAllotments = k.stage.hasAllotments)
    (ht : course t = some (k.decided stage { k.decisions with call, demand }))
  /-- R98, R114: a pop. -/
  | pops {k : Course} {r : ShedRecord} {rest : List ShedRecord} (hs : course s = some k) (hk : k.stage = .popping)
    (hr : s.stack.records = r :: rest) (hb : book t = book (popRecord r rest s))
    (ht : course t = some (k.decided .restored
      { k.decisions with work := k.decisions.work.modify r.slot (popWork r.amount), restored := some r.slot }))
  /-- R99, R100: the admission stage. -/
  | admits {k : Course} {o : Option Slot} {sum : Nat} (hb : book t = book s) (hs : course s = some k)
    (hk : k.stage = .restored) (ho : ∀ c, o = some c → (k.decisions.work.get c).state = .waiting)
    (ht : course t = some (k.decided .admitted
      { k.decisions with work := admitWork o k.decisions.work, admitted := o, sumCeilings := sum }))
  /-- R101, R102: the allotment stage. -/
  | allots {k : Course} {sum : Nat} (hb : book t = book s) (hs : course s = some k) (hk : k.stage = .admitted)
    (ht : course t = some (k.decided .allotted
      { k.decisions with
        allotments := Tab.gen fun c => newAllotment (k.decisions.work.get c), sumAllotments := sum }))
  /-- R105, R106, R116: the apply stage. -/
  | applies {p : Pass} (hi : i = .applyStage) (hp : s.balance.pass = some p) (hk : p.stage = .flared)
    (hclaims : t.claims = applyClaims p s) (hstack : t.stack = applyStack p s) (ht : course t = none)
  /-- R85: a supply failure abandons the pass. -/
  | fails (hb : book t = book s) (ht : course t = none) (hsupplied : t.supplied = false)
  /-- R178: either start. -/
  | starts (k2 k4 : Bool) (hclaims : t.claims = Tab.gen (startClaim k2 k4)) (hstack : t.stack.records = [])
    (ht : course t = none)

section Commands

variable {i : Instr} {s t u : State}

/-- The meter stage and the answer change none of the blocks concerned. -/
theorem PassMove.followed {bs : List Block} (h : PassMove i s u) (hu : TouchesOnly bs u t)
    (hb : decide (Block.claims ∉ bs ∧ Block.stack ∉ bs) = true) (hp : decide (Block.balance ∉ bs) = true)
    (hsup : decide (Block.supplied ∉ bs) = true) : PassMove i s t := by
  have hclaims : t.claims = u.claims := hu .claims (of_decide_eq_true hb).1
  have hstack : t.stack = u.stack := hu .stack (of_decide_eq_true hb).2
  have hcourse : course t = course u := course_congr (hu.same .balance hp)
  have hsupplied : t.supplied = u.supplied := hu.same .supplied hsup
  have hbook : book t = book u := by rw [book, hclaims, hstack]; rfl
  cases h with
  | stays h ht => exact .stays (h.followed hu hb) (hcourse.trans ht)
  | begins h hs ht hk hd => exact .begins (hbook.trans h) hs (hcourse.trans ht) hk hd
  | early stage h hs ht hk hk' => exact .early stage (h.followed hu hb) hs (hcourse.trans ht) hk hk'
  | snaps hn h hs hk ht => exact .snaps hn (hbook.trans h) hs hk (hcourse.trans ht)
  | sheds low h hs hk ht => exact .sheds low (hbook.trans h) hs hk (hcourse.trans ht)
  | pushes hs hk hx hr h ht => exact .pushes hs hk hx hr (hbook.trans h) (hcourse.trans ht)
  | passes stage h hs hk hk' ha ht => exact .passes stage (hbook.trans h) hs hk hk' ha (hcourse.trans ht)
  | pops hs hk hr h ht => exact .pops hs hk hr (hbook.trans h) (hcourse.trans ht)
  | admits h hs hk ho ht => exact .admits (hbook.trans h) hs hk ho (hcourse.trans ht)
  | allots h hs hk ht => exact .allots (hbook.trans h) hs hk (hcourse.trans ht)
  | applies hi hp hk hc hst ht => exact .applies hi hp hk (hclaims.trans hc) (hstack.trans hst) (hcourse.trans ht)
  | fails h ht hf => exact .fails (hbook.trans h) (hcourse.trans ht) (hsupplied.trans hf)
  | starts k2 k4 hc hst ht =>
    exact .starts k2 k4 (hclaims.trans hc) ((congrArg (·.records) hstack).trans hst) (hcourse.trans ht)

theorem PassMove.refl (i : Instr) (s : State) : PassMove i s s := .stays (.refl s) rfl

theorem passMove_shedPush {p : Pass} (hp : s.balance.pass = some p) (hk : p.stage = .pushing) :
    PassMove i s (shedPushStep p s) := by
  unfold shedPushStep
  split
  · exact .refl i s
  · next x rest hx =>
    refine .pushes (course_some hp) hk hx (r := recordOf p s.balance.passNumber x) ⟨rfl, rfl, rfl⟩ rfl
      (pushed := p.decisions.pushed ++ [recordOf p s.balance.passNumber x]) ?_
    exact (course_some rfl).trans (by rw [courseOf, hk]; rfl)

theorem passMove_pop {p : Pass} (hp : s.balance.pass = some p) (hk : p.stage = .popping) :
    PassMove i s (popStep p s) := by
  have hunfit : PassMove i s (withPass { p with stage := .restored } s) :=
    .passes .restored rfl (course_some hp) (by rw [courseOf, hk]; rfl) rfl (by rw [courseOf, hk]; rfl) rfl
  unfold popStep
  split
  · exact hunfit
  · next r rest hr =>
    split
    · exact .pops (course_some hp) hk hr rfl rfl
    · exact hunfit

theorem passMove_admission {p : Pass} (hp : s.balance.pass = some p) (hk : p.stage = .restored) :
    PassMove i s (admissionStep p s) := by
  refine .admits (o := if admissionRuns p s then Machine.admits p.snapshot p.decisions.work else none) rfl
    (course_some hp) hk (fun c hc => ?_) rfl
  split at hc
  · have hadmits := List.find?_some hc
    rw [Bool.and_eq_true] at hadmits
    exact of_decide_eq_true hadmits.1
  · exact absurd hc nofun

theorem passMove_restore {p : Pass} (hp : s.balance.pass = some p) (hk : p.stage = .pushing) :
    PassMove i s (restoreStep p s) := by
  have hsheds : (courseOf p).stage.hasSheds = true := by rw [courseOf, hk]; rfl
  have hallots : (courseOf p).stage.hasAllotments = false := by rw [courseOf, hk]; rfl
  unfold restoreStep
  split
  · cases restoreRuns p s with
    | true => exact .passes .popping rfl (course_some hp) hsheds rfl hallots.symm rfl
    | false => exact .passes .restored rfl (course_some hp) hsheds rfl hallots.symm rfl
  · exact .refl i s

theorem passMove_start (amps : Currents) (u : State) : PassMove i s (start amps u) :=
  .starts _ _ (start_claims amps u) (by rw [start_stack]) rfl

/-- A CONFIGURE leaves the pass in flight but for the note of a line (R41). -/
theorem course_serveConfigure (item : Nat) (value : Int) (s : State) :
    course (serveConfigure item value s).state = course s := by
  refine serveConfigure_keeps (P := fun t => course t = course s) rfl
    (fun bank which => course_congr ((touches_writeBank s bank _ _).same .balance rfl))
    (fun number => course_congr ((touches_serveBinding s number value).same .balance rfl)) fun i => ?_
  cases i with
  | setting k => exact course_congr ((touches_serveSetting s k value).same .balance rfl)
  | factor m => rfl
  | inUse l =>
    simp only [serveItem, serveInUse, apply_ite Served.state]
    split
    · split
      · rfl
      · show (s.balance.pass.map _).map courseOf = _
        rw [Option.map_map]
        rfl
    · rfl
  | range a high => exact course_congr ((touches_serveRange s a high value).same .balance rfl)

/-- Every command is one of these. -/
theorem exec_passMove (h : exec i s = .next t) : PassMove i s t := by
  have stays := PassMove.refl i s
  have followed (u v : State) (hv : TouchesOnly [.meters, .alerts] u v) (hu : PassMove i s u) : PassMove i s v :=
    hu.followed hv rfl rfl rfl
  cases i with
  | passTimerExpiry =>
    refine event_keeps h stays ?_
    split
    · next hover =>
      exact .begins rfl (by rw [course, ((passOver_iff s).mp hover).1]; rfl) rfl rfl rfl
    · exact stays
  | sampleStage amps =>
    refine flowEvent_keeps followed h stays (inStage_keeps stays fun p hp hk => ?_)
    exact .early .sampled (slotsMove_sampleStep amps p s) (course_some hp) rfl (by rw [courseOf, hk]; rfl) rfl
  | measureStage =>
    refine stage_keeps h stays fun p hp hk => ?_
    exact .early .measured (.of_touches (touches_measureStep s p) rfl) (course_some hp) rfl (by rw [courseOf, hk]; rfl) rfl
  | holderStage =>
    refine stage_keeps h stays fun p hp hk => ?_
    exact .early .held (.of_touches (touches_holderStep s p) rfl) (course_some hp) rfl (by rw [courseOf, hk]; rfl) rfl
  | snapshotStage =>
    refine stage_keeps h stays fun p hp hk => ?_
    exact .snaps (n := takeSnapshot p s) rfl rfl (course_some hp) hk rfl
  | shortfallStage =>
    refine stage_keeps h stays fun p hp hk => ?_
    exact .sheds p.handed.pressureLow rfl (course_some hp) hk rfl
  | shedPush => exact stage_keeps h stays fun p => passMove_shedPush
  | restoreStage => exact stage_keeps h stays fun p => passMove_restore
  | pop => exact stage_keeps h stays fun p => passMove_pop
  | admissionStage => exact stage_keeps h stays fun p => passMove_admission
  | allotmentStage =>
    refine stage_keeps h stays fun p hp hk => ?_
    exact .allots rfl (course_some hp) hk rfl
  | flareStage =>
    refine flowEvent_keeps followed h stays (inStage_keeps stays fun p hp hk => ?_)
    have hhanded := touches_handOver s (flareCall p) (passDemand p)
    exact .passes .flared (by rw [book, book, ← hhanded.same .claims rfl, ← hhanded.same .stack rfl]; rfl) (course_some hp)
      (by rw [courseOf, hk]; rfl) rfl (by rw [courseOf, hk]; rfl) rfl
  | applyStage =>
    refine flowEvent_keeps followed h stays (inStage_keeps stays fun p hp hk => ?_)
    obtain ⟨hclaims, hstack, -, -, hbalance, -, -⟩ := applyStep_blocks p s
    exact .applies rfl hp hk hclaims hstack (by rw [course, hbalance]; rfl)
  | powerFail => cases h; exact .fails rfl rfl rfl
  | powerOnStart => cases h; exact passMove_start _ _
  | restartTakesPlace amps =>
    refine event_keeps h stays ?_
    split
    · exact passMove_start _ _
    · exact stays
  | configure l item value =>
    refine .stays (exec_slotsMove rfl h) ?_
    exact request_keeps (P := fun t => course t = course s)
      (fun _ _ ht hs => (course_congr (ht.same .balance rfl)).trans hs) h rfl (course_serveConfigure item value s)
  | _ => exact .stays (exec_slotsMove rfl h) (course_congr ((exec_touches h).same .balance rfl))

end Commands

end Sys2Proof.Machine
end

section
/-! Conditions on each claim by itself through every command, and the lock causes that keep a slot out of the gas
(R69, R71, R105). -/

namespace Sys2Proof.Machine

open Sys2Proof

/-! ## A condition on each claim -/

/-- What every transition of one claim keeps, but for the apply stage's write. -/
structure ClaimKept (P : Claim → Prop) : Prop where
  change : ∀ n old new, Change n old new → P old → P new
  purge : ∀ old f, Purge old f → P old → ∀ k, P (f (purged k old))
  epoch : ∀ cl e, P cl → P { cl with epoch := e }
  lease : ∀ cl, leased cl.state = true → P cl → P { cl with lease := cl.lease.map fun _ => 0 }
  withheld : ∀ cl w o, P cl → P { cl with withheld := w, orphaned := o }
  start : ∀ k2 k4 c, P (startClaim k2 k4 c)

section Claims

variable {P : Claim → Prop} {i : Instr} {s t : State}

theorem ClaimKept.moves (hP : ClaimKept P) (h : SlotsMove s t) (hs : ∀ c, P (s.claims.get c)) :
    ∀ c, P (t.claims.get c) :=
  h.keeps (Q := fun b => ∀ c, P (b.claims.get c))
    (fun _ _ _ hm hb => hm.claims_keep hP.change hP.purge hP.epoch hP.lease hb) hs

theorem ClaimKept.book (hs : ∀ c, P (s.claims.get c)) (h : book t = book s) : ∀ c, P (t.claims.get c) := fun c => by
  rw [show t.claims = s.claims from congrArg Book.claims h]
  exact hs c

/-- A condition on each claim is kept by every command if every transition and the pass's write keep it. -/
theorem ClaimKept.passMove (hP : ClaimKept P) (h : PassMove i s t)
    (hwrite : ∀ p c, i = .applyStage → s.balance.pass = some p → p.stage = .flared →
      (s.claims.get c).epoch = (p.snapshot.claims.get c).epoch → P (s.claims.get c) →
      P (writeResult (p.decisions.work.get c) (p.decisions.allotments.get c) (s.claims.get c)))
    (hs : ∀ c, P (s.claims.get c)) (c : Slot) : P (t.claims.get c) := by
  have moved (u : State) (hb : Machine.book t = Machine.book u) (w o : Nat)
      (hu : u.claims.get c = { s.claims.get c with withheld := w, orphaned := o }) : P (t.claims.get c) := by
    rw [show t.claims = u.claims from congrArg Book.claims hb, hu]
    exact hP.withheld _ _ _ (hs c)
  cases h with
  | stays hb => exact hP.moves hb hs c
  | early _ hb => exact hP.moves hb hs c
  | begins hb => exact ClaimKept.book hs hb c
  | snaps _ hb => exact ClaimKept.book hs hb c
  | sheds _ hb => exact ClaimKept.book hs hb c
  | passes _ hb => exact ClaimKept.book hs hb c
  | admits hb => exact ClaimKept.book hs hb c
  | allots hb => exact ClaimKept.book hs hb c
  | fails hb => exact ClaimKept.book hs hb c
  | pushes _ _ _ _ hb =>
    obtain ⟨w, o, hu⟩ := pushRecord_claim _ s c
    exact moved _ hb w o hu
  | pops _ _ _ hb => exact moved _ hb _ _ (popRecord_get _ _ s c)
  | @applies p hi hp hk hclaims =>
    rw [hclaims]
    by_cases he : (s.claims.get c).epoch = (p.snapshot.claims.get c).epoch
    · rw [applyClaims_written he]
      exact hwrite _ c hi hp hk he (hs c)
    · rw [applyClaims_discarded he]
      exact hP.withheld _ _ _ (hs c)
  | starts k2 k4 hclaims =>
    rw [hclaims, Tab.get_gen]
    exact hP.start k2 k4 c

/-- A millisecond runs in the two timers of a claim alone. -/
theorem tick_claim (s : State) (c : Slot) :
    (tick s).claims.get c = s.claims.get c ∨
      (tick s).claims.get c = { s.claims.get c with
        lease := Timer.advance (s.claims.get c).lease, start := Timer.advance (s.claims.get c).start } := by
  obtain ⟨-, h⟩ | ⟨-, h⟩ := tick_cases s
  · rw [h]
    exact .inr (Tab.get_gen _ c)
  · rw [h]
    exact .inl rfl

end Claims

/-! ## Lock causes (R69, R71) -/

/-- A claim with a lock cause is VACANT, LOCKED or LAPSED, and a LOCKED claim has a cause. -/
def LocksFit (cl : Claim) : Prop :=
  (cl.locks.empty = false → cl.state = .vacant ∨ cl.state = .locked ∨ cl.state = .lapsed) ∧
    (cl.state = .locked → cl.locks.empty = false)

section Locks

variable {s t : State} {i : Instr} {cl old new : Claim} {n : Nat}

theorem locksFit_of_same (h : LocksFit old) (hs : new.state = old.state) (hl : new.locks = old.locks) : LocksFit new := by
  unfold LocksFit
  rw [hs, hl]
  exact h

/-- A claim in no lock's way. -/
theorem locksFit_of_empty (h : cl.locks.empty = true) (hs : cl.state ≠ .locked) : LocksFit cl :=
  ⟨fun he => absurd (h.symm.trans he) (by simp), fun hl => absurd hl hs⟩

theorem locksFit_of_resting (h : cl.state = .vacant ∨ cl.state = .lapsed) : LocksFit cl := by
  obtain h | h := h
  · exact ⟨fun _ => .inl h, fun hl => absurd (h.symm.trans hl) (by simp)⟩
  · exact ⟨fun _ => .inr (.inr h), fun hl => absurd (h.symm.trans hl) (by simp)⟩

/-- A claim in any other state has no cause. -/
theorem LocksFit.empty (h : LocksFit cl) (hs : cl.state ≠ .vacant ∧ cl.state ≠ .locked ∧ cl.state ≠ .lapsed) :
    cl.locks.empty = true := by
  obtain ⟨hv, hl, hp⟩ := hs
  by_contra he
  obtain h | h | h := h.1 (by simpa using he)
  · exact hv h
  · exact hl h
  · exact hp h

theorem empty_put (k : Locks) (cause : LockCause) : (k.put cause true).empty = false := by
  cases cause <;> simp [Locks.put, Locks.empty]

theorem locksFit_locked (cause : LockCause) (h : cl.state = .vacant ∨ cl.state = .locked ∨ cl.state = .lapsed)
    (hl : cl.locks = old.locks.put cause true) : LocksFit cl :=
  ⟨fun _ => h, fun _ => by rw [hl]; exact empty_put _ _⟩

theorem locksFit_reopen (cl : Claim) : LocksFit (reopen cl) := by
  unfold reopen
  cases h : cl.locks.empty with
  | true => exact locksFit_of_empty h (by simp [toIdle])
  | false => exact ⟨fun _ => .inr (.inl rfl), fun _ => h⟩

theorem locksFit_standAt (r : Nat) (cl : Claim) : LocksFit (standAt r cl) := by
  cases h : cl.locks.empty with
  | true => exact locksFit_of_empty h (by simp [standAt, h])
  | false => exact ⟨fun _ => .inr (.inl (by simp [standAt, h])), fun _ => h⟩

theorem locksFit_unlocked (h : cl.locks.empty = false → cl.state = .vacant ∨ cl.state = .locked ∨ cl.state = .lapsed) :
    LocksFit (unlocked cl) := by
  by_cases hc : cl.state = .locked ∧ cl.locks.empty = true
  · obtain ⟨hs, he⟩ := hc
    refine locksFit_of_empty (by rw [unlocked_locks]; exact he) ?_
    rw [unlocked_leaves hs he]
    split <;> simp [toIdle]
  · rw [unlocked_stays (by simpa using not_and_or.mp hc)]
    exact ⟨h, fun hs => by simpa [hs] using hc⟩

/-- Taking a cause out of the set makes no set less empty. -/
theorem empty_of_put_false {k : Locks} {cause : LockCause} (h : (k.put cause false).empty = false) : k.empty = false := by
  by_contra he
  rw [locks_of_empty (k := k) (by simpa using he)] at h
  cases cause <;> exact absurd h (by decide)

theorem locksFit_limitClaim (x : Nat) (h : LocksFit cl) : LocksFit (limitClaim x cl) := by
  unfold limitClaim
  split
  · exact h
  · exact locksFit_of_same h rfl rfl

theorem Change.locksFit (h : Change n old new) (hold : LocksFit old) : LocksFit new := by
  have held (hs : old.state ≠ .vacant ∧ old.state ≠ .locked ∧ old.state ≠ .lapsed) := hold.empty hs
  cases h with
  | limits | stoodLocked | amendedWaiting | amendedHolding | reported | withdrew => exact locksFit_of_same hold rfl rfl
  | registered | reopened => exact locksFit_reopen _
  | stood => exact locksFit_standAt _ _
  | amendedShed r h =>
    refine locksFit_of_empty (held (by simp [h])) ?_
    show (if n = 0 then ClaimState.waiting else .shed) ≠ .locked
    split <;> simp
  | ran rate h => exact locksFit_of_empty (held (by simp [h])) (by simp [toRunning])
  | released h => exact locksFit_of_empty (held (by simp [h])) (by simp [toIdle])
  | causeAdded cause h => exact locksFit_locked cause ((lockable_false_iff _).mp h) rfl
  | causeRemoved cause => exact locksFit_unlocked fun he => hold.1 (empty_of_put_false he)
  | limited => exact locksFit_limitClaim _ hold

theorem Purge.locksFit {f : Claim → Claim} (h : Purge old f) (hold : LocksFit old) (k : Nat) :
    LocksFit (f (purged k old)) := by
  cases h with
  | idle h =>
    refine locksFit_of_empty (hold.empty ?_) (by simp [toIdle])
    obtain h | h | h := h <;> simp [h]
  | trip rate h => exact locksFit_of_empty (hold.empty (by simp [h])) (by simp [toIdle])
  | lapsed => exact locksFit_of_resting (.inr rfl)
  | locked cause => exact locksFit_locked (old := old) cause (.inr (.inl rfl)) rfl
  | vacant => exact locksFit_of_resting (.inl rfl)

theorem claimKept_locksFit : ClaimKept LocksFit where
  change _ _ _ h := h.locksFit
  purge _ _ h := h.locksFit
  epoch _ _ h := locksFit_of_same h rfl rfl
  lease _ _ h := locksFit_of_same h rfl rfl
  withheld _ _ _ h := locksFit_of_same h rfl rfl
  start _ _ _ := locksFit_of_resting (.inl rfl)

theorem writeResult_state (w : WorkClaim) (a : Nat) (cl : Claim) : (writeResult w a cl).state = w.state := by
  unfold writeResult
  split
  · next h => exact of_decide_eq_true (Bool.and_eq_true_iff.mp h).1
  · rfl

theorem writeResult_locks (w : WorkClaim) (a : Nat) (cl : Claim) : (writeResult w a cl).locks = cl.locks := by
  unfold writeResult
  split <;> rfl

/-- A pass moves a claim only between the states of a claim in play (R78). -/
def PlayMove (before after : ClaimState) : Prop :=
  after = before ∨ inPlay before = true ∧ (after = .admitted ∨ after = .shed)

/-- The pass's write keeps the locks in order where it moves a claim in play alone. -/
theorem locksFit_writeResult {w : WorkClaim} {a : Nat} (h : LocksFit cl) (hw : PlayMove cl.state w.state) :
    LocksFit (writeResult w a cl) := by
  obtain hw | ⟨hp, hw⟩ := hw
  · exact locksFit_of_same h ((writeResult_state w a cl).trans hw) (writeResult_locks w a cl)
  · refine locksFit_of_empty ?_ ?_
    · rw [writeResult_locks]
      refine h.empty ?_
      cases hs : cl.state <;> simp [inPlay, hs] at hp ⊢
    · rw [writeResult_state]
      obtain hw | hw := hw <;> simp [hw]

/-- Where epochs tell, the pass's result moves a claim that it finds unmoved in play alone. -/
theorem playMove_of_sound {p : Pass} {c : Slot} (hp : s.balance.pass = some p) (hk : p.stage = .flared)
    (hsound : EpochsTell s ∧ ClaimsInOrder s) (he : (s.claims.get c).epoch = (p.snapshot.claims.get c).epoch) :
    PlayMove (s.claims.get c).state (p.decisions.work.get c).state := by
  obtain ⟨htell, -, horder⟩ := hsound
  obtain ⟨hstate, -⟩ := htell p hp c he
  obtain ⟨-, -, -, -, hmove, -⟩ := (horder p hp c).1 (by rw [hk]; rfl)
  rw [hstate] at hmove
  exact hmove

theorem locksFit_exec (hs : ∀ c, LocksFit (s.claims.get c)) (hsound : i = .applyStage → EpochsTell s ∧ ClaimsInOrder s)
    (h : exec i s = .next t) : ∀ c, LocksFit (t.claims.get c) :=
  claimKept_locksFit.passMove (exec_passMove h)
    (fun _ _ hi hp hk he hfit => locksFit_writeResult hfit (playMove_of_sound hp hk (hsound hi) he)) hs

theorem locksFit_tick (hs : ∀ c, LocksFit (s.claims.get c)) (c : Slot) : LocksFit ((tick s).claims.get c) := by
  obtain h | h := tick_claim s c
  · rw [h]
    exact hs c
  · rw [h]
    exact locksFit_of_same (hs c) rfl rfl

/-- Settles O11: each transition keeps the locks in order, and the pass's write moves claims in play alone. -/
theorem lockCausesKeepGasAwayKept : Obligations.LockCausesKeepGasAwayKept := by
  intro s t hs hsound h
  obtain ⟨i, rest, hp, hexec⟩ | ⟨i, rfl⟩ | rfl := step_cases h
  · exact locksFit_exec (s := { s with pending := rest }) hs (fun hi => hsound rest (by rw [hp, hi])) hexec
  · exact hs
  · exact locksFit_tick hs

end Locks

end Sys2Proof.Machine
end

section
/-! A claim's parameters, request, timers and allotment keep in order (R58 to R70), and a claim without gas keeps an
allotment of 0 (R60). -/

namespace Sys2Proof.Machine

open Sys2Proof

/-! ## One claim in order -/

/-- m is at most x, both and u within their ranges (R63). -/
def LimitsFit (k : Limits) : Prop := k.m ≤ k.x ∧ 1 ≤ k.x ∧ k.x ≤ 5000 ∧ 1 ≤ k.u ∧ k.u ≤ 1000

/-- The parameters are in range, a request lies between them, and standing tells that there is one. -/
def AskFits (limits : Option Limits) (request : Option Nat) (standing : Bool) : Prop :=
  (∀ k ∈ limits, LimitsFit k) ∧ (∀ k ∈ limits, ∀ r ∈ request, k.m ≤ r ∧ r ≤ k.x) ∧ standing = request.isSome

/-- Which of parameters, request, lease and start timer a claim has in each state (R61, R67). -/
def stateFits (st : ClaimState) (registered asked leased started : Bool) : Bool :=
  match st with
  | .vacant => !registered && !asked && !leased && !started
  | .idle => registered && !asked && !leased && !started
  | .waiting | .running | .shed => registered && asked && leased && !started
  | .admitted => registered && asked && leased && started
  | .locked => registered && leased && !started
  | .lapsed => registered && !leased && !started

/-- An ADMITTED or RUNNING claim is allotted m to min(r, x) (R60). -/
def AllotFits (cl : Claim) : Prop :=
  cl.state = .admitted ∨ cl.state = .running →
    cl.min ≤ cl.allotment ∧ cl.allotment ≤ Nat.min (cl.request.getD 0) cl.max

/-- The claim has what its state asks. -/
def StateFits (cl : Claim) : Prop :=
  stateFits cl.state cl.limits.isSome cl.request.isSome cl.lease.isSome cl.start.isSome = true

/-- `ClaimInOrder` in three parts. -/
structure InOrder (cl : Claim) : Prop where
  ask : AskFits cl.limits cl.request cl.standing
  state : StateFits cl
  allot : AllotFits cl

theorem stateFits_iff (st : ClaimState) (registered asked leased started : Bool) :
    stateFits st registered asked leased started = true ↔
      (registered = false ↔ st = .vacant) ∧ (st = .vacant ∨ st = .idle → asked = false) ∧
      (st = .waiting ∨ st = .admitted ∨ st = .running ∨ st = .shed → asked = true) ∧
      (leased = true ↔ st = .waiting ∨ st = .admitted ∨ st = .running ∨ st = .shed ∨ st = .locked) ∧
      (started = true ↔ st = .admitted) := by
  cases st <;> simp [stateFits, and_assoc]

theorem inOrder_iff (cl : Claim) : ClaimInOrder cl ↔ InOrder cl := by
  have some_iff {α : Type} (o : Option α) : o ≠ none ↔ o.isSome = true := Option.isSome_iff_ne_none.symm
  have none_iff {α : Type} (o : Option α) : o = none ↔ o.isSome = false :=
    Option.isNone_iff_eq_none.symm.trans Option.isSome_eq_false_iff.symm
  have standing_iff : cl.standing = cl.request.isSome ↔ (cl.standing = true ↔ cl.request ≠ none) := by
    rw [some_iff]
    exact Bool.eq_iff_iff
  have state_iff := stateFits_iff cl.state cl.limits.isSome cl.request.isSome cl.lease.isSome cl.start.isSome
  rw [← none_iff, ← none_iff, ← some_iff, ← some_iff, ← some_iff] at state_iff
  constructor
  · rintro ⟨hvacant, hlimits, hrequest, hstanding, hfree, hplay, hlease, hstart, hallot⟩
    exact ⟨⟨hlimits, hrequest, standing_iff.mpr hstanding⟩, state_iff.mpr ⟨hvacant, hfree, hplay, hlease, hstart⟩, hallot⟩
  · rintro ⟨⟨hlimits, hrequest, hstanding⟩, hstate, hallot⟩
    obtain ⟨hvacant, hfree, hplay, hlease, hstart⟩ := state_iff.mp hstate
    exact ⟨hvacant, hlimits, hrequest, standing_iff.mp hstanding, hfree, hplay, hlease, hstart, hallot⟩

/-! ## What the transitions make of a claim in order -/

section Transitions

variable {old new cl : Claim} {n : Nat} {limits : Option Limits} {k : Limits}

theorem LimitsFit.registered (m x u : Nat) : LimitsFit (registerLimits m x u) := by
  obtain ⟨hx₁, hx₂⟩ := clampNat_bounds (lo := 1) (hi := 5000) (by decide) x
  obtain ⟨hu₁, hu₂⟩ := clampNat_bounds (lo := 1) (hi := 1000) (by decide) u
  exact ⟨(clampNat_bounds (Nat.zero_le _) m).2, hx₁, hx₂, hu₁, hu₂⟩

theorem LimitsFit.limited (h : LimitsFit k) (max : Nat) : LimitsFit (limitTo (clampNat 1 5000 max) k) := by
  obtain ⟨-, -, -, hu₁, hu₂⟩ := h
  obtain ⟨hx₁, hx₂⟩ := clampNat_bounds (lo := 1) (hi := 5000) (by decide) max
  exact ⟨(clampNat_bounds (Nat.zero_le _) k.m).2, hx₁, hx₂, hu₁, hu₂⟩

/-- Without a request the parameters alone count. -/
theorem askFits_free (h : ∀ k ∈ limits, LimitsFit k) : AskFits limits none false := ⟨h, by simp, rfl⟩

/-- A clamped request lies between the parameters of its claim. -/
theorem AskFits.clamped (h : AskFits cl.limits cl.request cl.standing) (r : Nat) :
    AskFits cl.limits (some (clampRequest cl r)) true := by
  obtain ⟨hlimits, -, -⟩ := h
  refine ⟨hlimits, fun k hk r' hr => ?_, rfl⟩
  obtain rfl : clampRequest cl r = r' := Option.some.inj hr
  have hl : cl.limits = some k := hk
  have hmin : cl.min = k.m := by rw [Claim.min, hl]; rfl
  have hmax : cl.max = k.x := by rw [Claim.max, hl]; rfl
  rw [clampRequest, hmin, hmax]
  exact clampNat_bounds (hlimits k hk).1 r

/-- A claim that holds no gas asks nothing of its allotment. -/
theorem allotFits_of_not (ha : cl.state ≠ .admitted) (hr : cl.state ≠ .running) : AllotFits cl := fun h =>
  absurd h (not_or.mpr ⟨ha, hr⟩)

/-- What an old state says of a claim in order. -/
theorem InOrder.of_state {st : ClaimState} (h : InOrder cl) (hs : cl.state = st) :
    stateFits st cl.limits.isSome cl.request.isSome cl.lease.isSome cl.start.isSome = true := hs ▸ h.state

theorem InOrder.free (h : InOrder cl) (hs : cl.request = none) : cl.standing = false := by
  rw [h.ask.2.2, hs]
  rfl

theorem inOrder_toIdle (hl : cl.limits.isSome = true) (h : ∀ k ∈ cl.limits, LimitsFit k) : InOrder (toIdle cl) where
  ask := askFits_free h
  state := by simp [StateFits, stateFits, toIdle, hl]
  allot := allotFits_of_not nofun nofun

theorem inOrder_reopen (hl : cl.limits.isSome = true) (h : ∀ k ∈ cl.limits, LimitsFit k) : InOrder (reopen cl) := by
  unfold reopen
  split
  · exact inOrder_toIdle hl h
  · exact ⟨askFits_free h, by simp [StateFits, stateFits, toIdle, hl], allotFits_of_not nofun nofun⟩

/-- Every claim but a VACANT one has its parameters. -/
theorem InOrder.registered (h : InOrder cl) (hs : cl.state ≠ .vacant) : cl.limits.isSome = true := by
  obtain ⟨hvacant, -⟩ := (stateFits_iff _ _ _ _ _).mp h.state
  exact Bool.not_eq_false _ ▸ fun hl => hs (hvacant.mp hl)

/-- A claim in play has a request. -/
theorem InOrder.asked (h : InOrder cl) (hs : inPlay cl.state = true) : cl.request.isSome = true := by
  obtain ⟨-, -, hplay, -, -⟩ := (stateFits_iff _ _ _ _ _).mp h.state
  refine hplay ?_
  cases hc : cl.state <;> simp [inPlay, hc] at hs ⊢

/-- The lease runs in the leased states. -/
theorem InOrder.lease_runs (h : InOrder cl) (hs : leased cl.state = true) : cl.lease.isSome = true := by
  obtain ⟨-, -, -, hlease, -⟩ := (stateFits_iff _ _ _ _ _).mp h.state
  refine hlease.mpr ?_
  cases hc : cl.state <;> simp [leased, hc] at hs ⊢

/-- The start timer is stopped outside ADMITTED. -/
theorem InOrder.start_stopped (h : InOrder cl) (hs : cl.state ≠ .admitted) : cl.start.isSome = false := by
  obtain ⟨-, -, -, -, hstart⟩ := (stateFits_iff _ _ _ _ _).mp h.state
  exact Bool.eq_false_iff.mpr fun ht => hs (hstart.mp ht)

theorem inOrder_standAt (h : InOrder cl) (hs : cl.state = .idle ∨ cl.state = .lapsed) (r : Nat) :
    InOrder (standAt (clampRequest cl r) cl) := by
  have hl : cl.limits.isSome = true := h.registered (by obtain hs | hs := hs <;> simp [hs])
  have hstart : cl.start.isSome = false := h.start_stopped (by obtain hs | hs := hs <;> simp [hs])
  refine ⟨h.ask.clamped r, ?_, ?_⟩
  · unfold StateFits standAt
    split <;> simp only [stateFits, hl, hstart] <;> rfl
  · unfold standAt
    split <;> exact allotFits_of_not nofun nofun

/-- A leased claim may have a request. -/
theorem stateFits_asked {st : ClaimState} {registered asked leased started : Bool} (hs : Machine.leased st = true)
    (h : stateFits st registered asked leased started = true) : stateFits st registered true leased started = true := by
  cases st <;> simp [Machine.leased, stateFits] at hs h ⊢ <;> simp [h]

/-- A start reported stops the start timer alone. -/
theorem stateFits_ran {registered asked leased started : Bool}
    (h : stateFits .admitted registered asked leased started = true) :
    stateFits .running registered asked leased false = true :=
  Bool.and_eq_true_iff.mpr ⟨(Bool.and_eq_true_iff.mp h).1, rfl⟩

theorem stateFits_amended (h : InOrder cl) (hs : leased cl.state = true) :
    stateFits cl.state cl.limits.isSome true cl.lease.isSome cl.start.isSome = true := stateFits_asked hs h.state

/-- An allotment that falls to a clamped request keeps its m. -/
theorem allotFits_amended (h : InOrder cl) (hs : cl.state = .admitted ∨ cl.state = .running) (r : Nat) :
    AllotFits { amendTo (clampRequest cl r) cl with allotment := Nat.min cl.allotment (clampRequest cl r) } := fun _ => by
  have hl : cl.limits.isSome = true := h.registered (by obtain hs | hs := hs <;> simp [hs])
  obtain ⟨k, hk⟩ := Option.isSome_iff_exists.mp hl
  obtain ⟨hm, hx⟩ := (h.ask.clamped r).2.1 k hk _ rfl
  obtain ⟨hlow, hhigh⟩ := h.allot hs
  have hmin : cl.min = k.m := by rw [Claim.min, hk]; rfl
  refine ⟨Nat.le_min.mpr ⟨hlow, hmin ▸ hm⟩, Nat.le_min.mpr ⟨Nat.min_le_right _ _, ?_⟩⟩
  exact (Nat.min_le_left _ _).trans (hhigh.trans (Nat.min_le_right _ _))

theorem inOrder_unlocked (h : InOrder cl) : InOrder (unlocked cl) := by
  by_cases hc : cl.state = .locked ∧ cl.locks.empty = true
  · obtain ⟨hs, he⟩ := hc
    have hl : cl.limits.isSome = true := h.registered (by simp [hs])
    have hlease : cl.lease.isSome = true := h.lease_runs (by rw [hs]; rfl)
    have hstart : cl.start.isSome = false := h.start_stopped (by simp [hs])
    rw [unlocked_leaves hs he]
    split
    · next hst =>
      have hask : cl.request.isSome = true := h.ask.2.2 ▸ hst
      exact ⟨h.ask, by simp only [StateFits, stateFits, hl, hask, hlease, hstart]; rfl, allotFits_of_not nofun nofun⟩
    · exact inOrder_toIdle hl h.ask.1
  · rw [unlocked_stays (by simpa using not_and_or.mp hc)]
    exact h

theorem allotFits_limited {k : Limits} (h : InOrder cl) (hk : cl.limits = some k) (x : Nat) :
    AllotFits (limitClaim (clampNat 1 5000 x) cl) := by
  obtain ⟨hm, -⟩ := LimitsFit.limited (h.ask.1 k hk) x
  have hlow : (limitTo (clampNat 1 5000 x) k).m ≤ k.m := by
    show clampNat 0 _ k.m ≤ k.m
    rw [clampNat_zero]
    exact Nat.min_le_left _ _
  have hmin : cl.min = k.m := by rw [Claim.min, hk]; rfl
  rw [limitClaim, hk]
  intro hs
  obtain ⟨hfrom, -⟩ := h.allot hs
  have hasked : cl.request.isSome = true := h.asked (by obtain hs | hs := hs <;> simp_all [inPlay])
  obtain ⟨r, hr⟩ := Option.isSome_iff_exists.mp hasked
  obtain ⟨hr₁, hr₂⟩ := clampNat_bounds hm r
  dsimp only at hs ⊢
  rw [hr]
  have hto : (limitTo (clampNat 1 5000 x) k).m ≤ cl.allotment := hlow.trans (hmin ▸ hfrom)
  obtain hs | hs := hs
  · rw [hs]
    exact ⟨Nat.le_min.mpr ⟨hto, Nat.le_refl _⟩, (Nat.min_le_right _ _).trans (Nat.le_min.mpr ⟨hr₁, hm⟩)⟩
  · rw [hs]
    exact ⟨Nat.le_min.mpr ⟨hto, Nat.le_min.mpr ⟨hr₁, hm⟩⟩, Nat.min_le_right _ _⟩

theorem inOrder_limited (h : InOrder cl) (x : Nat) : InOrder (limitClaim (clampNat 1 5000 x) cl) := by
  cases hk : cl.limits with
  | none => rwa [limitClaim, hk]
  | some k =>
    have hallot := allotFits_limited h hk x
    have hfits := LimitsFit.limited (h.ask.1 k hk) x
    have hstate := h.state
    rw [StateFits, hk] at hstate
    rw [limitClaim, hk] at hallot ⊢
    refine ⟨⟨?_, ?_, ?_⟩, ?_, hallot⟩
    · rintro k' ⟨⟩
      exact hfits
    · rintro k' ⟨⟩ r hr
      obtain ⟨r₀, -, rfl⟩ := Option.map_eq_some_iff.mp hr
      exact clampNat_bounds hfits.1 r₀
    · rw [h.ask.2.2, Option.isSome_map]
    · rw [StateFits, Option.isSome_map]
      exact hstate

theorem Change.inOrder (h : Change n old new) (hold : InOrder old) : InOrder new := by
  obtain ⟨hask, hstate, hallot⟩ := id hold
  have amended (hs : leased old.state = true) := stateFits_amended hold hs
  cases h with
  | limits m x u h =>
    have hfits := hold.of_state h
    rw [hold.registered (by simp [h])] at hfits
    have hnone : old.request = none := by
      obtain ⟨-, hfree, -⟩ := (stateFits_iff _ _ _ _ _).mp hstate
      simpa using hfree (.inr h)
    refine ⟨?_, by unfold StateFits; dsimp only; rw [h]; exact hfits, allotFits_of_not (by simp [h]) (by simp [h])⟩
    rw [hold.free hnone, hnone]
    exact askFits_free (by rintro k ⟨⟩; exact .registered m x u)
  | registered m x u => exact inOrder_reopen rfl (by rintro k ⟨⟩; exact .registered m x u)
  | stood r h => exact inOrder_standAt hold h r
  | stoodLocked r h =>
    exact ⟨hask.clamped r, amended (by rw [h]; rfl), allotFits_of_not (by simp [h]) (by simp [h])⟩
  | amendedWaiting r h =>
    have hstanding : old.standing = true := by
      obtain h | ⟨-, h⟩ := h
      · rw [hask.2.2]
        exact hold.asked (by rw [h]; rfl)
      · exact h
    refine ⟨hstanding ▸ hask.clamped r, amended ?_, ?_⟩
    · obtain h | ⟨h, -⟩ := h <;> rw [h] <;> rfl
    · obtain h | ⟨h, -⟩ := h
      · exact allotFits_of_not (by simp [h]) (by simp [h])
      · exact allotFits_of_not (by simp [h]) (by simp [h])
  | amendedHolding r h =>
    have hplay : inPlay old.state = true := by obtain h | h := h <;> rw [h] <;> rfl
    have hstanding : old.standing = true := by rw [hask.2.2]; exact hold.asked hplay
    refine ⟨hstanding ▸ hask.clamped r, amended ?_, allotFits_amended hold h r⟩
    obtain h | h := h <;> rw [h] <;> rfl
  | amendedShed r h =>
    have hstanding : old.standing = true := by rw [hask.2.2]; exact hold.asked (by rw [h]; rfl)
    have hfits := amended (by rw [h]; rfl)
    rw [h] at hfits
    refine ⟨hstanding ▸ hask.clamped r, ?_, ?_⟩
    · unfold StateFits
      dsimp only
      split
      · exact hfits
      · exact hfits
    · by_cases hn : n = 0
      · exact allotFits_of_not (by simp [hn]) (by simp [hn])
      · exact allotFits_of_not (by simp [hn]) (by simp [hn])
  | reported => exact ⟨hask, hstate, hallot⟩
  | ran rate h =>
    exact ⟨hask, stateFits_ran (hold.of_state h), fun _ => hallot (.inl h)⟩
  | released h => exact inOrder_toIdle (hold.registered (by simp [h])) hask.1
  | withdrew h =>
    have hfits := hold.of_state h
    refine ⟨askFits_free hask.1, ?_, allotFits_of_not (by simp [withdrawn, h]) (by simp [withdrawn, h])⟩
    unfold StateFits withdrawn
    dsimp only
    rw [h]
    exact hfits
  | reopened h => exact inOrder_reopen (hold.registered (by simp [h])) hask.1
  | causeAdded => exact ⟨hask, hstate, hallot⟩
  | causeRemoved cause => exact inOrder_unlocked ⟨hask, hstate, hallot⟩
  | limited max h => exact inOrder_limited hold max

theorem Purge.inOrder {f : Claim → Claim} (h : Purge old f) (hold : InOrder old) (k : Nat) :
    InOrder (f (purged k old)) := by
  obtain ⟨hask, -, -⟩ := id hold
  cases h with
  | idle h =>
    refine inOrder_toIdle (cl := purged k old) (hold.registered ?_) hask.1
    obtain h | h | h := h <;> simp [h]
  | trip rate h =>
    exact inOrder_toIdle (cl := { purged k old with lastRate := clampNat 0 5000 rate }) (hold.registered (by simp [h])) hask.1
  | lapsed h =>
    have hl := hold.registered (by rintro e; rw [e] at h; exact absurd h (by decide))
    exact ⟨hask, Bool.and_eq_true_iff.mpr ⟨Bool.and_eq_true_iff.mpr ⟨hl, rfl⟩, rfl⟩, allotFits_of_not nofun nofun⟩
  | locked cause h =>
    have hl := hold.registered (by rintro e; rw [e] at h; exact absurd h (by decide))
    have hlease : (leaseOnEntry old).isSome = true := by
      by_cases hi : old.state = .idle
      · simp [leaseOnEntry, hi]
      · rw [leaseOnEntry_lockable h hi]
        refine hold.lease_runs ?_
        cases hs : old.state <;> simp [lockable, leased, hs] at h hi ⊢
    exact ⟨hask, Bool.and_eq_true_iff.mpr ⟨Bool.and_eq_true_iff.mpr ⟨hl, hlease⟩, rfl⟩, allotFits_of_not nofun nofun⟩
  | vacant => exact ⟨askFits_free nofun, rfl, allotFits_of_not nofun nofun⟩

theorem claimKept_inOrder : ClaimKept InOrder where
  change _ _ _ h := h.inOrder
  purge _ _ h := h.inOrder
  epoch _ _ h := ⟨h.ask, h.state, h.allot⟩
  lease cl _ h := ⟨h.ask, by unfold StateFits; rw [Option.isSome_map]; exact h.state, h.allot⟩
  withheld _ _ _ h := ⟨h.ask, h.state, h.allot⟩
  start _ _ _ := ⟨askFits_free nofun, rfl, allotFits_of_not nofun nofun⟩

theorem appliedStart_isSome {before after : ClaimState} {timer : Timer} (h : timer.isSome = decide (before = .admitted)) :
    (appliedStart before after timer).isSome = decide (after = .admitted) := by
  unfold appliedStart
  by_cases ha : after = .admitted
  · by_cases hb : before = .admitted <;> simp [ha, hb, h]
  · by_cases hb : before = .admitted <;> simp [ha, hb, h]

/-- The pass's write keeps a claim in order where it moves it in play alone and allots what R60 wants. -/
theorem inOrder_writeResult {w : WorkClaim} {a : Nat} (h : InOrder cl) (hw : PlayMove cl.state w.state)
    (ha : w.state = .admitted ∨ w.state = .running → cl.min ≤ a ∧ a ≤ Nat.min (cl.request.getD 0) cl.max) :
    InOrder (writeResult w a cl) := by
  by_cases hsame : cl.state = w.state ∧ cl.allotment = a
  · rwa [writeResult_same hsame.1 hsame.2]
  · rw [writeResult_changed (by simpa using not_and_or.mp hsame)]
    refine ⟨h.ask, ?_, ha⟩
    have hstart : cl.start.isSome = decide (cl.state = .admitted) := by
      obtain ⟨-, -, -, -, hstart⟩ := (stateFits_iff _ _ _ _ _).mp h.state
      exact Bool.eq_iff_iff.mpr (hstart.trans decide_eq_true_iff.symm)
    have hnew := appliedStart_isSome (after := w.state) hstart
    unfold StateFits
    dsimp only
    rw [hnew]
    obtain hw | ⟨hplay, hw⟩ := hw
    · rw [hw, ← hstart]
      exact h.state
    · have hl := h.registered (by rintro e; rw [e] at hplay; exact absurd hplay (by decide))
      have hlease := h.lease_runs (by cases hs : cl.state <;> simp [inPlay, leased, hs] at hplay ⊢)
      rw [hl, h.asked hplay, hlease]
      obtain hw | hw := hw <;> rw [hw] <;> rfl

end Transitions

end Sys2Proof.Machine
end

section
/-! What the shortfall stage can do to a working copy and to the sheds it decides, slot by slot (R91 to R95). -/

namespace Sys2Proof.Machine

open Sys2Proof

/-- Cuts raise w, take a claim that holds gas to SHED, and are of at least 1 kW each. -/
structure CutsFrom (d u : Decisions) : Prop where
  work : ∀ c, ∃ held, u.work.get c = { d.work.get c with withheld := held } ∨
    holdsGas (d.work.get c) = true ∧ u.work.get c = { d.work.get c with state := .shed, withheld := held }
  toPush : ∀ x ∈ u.toPush, x ∈ d.toPush ∨ 1 ≤ x.amount ∧ holdsGas (d.work.get x.slot) = true

section Cuts

variable {d u v : Decisions} {c : Slot} {kind : ShedKind} {amount : Nat} {cuts : WorkClaim → Bool} {report : ShedReport}
  {snap : Snapshot}

theorem CutsFrom.of_same (hw : u.work = d.work) (hp : u.toPush = d.toPush) : CutsFrom d u :=
  ⟨fun c => ⟨(d.work.get c).withheld, .inl (by rw [hw])⟩, fun x hx => .inl (hp ▸ hx)⟩

theorem CutsFrom.refl (d : Decisions) : CutsFrom d d := .of_same rfl rfl

/-- Cuts leave no other claim holding gas. -/
theorem CutsFrom.holdsGas (h : CutsFrom d u) (hu : Machine.holdsGas (u.work.get c) = true) :
    Machine.holdsGas (d.work.get c) = true := by
  obtain ⟨held, hw | ⟨hg, -⟩⟩ := h.work c
  · rw [hw] at hu
    exact hu
  · exact hg

theorem CutsFrom.trans (h : CutsFrom d u) (h' : CutsFrom u v) : CutsFrom d v := by
  refine ⟨fun c => ?_, fun x hx => ?_⟩
  · obtain ⟨held, hw⟩ := h.work c
    obtain ⟨held', hw' | ⟨hg, hw'⟩⟩ := h'.work c
    · refine ⟨held', ?_⟩
      obtain hw | ⟨hg, hw⟩ := hw
      · exact .inl (by rw [hw', hw])
      · exact .inr ⟨hg, by rw [hw', hw]⟩
    · refine ⟨held', .inr ⟨h.holdsGas hg, ?_⟩⟩
      obtain hw | ⟨-, hw⟩ := hw
      · rw [hw', hw]
      · rw [hw', hw]
  · obtain hx | ⟨ha, hg⟩ := h'.toPush x hx
    · exact h.toPush x hx
    · exact .inr ⟨ha, h.holdsGas hg⟩

/-- One cut of a claim that holds gas. -/
theorem cutsFrom_cut (hg : holdsGas (d.work.get c) = true) : CutsFrom d (cut c kind amount d) := by
  refine ⟨fun e => ?_, fun x hx => ?_⟩
  · by_cases he : e = c
    · rw [he, cut_work_same]
      cases kind with
      | trim => exact ⟨_, .inl rfl⟩
      | whole => exact ⟨_, .inr ⟨hg, rfl⟩⟩
    · rw [cut_work_ne he]
      exact ⟨_, .inl rfl⟩
  · by_cases ha : amount = 0
    · exact .inl (by simpa [cut, ha] using hx)
    · rw [cut_toPush ha, List.mem_append, List.mem_singleton] at hx
      obtain hx | rfl := hx
      · exact .inl hx
      · exact .inr ⟨Nat.pos_of_ne_zero ha, hg⟩

/-- A whole shed of the claims that a test picks, each of them holding gas. -/
theorem cutsFrom_shedOne (hcuts : ∀ w, cuts w = true → holdsGas w = true) (c : Slot) (d : Decisions) :
    CutsFrom d (shedOne cuts report d c) := by
  cases h : cuts (d.work.get c) with
  | true =>
    rw [shedOne_of h]
    have hnamed : CutsFrom d { d with kind := report } := .of_same rfl rfl
    exact hnamed.trans (cutsFrom_cut (hcuts _ h))
  | false =>
    rw [shedOne_of_not h]
    exact .refl d

theorem cutsFrom_foldl (hcuts : ∀ w, cuts w = true → holdsGas w = true) (order : List Slot) (d : Decisions) :
    CutsFrom d (order.foldl (shedOne cuts report) d) := by
  induction order generalizing d with
  | nil => exact .refl d
  | cons c order ih => exact (cutsFrom_shedOne hcuts c d).trans (ih _)

theorem cutsFrom_stepOn (hg : holdsGas (d.work.get c) = true) (shedStep : Nat) : CutsFrom d (stepOn shedStep c d) := by
  obtain ⟨kind, amount, h⟩ := stepOn_cases shedStep c d
  rw [h]
  have hcounted : CutsFrom d (counted d) := .of_same rfl rfl
  exact hcounted.trans (cutsFrom_cut hg)

theorem victim_holdsGas {ranks : Tab 5 Nat} {work : Tab 5 WorkClaim} (h : victim ranks work = some c) :
    holdsGas (work.get c) = true := by
  have hpicked := List.find?_some h
  exact (Bool.and_eq_true_iff.mp hpicked).1

/-- What every step keeps, the steps keep. -/
theorem shortfallSteps_keeps {P : Decisions → Prop}
    (hP : ∀ d c, holdsGas (d.work.get c) = true → P d → P (stepOn snap.row.shedStep c d)) (n : Nat) (hd : P d) :
    P (shortfallSteps snap n d) := by
  induction n generalizing d with
  | zero => exact hd
  | succ n ih =>
    unfold shortfallSteps
    split
    · split
      · next hv => exact ih (hP d _ (victim_holdsGas hv) hd)
      · exact hd
    · exact hd

theorem cutsFrom_shortfallSteps (n : Nat) (d : Decisions) : CutsFrom d (shortfallSteps snap n d) :=
  shortfallSteps_keeps (P := CutsFrom d) (fun _ _ hg h => h.trans (cutsFrom_stepOn hg _)) n (.refl d)

theorem heldBelowMin_holds (w : WorkClaim) (h : heldBelowMin w = true) : holdsGas w = true := (Bool.and_eq_true_iff.mp h).1

theorem heldAboveZero_holds (w : WorkClaim) (h : heldAboveZero w = true) : holdsGas w = true :=
  (Bool.and_eq_true_iff.mp h).1

/-- The shortfall stage is a run of cuts. -/
theorem cutsFrom_shortfall (snap : Snapshot) (low : Bool) (d : Decisions) : CutsFrom d (shortfall snap low d) := by
  have hbelow : CutsFrom d (belowMinShed snap.ranks d) := cutsFrom_foldl heldBelowMin_holds _ d
  by_cases h : snap.row.cutAll = true ∨ low = true
  · rw [shortfall_cutAll h, cutAllOne_eq]
    have hfrom : CutsFrom (belowMinShed snap.ranks d) (cutAllFrom snap low (belowMinShed snap.ranks d)) := .of_same rfl rfl
    generalize cutAllFrom snap low (belowMinShed snap.ranks d) = b at *
    exact (hbelow.trans hfrom).trans (cutsFrom_foldl heldAboveZero_holds _ b)
  · rw [not_or, Bool.not_eq_true, Bool.not_eq_true] at h
    rw [shortfall_steps h.1 h.2]
    exact hbelow.trans (cutsFrom_shortfallSteps _ _)

/-- After the stage every claim held has its m (R92). -/
theorem minimaFit_shortfall (snap : Snapshot) (low : Bool) (d : Decisions) : MinimaFit (shortfall snap low d) := by
  have hbelow : MinimaFit (belowMinShed snap.ranks d) :=
    (belowMinShed_over snap.ranks d).minimaFit_of_belowMin (mem_cutOrder snap.ranks)
  by_cases h : snap.row.cutAll = true ∨ low = true
  · rw [shortfall_cutAll h, cutAllOne_eq]
    have hfrom : MinimaFit (cutAllFrom snap low (belowMinShed snap.ranks d)) := hbelow
    generalize cutAllFrom snap low (belowMinShed snap.ranks d) = b at *
    exact (foldl_shedOne (cutOrder_nodup snap.ranks) b).minimaFit hfrom
  · rw [not_or, Bool.not_eq_true, Bool.not_eq_true] at h
    rw [shortfall_steps h.1 h.2]
    exact shortfallSteps_keeps (P := MinimaFit) (fun _ _ _ => stepOn_minimaFit) _ hbelow

end Cuts

end Sys2Proof.Machine
end

section
/-! The working copy of a pass in flight keeps in order up to its writing (R78, R91 to R102, R105), and with it the
claims (R60). -/

namespace Sys2Proof.Machine

open Sys2Proof

/-! ## Stages -/

theorem hasAllotments_iff (k : PassStage) : k.hasAllotments = true ↔ k = .allotted ∨ k = .flared := by
  cases k <;> simp [PassStage.hasAllotments]

theorem hasSheds_of_allotments {k : PassStage} (h : k.hasAllotments = true) : k.hasSheds = true := by
  obtain rfl | rfl := (hasAllotments_iff k).mp h <;> rfl

theorem hasSnapshot_of_sheds {k : PassStage} (h : k.hasSheds = true) : k.hasSnapshot = true := by
  cases k <;> simp_all [PassStage.hasSheds, PassStage.hasSnapshot]

/-- Before the snapshot stage nothing later is done. -/
theorem early_stage {k : PassStage} (h : k.hasSnapshot = false) : k.hasSheds = false ∧ k.hasAllotments = false := by
  cases k <;> simp_all [PassStage.hasSheds, PassStage.hasAllotments, PassStage.hasSnapshot]

theorem holdsGas_iff (w : WorkClaim) : holdsGas w = true ↔ w.state = .admitted ∨ w.state = .running := by
  simp [holdsGas]

/-! ## Allotments of claims without gas (R60, R101) -/

/-- A claim that is neither ADMITTED nor RUNNING has no allotment. -/
def GasFits (cl : Claim) : Prop := cl.state ≠ .admitted → cl.state ≠ .running → cl.allotment = 0

/-- Once the allotments are formed, claims not held have none. -/
def AllotsHolders (k : Course) : Prop :=
  k.stage.hasAllotments = true → ∀ c, holdsGas (k.decisions.work.get c) = false → k.decisions.allotments.get c = 0

section Gas

variable {old new cl : Claim} {n : Nat} {s t : State} {i : Instr}

theorem gasFits_of_zero (h : cl.allotment = 0) : GasFits cl := fun _ _ => h

theorem GasFits.of_same (h : GasFits old) (hs : new.state = old.state) (ha : new.allotment = old.allotment) : GasFits new := by
  unfold GasFits
  rw [hs, ha]
  exact h

theorem gasFits_unlocked (h : GasFits cl) : GasFits (unlocked cl) := by
  by_cases hc : cl.state = .locked ∧ cl.locks.empty = true
  · obtain ⟨hs, he⟩ := hc
    have hzero : cl.allotment = 0 := h (by simp [hs]) (by simp [hs])
    rw [unlocked_leaves hs he]
    split
    · exact gasFits_of_zero hzero
    · exact gasFits_of_zero rfl
  · rw [unlocked_stays (by simpa using not_and_or.mp hc)]
    exact h

theorem gasFits_reopen (cl : Claim) : GasFits (reopen cl) := by
  unfold reopen
  split
  · exact gasFits_of_zero rfl
  · exact gasFits_of_zero rfl

theorem gasFits_limitClaim (x : Nat) (h : GasFits cl) : GasFits (limitClaim x cl) := by
  unfold limitClaim
  split
  · exact h
  · intro ha hr
    dsimp only at ha hr ⊢
    unfold allotmentCap
    split
    · exact absurd ‹_› ha
    · exact absurd ‹_› hr
    · exact h ha hr

theorem Change.gasFits (h : Change n old new) (hold : GasFits old) : GasFits new := by
  cases h with
  | limits | stoodLocked | amendedWaiting | reported | withdrew | causeAdded => exact hold.of_same rfl rfl
  | registered | reopened => exact gasFits_reopen _
  | stood r h =>
    have hzero : old.allotment = 0 := by obtain h | h := h <;> exact hold (by simp [h]) (by simp [h])
    exact gasFits_of_zero hzero
  | amendedHolding r h => exact fun ha hr => absurd h (not_or.mpr ⟨ha, hr⟩)
  | amendedShed r h =>
    have hzero : old.allotment = 0 := hold (by simp [h]) (by simp [h])
    exact gasFits_of_zero hzero
  | ran => exact fun _ hr => absurd rfl hr
  | released => exact gasFits_of_zero rfl
  | causeRemoved => exact gasFits_unlocked (hold.of_same rfl rfl)
  | limited => exact gasFits_limitClaim _ hold

theorem Purge.gasFits {f : Claim → Claim} (h : Purge old f) (k : Nat) : GasFits (f (purged k old)) := by
  cases h <;> exact gasFits_of_zero rfl

theorem claimKept_gasFits : ClaimKept GasFits where
  change _ _ _ h := h.gasFits
  purge _ _ h _ := h.gasFits
  epoch _ _ h := h.of_same rfl rfl
  lease _ _ h := h.of_same rfl rfl
  withheld _ _ _ h := h.of_same rfl rfl
  start _ _ _ := gasFits_of_zero rfl

theorem gasFits_writeResult {w : WorkClaim} {a : Nat} (h : holdsGas w = false → a = 0) : GasFits (writeResult w a cl) := by
  intro ha hr
  rw [writeResult_state] at ha hr
  have ha : a = 0 := h (by simp [holdsGas, ha, hr])
  unfold writeResult
  split
  · next he => rw [← ha]; exact of_decide_eq_true (Bool.and_eq_true_iff.mp he).2
  · exact ha

/-- A course whose allotments are not formed. -/
theorem allotsHolders_of_not {k : Course} (h : k.stage.hasAllotments = false) : AllotsHolders k := fun ht =>
  absurd (h.symm.trans ht) (by simp)

theorem PassMove.allotsHolders (h : PassMove i s t) (hs : ∀ k ∈ course s, AllotsHolders k) :
    ∀ k ∈ course t, AllotsHolders k := by
  cases h with
  | stays _ ht => rw [ht]; exact hs
  | begins _ _ ht hk => rw [ht]; rintro k ⟨⟩; exact allotsHolders_of_not (by rw [hk]; rfl)
  | early stage _ _ ht _ hk => rw [ht]; rintro k ⟨⟩; exact allotsHolders_of_not (early_stage hk).2
  | snaps _ _ _ _ ht => rw [ht]; rintro k ⟨⟩; exact allotsHolders_of_not rfl
  | sheds _ _ _ _ ht => rw [ht]; rintro k ⟨⟩; exact allotsHolders_of_not rfl
  | pushes _ _ _ _ _ ht => rw [ht]; rintro k ⟨⟩; exact allotsHolders_of_not rfl
  | passes stage _ hp _ _ ha ht =>
    have hold := hs _ hp
    rw [ht]
    rintro k ⟨⟩
    exact fun h => hold (ha.symm.trans h)
  | pops _ _ _ _ ht => rw [ht]; rintro k ⟨⟩; exact allotsHolders_of_not rfl
  | admits _ _ _ _ ht => rw [ht]; rintro k ⟨⟩; exact allotsHolders_of_not rfl
  | allots _ _ _ ht =>
    rw [ht]
    rintro k ⟨⟩
    intro _ c hc
    have hno := (holdsGas_iff _).not.mp (by rw [hc]; simp)
    exact (Tab.get_gen _ c).trans (newAllotment_other (not_or.mp hno).1 (not_or.mp hno).2)
  | applies _ _ _ _ _ ht | fails _ ht | starts _ _ _ _ ht => rw [ht]; rintro k ⟨⟩

theorem allotmentOnlyHolders_iff (s : State) :
    AllotmentOnlyHolders s ↔ (∀ c, GasFits (s.claims.get c)) ∧ ∀ k ∈ course s, AllotsHolders k := by
  refine and_congr Iff.rfl ?_
  rw [← forall_pass]
  refine forall_congr' fun p => imp_congr_right fun _ => ?_
  unfold PassAllotsOnlyHolders AllotsHolders
  rw [← hasAllotments_iff]
  rfl

theorem allotmentOnlyHolders_exec (hs : AllotmentOnlyHolders s) (h : exec i s = .next t) : AllotmentOnlyHolders t := by
  rw [allotmentOnlyHolders_iff] at hs ⊢
  obtain ⟨hclaims, hpass⟩ := hs
  refine ⟨claimKept_gasFits.passMove (exec_passMove h) (fun p c _ hp hk _ _ => gasFits_writeResult fun hw => ?_) hclaims,
    (exec_passMove h).allotsHolders hpass⟩
  have hstage : (courseOf p).stage.hasAllotments = true := by rw [courseOf, hk]; rfl
  exact hpass _ (course_some hp) hstage c hw

end Gas

theorem course_tick (s : State) : course (tick s) = course s := by
  obtain ⟨-, h⟩ | ⟨-, h⟩ := tick_cases s
  · rw [h]
    rfl
  · rw [h]
    rfl

theorem allotmentOnlyHolders_tick {s : State} (hs : AllotmentOnlyHolders s) : AllotmentOnlyHolders (tick s) := by
  rw [allotmentOnlyHolders_iff] at hs ⊢
  refine ⟨fun c => ?_, by rw [course_tick]; exact hs.2⟩
  obtain h | h := tick_claim s c
  · rw [h]
    exact hs.1 c
  · rw [h]
    exact (hs.1 c).of_same rfl rfl

/-! ## The working copy in order (R78, R91, R92, R101) -/

/-- A working claim `w` over its snapshot `n`: parameters kept, its state moved in play alone, and the snapshot as the
claim's order gave it. -/
def WorkFits (n w : WorkClaim) : Prop :=
  w.m = n.m ∧ w.x = n.x ∧ w.request = n.request ∧ w.allotment = n.allotment ∧ PlayMove n.state w.state ∧
    (inPlay n.state = true → n.m ≤ n.x ∧ n.request ≠ none ∧ n.m ≤ n.request.getD 0) ∧
    (n.state = .running → n.m ≤ n.allotment)

/-- A course whose working copy is in order on every slot. -/
def WorkOrdered (k : Course) : Prop :=
  ∀ c, WorkInOrder k.stage (k.snapshot.claims.get c) (k.decisions.work.get c) (k.decisions.allotments.get c)

theorem claimsInOrder_iff (s : State) :
    ClaimsInOrder s ↔ (∀ c, InOrder (s.claims.get c)) ∧ ∀ k ∈ course s, WorkOrdered k := by
  refine and_congr (forall_congr' fun c => inOrder_iff _) ?_
  rw [← forall_pass]
  exact Iff.rfl

section Work

variable {n w v : WorkClaim} {s t : State} {i : Instr} {stage stage' : PassStage} {a : Nat} {cl : Claim}

theorem PlayMove.trans {x y z : ClaimState} (h : PlayMove x y) (h' : PlayMove y z) : PlayMove x z := by
  obtain rfl | ⟨hx, -⟩ := id h
  · exact h'
  · obtain rfl | ⟨-, hz⟩ := h'
    · exact h
    · exact .inr ⟨hx, hz⟩

/-- A working claim moves on, its w with it. -/
theorem WorkFits.moves (h : WorkFits n w) {st : ClaimState} (hst : PlayMove w.state st) (held : Nat) :
    WorkFits n { w with state := st, withheld := held } := by
  obtain ⟨hm, hx, hr, ha, hmove, hplay, hrun⟩ := h
  exact ⟨hm, hx, hr, ha, hmove.trans hst, hplay, hrun⟩

theorem workInOrder_early (h : stage.hasSnapshot = false) : WorkInOrder stage n w a := by
  obtain ⟨hsheds, hallots⟩ := early_stage h
  exact ⟨fun hk => absurd (h.symm.trans hk) (by simp), fun hk => absurd (hsheds.symm.trans hk) (by simp),
    fun hk => absurd (hallots.symm.trans hk) (by simp)⟩

/-- What a claim in order gives its snapshot copy. -/
theorem workFits_copy (h : InOrder cl) : WorkFits (copyClaim cl) (copyClaim cl) := by
  refine ⟨rfl, rfl, rfl, rfl, .inl rfl, fun hp => ?_, fun hr => (h.allot (.inr hr)).1⟩
  have hl : cl.limits.isSome = true := h.registered (by rintro e; rw [copyClaim, e] at hp; exact absurd hp (by simp [inPlay]))
  obtain ⟨k, hk⟩ := Option.isSome_iff_exists.mp hl
  obtain ⟨r, hr⟩ := Option.isSome_iff_exists.mp (h.asked hp)
  have hmin : (copyClaim cl).m = k.m := by rw [copyClaim, Claim.min, hk]; rfl
  have hmax : (copyClaim cl).x = k.x := by rw [copyClaim, Claim.max, hk]; rfl
  have hreq : (copyClaim cl).request = some r := hr
  rw [hmin, hmax, hreq]
  exact ⟨(h.ask.1 k hk).1, by simp, (h.ask.2.1 k hk r hr).1⟩

/-- A claim that holds gas is in play. -/
theorem inPlay_of_holdsGas (h : holdsGas w = true) : inPlay w.state = true := by
  obtain h | h := (holdsGas_iff w).mp h <;> rw [h] <;> rfl

theorem ceiling_le (w : WorkClaim) : w.ceiling ≤ Nat.min (w.request.getD 0) w.x := by
  unfold WorkClaim.ceiling ceilingOf
  cases w.request with
  | none => exact Nat.zero_le _
  | some r => exact Nat.sub_le _ _

/-- A lower w leaves no lower a ceiling. -/
theorem ceiling_le_lowered (amount : Nat) (w : WorkClaim) : w.ceiling ≤ (lowered amount w).ceiling := by
  unfold WorkClaim.ceiling ceilingOf lowered
  cases w.request with
  | none => exact Nat.le_refl _
  | some r => exact Nat.sub_le_sub_left (Nat.sub_le _ _) _

/-- The shortfall stage (R92 to R95). -/
theorem workOrdered_sheds {k : Course} (low : Bool) (hk : k.stage = .snapped) (h : WorkOrdered k) :
    WorkOrdered (k.decided .pushing (shortfall k.snapshot low k.decisions)) := by
  intro c
  obtain ⟨hfits, -, -⟩ := h c
  have hw := hfits (by rw [hk]; rfl)
  refine ⟨fun _ => ?_, fun _ hr => minimaFit_shortfall _ _ _ c ((holdsGas_iff _).mpr (.inr hr)), nofun⟩
  obtain ⟨held, hcut | ⟨hg, hcut⟩⟩ := (cutsFrom_shortfall k.snapshot low k.decisions).work c
  · show WorkFits _ ((shortfall k.snapshot low k.decisions).work.get c)
    rw [hcut]
    exact WorkFits.moves hw (.inl rfl) held
  · show WorkFits _ ((shortfall k.snapshot low k.decisions).work.get c)
    rw [hcut]
    exact WorkFits.moves hw (.inr ⟨inPlay_of_holdsGas hg, .inr rfl⟩) held

/-- The pop (R98). -/
theorem workOrdered_pops {k : Course} {c : Slot} {amount : Nat} {o : Option Slot} (hk : k.stage = .popping) (h : WorkOrdered k) :
    WorkOrdered (k.decided .restored
      { k.decisions with work := k.decisions.work.modify c (popWork amount), restored := o }) := by
  intro e
  obtain ⟨hfits, hsheds, -⟩ := h e
  have hw : WorkFits _ _ := hfits (by rw [hk]; rfl)
  have hmin := hsheds (by rw [hk]; rfl)
  show WorkInOrder .restored _ ((k.decisions.work.modify c (popWork amount)).get e) _
  by_cases he : e = c
  · subst he
    rw [Tab.get_modify_same]
    refine ⟨fun _ => ?_, fun _ hr => ?_, nofun⟩
    · rw [popWork_eq]
      refine WorkFits.moves hw ?_ _
      split
      · next hshed => exact .inr ⟨by rw [hshed.1]; rfl, .inl rfl⟩
      · exact .inl rfl
    · rw [popWork_ceiling]
      rw [popWork_eq] at hr ⊢
      dsimp only at hr ⊢
      split at hr
      · exact absurd hr (by simp)
      · exact (hmin hr).trans (ceiling_le_lowered _ _)
  · rw [Tab.get_modify_ne _ _ he]
    exact ⟨fun _ => hw, fun _ => hmin, nofun⟩

/-- The admission stage (R100). -/
theorem workOrdered_admits {k : Course} {o r : Option Slot} {sum : Nat} (hk : k.stage = .restored)
    (ho : ∀ c, o = some c → (k.decisions.work.get c).state = .waiting) (h : WorkOrdered k) :
    WorkOrdered (k.decided .admitted
      { k.decisions with work := admitWork o k.decisions.work, admitted := r, sumCeilings := sum }) := by
  intro c
  obtain ⟨hfits, hsheds, -⟩ := h c
  have hw : WorkFits _ _ := hfits (by rw [hk]; rfl)
  have hmin := hsheds (by rw [hk]; rfl)
  show WorkInOrder .admitted _ ((admitWork o k.decisions.work).get c) _
  by_cases hc : o = some c
  · subst hc
    rw [admitWork_same]
    exact ⟨fun _ => WorkFits.moves hw (.inr ⟨by rw [ho c rfl]; rfl, .inl rfl⟩) _, nofun, nofun⟩
  · rw [admitWork_ne hc]
    exact ⟨fun _ => hw, fun _ => hmin, nofun⟩

/-- The allotment of a claim that keeps RUNNING lies between its m and its ceiling (R101). -/
theorem newAllotment_bounds (hw : WorkFits n w) (hmin : w.state = .running → w.m ≤ w.ceiling) (hr : w.state = .running) :
    w.m ≤ newAllotment w ∧ newAllotment w ≤ w.ceiling := by
  obtain ⟨hm, -, -, ha, hmove, -, hrun⟩ := hw
  have hn : n.state = .running := by
    obtain hmove | ⟨-, hmove⟩ := hmove
    · exact hmove ▸ hr
    · obtain hmove | hmove := hmove <;> exact absurd (hmove.symm.trans hr) (by simp)
  have hlow : w.m ≤ w.allotment := by rw [hm, ha]; exact hrun hn
  rw [newAllotment_running hr]
  split
  · exact ⟨hmin hr, Nat.le_refl _⟩
  · exact ⟨Nat.le_min.mpr ⟨hlow.trans (Nat.le_add_right _ _), hmin hr⟩, Nat.min_le_right _ _⟩

/-- The allotment stage (R101). -/
theorem workOrdered_allots {k : Course} {sum : Nat} (hk : k.stage = .admitted) (h : WorkOrdered k) :
    WorkOrdered (k.decided .allotted
      { k.decisions with allotments := Tab.gen fun c => newAllotment (k.decisions.work.get c), sumAllotments := sum }) := by
  intro c
  obtain ⟨hfits, hsheds, -⟩ := h c
  have hw : WorkFits _ _ := hfits (by rw [hk]; rfl)
  have hmin := hsheds (by rw [hk]; rfl)
  show WorkInOrder .allotted _ (k.decisions.work.get c) ((Tab.gen fun c => newAllotment (k.decisions.work.get c)).get c)
  rw [Tab.get_gen]
  exact ⟨fun _ => hw, fun _ => hmin, fun _ => ⟨newAllotment_admitted, newAllotment_bounds hw hmin⟩⟩

theorem PassMove.workOrdered (h : PassMove i s t) (hclaims : ∀ c, InOrder (s.claims.get c))
    (hs : ∀ k ∈ course s, WorkOrdered k) : ∀ k ∈ course t, WorkOrdered k := by
  cases h with
  | stays _ ht => rw [ht]; exact hs
  | begins _ _ ht hk => rw [ht]; rintro k ⟨⟩; exact fun c => workInOrder_early (by rw [hk]; rfl)
  | early stage _ _ ht _ hk => rw [ht]; rintro k ⟨⟩; exact fun c => workInOrder_early hk
  | snaps hn _ _ _ ht =>
    rw [ht]
    rintro k ⟨⟩
    intro c
    have hcopy : (Snapshot.claims _).get c = _ := (congrArg (Tab.get · c) hn).trans (Tab.get_gen _ c)
    show WorkInOrder .snapped ((Snapshot.claims _).get c) ((Snapshot.claims _).get c) _
    rw [hcopy]
    exact ⟨fun _ => workFits_copy (hclaims c), nofun, nofun⟩
  | sheds low _ hp hk ht =>
    have hold := hs _ hp
    rw [ht]
    rintro k ⟨⟩
    exact workOrdered_sheds low hk hold
  | pushes hp hk _ _ _ ht =>
    have hold := hs _ hp
    rw [ht]
    rintro k ⟨⟩
    intro c
    obtain ⟨hfits, hsheds, -⟩ := hold c
    exact ⟨fun _ => hfits (by rw [hk]; rfl), fun _ => hsheds (by rw [hk]; rfl), nofun⟩
  | passes stage _ hp hk hk' ha ht =>
    have hold := hs _ hp
    rw [ht]
    rintro k ⟨⟩
    intro c
    obtain ⟨hfits, hsheds, hallots⟩ := hold c
    exact ⟨fun _ => hfits (hasSnapshot_of_sheds hk), fun _ => hsheds hk, fun h => hallots (ha.symm.trans h)⟩
  | pops hp hk _ _ ht =>
    have hold := hs _ hp
    rw [ht]
    rintro k ⟨⟩
    exact workOrdered_pops hk hold
  | admits _ hp hk ho ht =>
    have hold := hs _ hp
    rw [ht]
    rintro k ⟨⟩
    exact workOrdered_admits hk ho hold
  | allots _ hp hk ht =>
    have hold := hs _ hp
    rw [ht]
    rintro k ⟨⟩
    exact workOrdered_allots hk hold
  | applies _ _ _ _ _ ht | fails _ ht | starts _ _ _ _ ht => rw [ht]; rintro k ⟨⟩

end Work

/-! ## The claims with the pass written (R105) -/

section Written

variable {s t : State} {i : Instr} {p : Pass} {c : Slot}

/-- Where epochs tell, the pass allots an unmoved claim what R60 wants. -/
theorem allots_of_sound (hp : s.balance.pass = some p) (hk : p.stage = .flared) (hsound : EpochsTell s ∧ ClaimsInOrder s)
    (he : (s.claims.get c).epoch = (p.snapshot.claims.get c).epoch)
    (hw : (p.decisions.work.get c).state = .admitted ∨ (p.decisions.work.get c).state = .running) :
    (s.claims.get c).min ≤ p.decisions.allotments.get c ∧
      p.decisions.allotments.get c ≤ Nat.min ((s.claims.get c).request.getD 0) (s.claims.get c).max := by
  obtain ⟨htell, -, horder⟩ := hsound
  obtain ⟨-, hmin, hmax, hreq⟩ := htell p hp c he
  obtain ⟨hfits, -, hallots⟩ := horder p hp c
  have hceiling := ceiling_le (p.decisions.work.get c)
  obtain ⟨hm, hx, hr, -, hmove, hplay, -⟩ : WorkFits _ _ := hfits (by rw [hk]; rfl)
  obtain ⟨hadmitted, hrunning⟩ := hallots (by rw [hk]; rfl)
  rw [← hmin, ← hmax, ← hreq]
  rw [hr, hx] at hceiling
  obtain hw | hw := hw
  · have hin : inPlay (p.snapshot.claims.get c).state = true := by
      obtain hmove | ⟨hin, -⟩ := hmove
      · rw [← hmove, hw]
        rfl
      · exact hin
    obtain ⟨hmx, -, hmr⟩ := hplay hin
    rw [hadmitted hw, hm]
    exact ⟨Nat.le_refl _, Nat.le_min.mpr ⟨hmr, hmx⟩⟩
  · obtain ⟨hlow, hhigh⟩ := hrunning hw
    exact ⟨hm ▸ hlow, hhigh.trans hceiling⟩

theorem claimsInOrder_exec (hs : ClaimsInOrder s) (htell : i = .applyStage → EpochsTell s) (h : exec i s = .next t) :
    ClaimsInOrder t := by
  obtain ⟨hclaims, hpass⟩ := (claimsInOrder_iff s).mp hs
  refine (claimsInOrder_iff t).mpr
    ⟨claimKept_inOrder.passMove (exec_passMove h) (fun p c hi hp hk he hc => ?_) hclaims,
      (exec_passMove h).workOrdered hclaims hpass⟩
  exact inOrder_writeResult hc (playMove_of_sound hp hk ⟨htell hi, hs⟩ he) (allots_of_sound hp hk ⟨htell hi, hs⟩ he)

theorem claimsInOrder_tick (hs : ClaimsInOrder s) : ClaimsInOrder (tick s) := by
  obtain ⟨hclaims, hpass⟩ := (claimsInOrder_iff s).mp hs
  refine (claimsInOrder_iff _).mpr ⟨fun c => ?_, by rw [course_tick]; exact hpass⟩
  obtain ⟨hask, hstate, hallot⟩ := hclaims c
  obtain h | h := tick_claim s c
  · rw [h]
    exact hclaims c
  · rw [h]
    refine ⟨hask, ?_, hallot⟩
    unfold StateFits Timer.advance
    rw [Option.isSome_map, Option.isSome_map]
    exact hstate

/-- Settles O10: each transition keeps a claim in order, each stage its working copy, and the pass writes what R60
wants where epochs tell. -/
theorem noAllotmentWithoutGasKept : Obligations.NoAllotmentWithoutGasKept := by
  refine ⟨fun s t hs h => ?gas, fun s t hs htell h => ?order⟩
  case gas =>
    exact step_keeps (P := AllotmentOnlyHolders) (fun _ _ _ h => h) (fun _ _ _ => allotmentOnlyHolders_exec)
      (fun _ => allotmentOnlyHolders_tick) hs h
  case order =>
    obtain ⟨i, rest, hp, hexec⟩ | ⟨i, rfl⟩ | rfl := step_cases h
    · exact claimsInOrder_exec (s := { s with pending := rest }) hs (fun hi => htell rest (by rw [hp, hi])) hexec
    · exact hs
    · exact claimsInOrder_tick hs

end Written

end Sys2Proof.Machine
end

section
/-! The shed stack: at most 16 records of at least 1 kW, every w accounted for by records and orphaned amounts, and every
record naming a claim that may hold one (R58, R109, R110, R112, R116). -/

namespace Sys2Proof.Machine

open Sys2Proof

/-! ## What moves leave of the stack -/

section Moves

variable {c : Slot} {b b' : Book} {s t : State} {old new cl : Claim} {n : Nat}

/-- A move takes records off the stack alone. -/
theorem Move.records_sublist (h : Move c b b') : b'.stack.records.Sublist b.stack.records := by
  cases h with
  | purges => exact List.filter_sublist
  | _ => exact List.Sublist.refl _

theorem SlotsMove.records_sublist (h : SlotsMove s t) : t.stack.records.Sublist s.stack.records :=
  h.keeps (Q := fun b => b.stack.records.Sublist s.stack.records) (fun _ _ _ hm hb => hm.records_sublist.trans hb)
    (List.Sublist.refl _)

/-- A claim with records on the stack keeps a state that may have them. -/
theorem Change.shedNamed (h : Change n old new) (hn : n ≠ 0) (hold : Machine.shedNamed old.state = true) :
    Machine.shedNamed new.state = true := by
  cases h with
  | limits | stoodLocked | amendedWaiting | amendedHolding | reported | withdrew | causeAdded => exact hold
  | registered m x u h | stood r h => obtain h | h := h <;> exact absurd (h ▸ hold) (by decide)
  | amendedShed => rw [if_neg hn]; rfl
  | ran => rfl
  | released h | reopened h => exact absurd (h ▸ hold) (by decide)
  | causeRemoved cause =>
    rw [unlocked_stays (.inl fun hl => absurd ((show old.state = ClaimState.locked from hl) ▸ hold) (by decide))]
    exact hold
  | limited =>
    unfold limitClaim
    split <;> exact hold

theorem commit_state (old new : Claim) : (commit old new).state = new.state := by
  obtain ⟨-, h⟩ | ⟨-, h⟩ := commit_cases old new <;> rw [h]

/-- The records that a move leaves were there before, and their claims still may have them. -/
theorem Move.named (h : Move c b b') {r : ShedRecord} (hr : r ∈ b'.stack.records)
    (hn : shedNamed (b.claims.get r.slot).state = true) : shedNamed (b'.claims.get r.slot).state = true := by
  by_cases hc : r.slot = c
  · subst hc
    cases h with
    | stays => exact hn
    | changes h =>
      rw [Book.changed, Tab.get_set_same, commit_state]
      have hcount : r ∈ b.stack.records.filter fun r' => r'.slot = r.slot := List.mem_filter.mpr ⟨hr, by simp⟩
      exact h.shedNamed (List.length_pos_of_mem hcount).ne' hn
    | purges => exact absurd (List.mem_filter.mp hr).2 (by simp)
    | restarted =>
      rw [Book.restarted, Tab.get_modify_same]
      split
      · exact hn
      · exact hn
  · rw [h.claims_ne hc]
    exact hn

theorem SlotsMove.named (h : SlotsMove s t) {r : ShedRecord} (hr : r ∈ t.stack.records)
    (hn : shedNamed (s.claims.get r.slot).state = true) : shedNamed (t.claims.get r.slot).state = true := by
  have hkept := h.keeps
    (Q := fun b => ∀ r ∈ b.stack.records, shedNamed (s.claims.get r.slot).state = true →
      shedNamed (b.claims.get r.slot).state = true)
    (fun _ _ _ hm hb r hr hn => hm.named hr (hb r (hm.records_sublist.subset hr) hn)) fun _ _ h => h
  exact hkept r hr hn

/-! ## w of one claim (R58) -/

/-- w is `k` and the orphaned amount. -/
def Accounts (k : Nat) (cl : Claim) : Prop := cl.withheld = k + cl.orphaned

variable {k : Nat}

theorem accounts_commit (h : Accounts k new) : Accounts k (commit old new) := by
  obtain ⟨-, hc⟩ | ⟨-, hc⟩ := commit_cases old new <;> rw [hc] <;> exact h

theorem Change.accounts (h : Change n old new) (hold : Accounts k old) : Accounts k new := by
  have hcleared : old.withheld - old.orphaned = k + 0 := by rw [show old.withheld = k + old.orphaned from hold]; omega
  cases h with
  | limits | stood | stoodLocked | amendedWaiting | reported | ran | released | withdrew | causeAdded => exact hold
  | registered | reopened =>
    unfold reopen
    split <;> exact hold
  | amendedHolding | amendedShed => exact hcleared
  | causeRemoved =>
    unfold unlocked
    split
    · split <;> exact hold
    · exact hold
  | limited =>
    unfold limitClaim
    split <;> exact hold

/-- A purged claim has no w left. -/
theorem Purge.accounts {f : Claim → Claim} (h : Purge old f) (hold : Accounts k old) : Accounts 0 (f (purged k old)) := by
  have hcleared : old.withheld - k - old.orphaned = 0 + 0 := by rw [show old.withheld = k + old.orphaned from hold]; omega
  cases h <;> exact hcleared

/-- Every slot's w is its records and its orphaned amount. -/
def BookAccounts (b : Book) : Prop := ∀ c, Accounts (slotSum c b.stack.records) (b.claims.get c)

theorem Move.bookAccounts (h : Move c b b') (hb : BookAccounts b) : BookAccounts b' := by
  intro d
  by_cases hd : d = c
  · subst hd
    cases h with
    | stays => exact hb d
    | changes h =>
      rw [Book.changed, Tab.get_set_same]
      exact accounts_commit (h.accounts (hb d))
    | purges h =>
      rw [Book.purged, Tab.get_set_same]
      have hnone : slotSum d (dropRecords (fun r => r.slot = d) b.stack).records = 0 := slotSum_purged_same d _
      rw [hnone]
      exact accounts_commit (h.accounts (hb d))
    | restarted =>
      rw [Book.restarted, Tab.get_modify_same]
      split
      · exact hb d
      · exact hb d
  · rw [h.claims_ne hd]
    cases h with
    | purges h =>
      have hsame : slotSum d (dropRecords (fun r => r.slot = c) b.stack).records = slotSum d b.stack.records :=
        slotSum_purged_ne hd _
      rw [Book.purged, hsame]
      exact hb d
    | _ => exact hb d

end Moves

/-! ## What pushes, pops and the apply stage make of the stack (R110 to R116) -/

section Stack

variable {s : State} {c : Slot} {r : ShedRecord} {rest : List ShedRecord} {p : Pass}

/-- An eviction happens at 16 records, to the bottom one (R112). -/
theorem evict_cases (s : State) :
    s.stack.records.length < 16 ∧ evict s = s ∨
      ∃ kept oldest, s.stack.records = kept ++ [oldest] ∧ 15 ≤ kept.length ∧
        evict s = raise .stackOverflow (evicted kept oldest s) := by
  by_cases h : s.stack.records.length < 16
  · exact .inl ⟨h, evict_below h⟩
  · obtain ⟨kept, oldest, hr⟩ : ∃ kept oldest, s.stack.records = kept ++ [oldest] :=
      ⟨_, _, (List.dropLast_concat_getLast (l := s.stack.records) (by rintro e; simp [e] at h)).symm⟩
    have hl : 15 ≤ kept.length := by simp [hr] at h; omega
    exact .inr ⟨kept, oldest, hr, hl, evict_full hr hl⟩

theorem evict_records_sublist (s : State) : (evict s).stack.records.Sublist s.stack.records := by
  obtain ⟨-, h⟩ | ⟨kept, oldest, hr, -, h⟩ := evict_cases s
  · rw [h]
  · rw [h, hr]
    exact List.sublist_append_left _ _

theorem evict_accounts (hs : BookAccounts (book s)) : BookAccounts (book (evict s)) := by
  obtain ⟨-, h⟩ | ⟨kept, oldest, hr, -, h⟩ := evict_cases s
  · rwa [h]
  · intro c
    have hc : (s.claims.get c).withheld = slotSum c s.stack.records + (s.claims.get c).orphaned := hs c
    have hget : (evict s).claims.get c = _ := (congrArg (·.claims.get c) h).trans (evicted_get kept oldest s c)
    have hrecords : (evict s).stack.records = kept := congrArg (·.stack.records) h
    rw [hr, slotSum_append, slotSum_cons, slotSum_nil] at hc
    show ((evict s).claims.get c).withheld = slotSum c (evict s).stack.records + ((evict s).claims.get c).orphaned
    rw [hget, hrecords, hc]
    by_cases he : oldest.slot = c
    · simp [he]; omega
    · simp [he, Ne.symm he]

theorem pushRecord_accounts (r : ShedRecord) (hs : BookAccounts (book s)) : BookAccounts (book (pushRecord r s)) := by
  intro c
  have hc : ((evict s).claims.get c).withheld = slotSum c (evict s).stack.records + ((evict s).claims.get c).orphaned :=
    evict_accounts hs c
  have hget : (pushRecord r s).claims.get c = _ := putOnTop_get r (evict s) c
  show ((pushRecord r s).claims.get c).withheld = slotSum c (r :: (evict s).stack.records) +
    ((pushRecord r s).claims.get c).orphaned
  rw [hget, slotSum_cons]
  dsimp only
  rw [hc]
  by_cases he : r.slot = c
  · simp [he]; omega
  · simp [he, Ne.symm he]

theorem popRecord_accounts (hr : s.stack.records = r :: rest) (hs : BookAccounts (book s)) :
    BookAccounts (book (popRecord r rest s)) := by
  intro c
  have hc : (s.claims.get c).withheld = slotSum c s.stack.records + (s.claims.get c).orphaned := hs c
  have hget : (popRecord r rest s).claims.get c = _ := popRecord_get r rest s c
  rw [hr, slotSum_cons] at hc
  show ((popRecord r rest s).claims.get c).withheld = slotSum c rest + ((popRecord r rest s).claims.get c).orphaned
  rw [hget]
  dsimp only
  rw [hc]
  by_cases he : r.slot = c
  · simp [he]; omega
  · simp [he, Ne.symm he]

/-- A slot whose result is written keeps its records. -/
theorem slotSum_applied_written {drop : ShedRecord → Bool} (rs : List ShedRecord)
    (h : ∀ r ∈ rs, r.slot = c → drop r = false) :
    slotSum c ((rs.filter fun r => !drop r).map fun r => { r with pending := false }) = slotSum c rs := by
  induction rs with
  | nil => rfl
  | cons r rs ih =>
    have hrest := ih fun r' hr' => h r' (List.mem_cons_of_mem _ hr')
    cases hd : drop r with
    | true =>
      have hne : r.slot ≠ c := fun e => absurd (hd.symm.trans (h r List.mem_cons_self e)) (by simp)
      simp [hd, slotSum_cons, hne, hrest]
    | false => simp [hd, slotSum_cons, hrest]

/-- A slot whose result is discarded loses its marked records. -/
theorem slotSum_applied_discarded {drop : ShedRecord → Bool} (rs : List ShedRecord)
    (h : ∀ r ∈ rs, r.slot = c → drop r = r.pending) :
    slotSum c ((rs.filter fun r => !drop r).map fun r => { r with pending := false }) + slotSum c (rs.filter (·.pending)) =
      slotSum c rs := by
  induction rs with
  | nil => rfl
  | cons r rs ih =>
    have hrest := ih fun r' hr' => h r' (List.mem_cons_of_mem _ hr')
    rw [slotSum_cons, ← hrest]
    by_cases he : r.slot = c
    · have hd := h r List.mem_cons_self he
      cases hp : r.pending with
      | true => simp [hd, hp, slotSum_cons, he]; omega
      | false => simp [hd, hp, slotSum_cons, he]; omega
    · cases hd : drop r <;> cases hp : r.pending <;> simp [hd, hp, slotSum_cons, he]

theorem writeResult_amounts (w : WorkClaim) (a : Nat) (cl : Claim) :
    (writeResult w a cl).withheld = cl.withheld ∧ (writeResult w a cl).orphaned = cl.orphaned := by
  unfold writeResult
  split <;> exact ⟨rfl, rfl⟩

theorem applied_accounts (p : Pass) (hs : BookAccounts (book s)) (c : Slot) :
    Accounts (slotSum c (applyStack p s).records) ((applyClaims p s).get c) := by
  have hc : (s.claims.get c).withheld = slotSum c s.stack.records + (s.claims.get c).orphaned := hs c
  by_cases he : (s.claims.get c).epoch = (p.snapshot.claims.get c).epoch
  · have hkept : slotSum c (applyStack p s).records = slotSum c s.stack.records :=
      slotSum_applied_written _ fun r _ hr => by rw [toRemove_eq]; simp [hr, he]
    obtain ⟨hw, ho⟩ := writeResult_amounts (p.decisions.work.get c) (p.decisions.allotments.get c) (s.claims.get c)
    rw [applyClaims_written he, hkept, Accounts, hw, ho]
    exact hc
  · have hlost : slotSum c (applyStack p s).records + slotSum c (s.stack.records.filter (·.pending)) =
        slotSum c s.stack.records :=
      slotSum_applied_discarded _ fun r _ hr => by rw [toRemove_eq]; simp [hr, he]
    rw [applyClaims_discarded he]
    show (s.claims.get c).withheld - _ = _ + (s.claims.get c).orphaned
    omega

/-- The apply stage's records are those before it, with their marks cleared (R116). -/
theorem mem_applyStack (h : r ∈ (applyStack p s).records) :
    ∃ r₀ ∈ s.stack.records, toRemove p s.claims r₀ = false ∧ r = { r₀ with pending := false } := by
  obtain ⟨r₀, hr₀, rfl⟩ := List.mem_map.mp h
  obtain ⟨hmem, hkeep⟩ := List.mem_filter.mp hr₀
  exact ⟨r₀, hmem, by simpa using hkeep, rfl⟩

end Stack

end Sys2Proof.Machine
end

section
/-! Every step keeps the shed stack within its bounds, w accounted for, and every record naming a claim that may hold it
(R58, R109, R110). -/

namespace Sys2Proof.Machine

open Sys2Proof

section Kept

variable {s t : State} {i : Instr}

/-! ## Bounds (R109, R110) -/

/-- At most 16 records, each of at least 1 kW. -/
def RecordsFit (rs : List ShedRecord) : Prop := rs.length ≤ 16 ∧ ∀ r ∈ rs, 1 ≤ r.amount

/-- The sheds a pass has yet to push are of at least 1 kW each. -/
def ShedsFit (k : Course) : Prop := ∀ x ∈ k.decisions.toPush, 1 ≤ x.amount

theorem stackBounded_iff (s : State) :
    StackBounded s ↔ RecordsFit s.stack.records ∧ ∀ k ∈ course s, ShedsFit k := by
  rw [← forall_pass]
  exact and_assoc.symm

theorem RecordsFit.sublist {rs rs' : List ShedRecord} (h : RecordsFit rs) (hs : rs'.Sublist rs) : RecordsFit rs' :=
  ⟨hs.length_le.trans h.1, fun r hr => h.2 r (hs.subset hr)⟩

theorem records_of_book (h : book t = book s) : t.stack.records = s.stack.records :=
  congrArg (fun b => b.stack.records) h

theorem evict_length (h : s.stack.records.length ≤ 16) : (evict s).stack.records.length ≤ 15 := by
  obtain ⟨hlt, he⟩ | ⟨kept, oldest, hr, -, he⟩ := evict_cases s
  · rw [he]
    omega
  · have hrecords : (evict s).stack.records = kept := congrArg (·.stack.records) he
    rw [hrecords]
    rw [hr, List.length_append, List.length_singleton] at h
    omega

theorem recordsFit_pushRecord {r : ShedRecord} (hs : RecordsFit s.stack.records) (hr : 1 ≤ r.amount) :
    RecordsFit (pushRecord r s).stack.records := by
  show RecordsFit (r :: (evict s).stack.records)
  refine ⟨Nat.succ_le_succ (evict_length hs.1), fun r' hr' => ?_⟩
  obtain rfl | hr' := List.mem_cons.mp hr'
  · exact hr
  · exact hs.2 r' ((evict_records_sublist s).subset hr')

theorem recordsFit_applyStack (p : Pass) (hs : RecordsFit s.stack.records) : RecordsFit (applyStack p s).records := by
  refine ⟨?_, fun r hr => ?_⟩
  · exact (List.length_map _).trans_le ((List.length_filter_le _ _).trans hs.1)
  · obtain ⟨r₀, hr₀, -, rfl⟩ := mem_applyStack hr
    exact hs.2 r₀ hr₀

theorem PassMove.recordsFit (h : PassMove i s t) (hs : RecordsFit s.stack.records) (hpass : ∀ k ∈ course s, ShedsFit k) :
    RecordsFit t.stack.records := by
  have same (hb : book t = book s) : RecordsFit t.stack.records := by rwa [records_of_book hb]
  cases h with
  | stays hb => exact hs.sublist hb.records_sublist
  | early _ hb => exact hs.sublist hb.records_sublist
  | begins hb => exact same hb
  | snaps _ hb => exact same hb
  | sheds _ hb => exact same hb
  | passes _ hb => exact same hb
  | admits hb => exact same hb
  | allots hb => exact same hb
  | fails hb => exact same hb
  | pushes hp _ hx hr hb =>
    obtain ⟨-, hamount, -⟩ := hr
    rw [records_of_book hb]
    refine recordsFit_pushRecord hs ?_
    rw [hamount]
    exact hpass _ hp _ (by rw [hx]; exact List.mem_cons_self)
  | pops _ _ hr hb =>
    rw [records_of_book hb]
    exact hs.sublist (by rw [hr]; exact List.sublist_cons_self _ _)
  | applies _ _ _ _ hstack => rw [hstack]; exact recordsFit_applyStack _ hs
  | starts _ _ _ hstack => rw [hstack]; exact ⟨Nat.zero_le _, nofun⟩

theorem PassMove.shedsFit (h : PassMove i s t) (hs : ∀ k ∈ course s, ShedsFit k) : ∀ k ∈ course t, ShedsFit k := by
  have same {k k' : Course} (hp : course s = some k) (ht : course t = some k')
      (hpush : ∀ x ∈ k'.decisions.toPush, x ∈ k.decisions.toPush ∨ 1 ≤ x.amount) : ∀ k ∈ course t, ShedsFit k := by
    rw [ht]
    rintro _ ⟨⟩ x hx
    exact (hpush x hx).elim (hs k hp x) id
  cases h with
  | stays _ ht => rw [ht]; exact hs
  | begins _ _ ht _ hd => rw [ht]; rintro k ⟨⟩ x hx; rw [hd] at hx; exact absurd hx List.not_mem_nil
  | early _ _ hp ht => exact same hp ht fun _ => .inl
  | snaps _ _ _ _ ht => rw [ht]; rintro k ⟨⟩ x hx; exact absurd hx List.not_mem_nil
  | sheds low _ hp _ ht =>
    exact same hp ht fun x hx => ((cutsFrom_shortfall _ low _).toPush x hx).imp_right And.left
  | pushes hp _ hx _ _ ht => exact same hp ht fun x hmem => .inl (hx ▸ List.mem_cons_of_mem _ hmem)
  | passes _ _ hp _ _ _ ht => exact same hp ht fun _ => .inl
  | pops hp _ _ _ ht => exact same hp ht fun _ => .inl
  | admits _ hp _ _ ht => exact same hp ht fun _ => .inl
  | allots _ hp _ ht => exact same hp ht fun _ => .inl
  | applies _ _ _ _ _ ht | fails _ ht | starts _ _ _ _ ht => rw [ht]; rintro k ⟨⟩

theorem stackBounded_exec (hs : StackBounded s) (h : exec i s = .next t) : StackBounded t := by
  obtain ⟨hrecords, hsheds⟩ := (stackBounded_iff s).mp hs
  exact (stackBounded_iff t).mpr ⟨(exec_passMove h).recordsFit hrecords hsheds, (exec_passMove h).shedsFit hsheds⟩

theorem tick_stack (s : State) : (tick s).stack = s.stack := (touches_tick s).same .stack rfl

theorem stackBounded_tick (hs : StackBounded s) : StackBounded (tick s) := by
  rw [stackBounded_iff, tick_stack, course_tick]
  exact (stackBounded_iff s).mp hs

/-! ## w accounted for (R58) -/

theorem PassMove.bookAccounts (h : PassMove i s t) (hs : BookAccounts (book s)) : BookAccounts (book t) := by
  have same (u : State) (hb : book t = book u) (hu : BookAccounts (book u)) : BookAccounts (book t) := by rwa [hb]
  cases h with
  | stays hb => exact hb.keeps (fun _ _ _ => Move.bookAccounts) hs
  | early _ hb => exact hb.keeps (fun _ _ _ => Move.bookAccounts) hs
  | begins hb => exact same s hb hs
  | snaps _ hb => exact same s hb hs
  | sheds _ hb => exact same s hb hs
  | passes _ hb => exact same s hb hs
  | admits hb => exact same s hb hs
  | allots hb => exact same s hb hs
  | fails hb => exact same s hb hs
  | pushes _ _ _ _ hb => exact same _ hb (pushRecord_accounts _ hs)
  | pops _ _ hr hb => exact same _ hb (popRecord_accounts hr hs)
  | applies _ _ _ hclaims hstack =>
    intro c
    show Accounts (slotSum c t.stack.records) (t.claims.get c)
    rw [hclaims, hstack]
    exact applied_accounts _ hs c
  | starts k2 k4 hclaims hstack =>
    intro c
    show Accounts (slotSum c t.stack.records) (t.claims.get c)
    rw [hclaims, hstack, Tab.get_gen]
    rfl

theorem withheldAccounted_tick (hs : WithheldAccounted s) : WithheldAccounted (tick s) := fun c => by
  rw [tick_stack]
  obtain h | h := tick_claim s c
  · rw [h]
    exact hs c
  · rw [h]
    exact hs c

/-! ## Records named (R110) -/

/-- What `RecordsNamed` asks while the part is supplied. -/
structure Named (s : State) : Prop where
  settled : ∀ r ∈ s.stack.records, r.pending = false → shedNamed (s.claims.get r.slot).state = true
  marked : ∀ r ∈ s.stack.records, r.pending = true →
    ∃ k ∈ course s, k.stage.hasSheds = true ∧ shedNamed (k.snapshot.claims.get r.slot).state = true
  toPush : ∀ k ∈ course s, ∀ x ∈ k.decisions.toPush, shedNamed (k.snapshot.claims.get x.slot).state = true
  snapped : ∀ k ∈ course s, k.stage = .snapped → ∀ c, holdsGas (k.decisions.work.get c) = true →
    shedNamed (k.snapshot.claims.get c).state = true

theorem recordsNamed_iff (s : State) : RecordsNamed s ↔ (s.supplied = true → Named s) := by
  have hpass (Q : Course → Prop) : (∀ p ∈ s.balance.pass, Q (courseOf p)) ↔ ∀ k ∈ course s, Q k := forall_pass s
  have hexists (Q : Course → Prop) : (∃ p ∈ s.balance.pass, Q (courseOf p)) ↔ ∃ k ∈ course s, Q k := by
    cases h : s.balance.pass <;> simp [course, h]
  refine imp_congr_right fun _ => ⟨?_, ?_⟩
  · rintro ⟨hsettled, hmarked, hrest⟩
    refine ⟨hsettled, fun r hr hp => ?_, ?_, ?_⟩
    · exact (hexists fun k => k.stage.hasSheds = true ∧ shedNamed (k.snapshot.claims.get r.slot).state = true).mp
        (hmarked r hr hp)
    · exact (hpass fun k => ∀ x ∈ k.decisions.toPush, shedNamed (k.snapshot.claims.get x.slot).state = true).mp
        fun p hp => (hrest p hp).1
    · exact (hpass fun k => k.stage = .snapped → ∀ c, holdsGas (k.decisions.work.get c) = true →
        shedNamed (k.snapshot.claims.get c).state = true).mp fun p hp => (hrest p hp).2
  · rintro ⟨hsettled, hmarked, hpush, hsnapped⟩
    refine ⟨hsettled, fun r hr hp => ?_, fun p hp => ⟨?_, ?_⟩⟩
    · exact (hexists fun k => k.stage.hasSheds = true ∧ shedNamed (k.snapshot.claims.get r.slot).state = true).mpr
        (hmarked r hr hp)
    · exact hpush _ (course_some hp)
    · exact hsnapped _ (course_some hp)

/-- Before its sheds are decided a pass has marked no record. -/
theorem Named.unmarked (hs : Named s) (h : ∀ k ∈ course s, k.stage.hasSheds = false) {r : ShedRecord}
    (hr : r ∈ s.stack.records) : r.pending = false := by
  by_contra hp
  obtain ⟨k, hk, hsheds, -⟩ := hs.marked r hr (by simpa using hp)
  exact absurd ((h k hk).symm.trans hsheds) (by simp)

/-- A pass whose sheds are decided goes on: its records stay, and it may add one of its own. -/
theorem Named.later {k k' : Course} (hs : Named s) (hp : course s = some k) (ht : course t = some k')
    (hk : k'.stage.hasSheds = true) (hn : k'.snapshot = k.snapshot)
    (hpush : ∀ x ∈ k'.decisions.toPush, shedNamed (k.snapshot.claims.get x.slot).state = true)
    (hrecords : ∀ r ∈ t.stack.records, r ∈ s.stack.records ∨
      r.pending = true ∧ shedNamed (k.snapshot.claims.get r.slot).state = true)
    (hclaims : ∀ c, (t.claims.get c).state = (s.claims.get c).state) : Named t := by
  refine ⟨fun r hr hf => ?_, fun r hr hm => ⟨k', ht, hk, ?_⟩, ?_, ?_⟩
  · rw [hclaims]
    obtain hr | ⟨hm, -⟩ := hrecords r hr
    · exact hs.settled r hr hf
    · exact absurd (hf.symm.trans hm) (by simp)
  · rw [hn]
    obtain hr | ⟨-, hnamed⟩ := hrecords r hr
    · obtain ⟨k₀, hk₀, -, hnamed⟩ := hs.marked r hr hm
      obtain rfl : k = k₀ := Option.some.inj (hp.symm.trans hk₀)
      exact hnamed
    · exact hnamed
  · rw [ht]
    rintro _ ⟨⟩
    rw [hn]
    exact hpush
  · rw [ht]
    rintro _ ⟨⟩ hst
    rw [hst] at hk
    exact absurd hk (by decide)

/-- What it takes of the book alone. -/
theorem Named.later_same {k k' : Course} (hs : Named s) (hp : course s = some k) (ht : course t = some k')
    (hk : k'.stage.hasSheds = true) (hn : k'.snapshot = k.snapshot)
    (hpush : ∀ x ∈ k'.decisions.toPush, shedNamed (k.snapshot.claims.get x.slot).state = true) (hb : book t = book s) :
    Named t := by
  refine hs.later hp ht hk hn hpush (fun r hr => .inl (records_of_book hb ▸ hr)) fun c => ?_
  rw [show t.claims = s.claims from congrArg Book.claims hb]

/-- A pass begins or has not taken its snapshot: nothing is marked, and its sheds are those it had. -/
theorem Named.early {k : Course} (hs : Named s) (hm : SlotsMove s t) (hold : ∀ k ∈ course s, k.stage.hasSheds = false)
    (ht : course t = some k)
    (hpush : ∀ x ∈ k.decisions.toPush, shedNamed (k.snapshot.claims.get x.slot).state = true)
    (hsnapped : k.stage = .snapped → ∀ c, holdsGas (k.decisions.work.get c) = true →
      shedNamed (k.snapshot.claims.get c).state = true) : Named t := by
  have unmarked {r : ShedRecord} (hr : r ∈ t.stack.records) : r ∈ s.stack.records ∧ r.pending = false :=
    ⟨hm.records_sublist.subset hr, hs.unmarked hold (hm.records_sublist.subset hr)⟩
  refine ⟨fun r hr hf => hm.named hr (hs.settled r (unmarked hr).1 hf), fun r hr hp => ?_, ?_, ?_⟩
  · exact absurd ((unmarked hr).2.symm.trans hp) (by simp)
  · rw [ht]
    rintro _ ⟨⟩
    exact hpush
  · rw [ht]
    rintro _ ⟨⟩
    exact hsnapped

theorem slotsMove_of_book (h : book t = book s) : SlotsMove s t := by
  rw [SlotsMove, h]
  exact SlotsMove.refl s

/-- A move in play leaves a claim that may have records. -/
theorem PlayMove.shedNamed {x y : ClaimState} (h : PlayMove x y) (hx : Machine.shedNamed x = true) :
    Machine.shedNamed y = true := by
  obtain rfl | ⟨-, rfl | rfl⟩ := h
  · exact hx
  · rfl
  · rfl

/-- The claim of a record that stays may have it, with the pass written (R105, R116). -/
theorem applied_named {p : Pass} {r : ShedRecord} (hs : Named s) (hp : s.balance.pass = some p) (hk : p.stage = .flared)
    (hsound : EpochsTell s ∧ ClaimsInOrder s) (hr : r ∈ s.stack.records) (hkeep : toRemove p s.claims r = false) :
    shedNamed ((applyClaims p s).get r.slot).state = true := by
  by_cases he : (s.claims.get r.slot).epoch = (p.snapshot.claims.get r.slot).epoch
  · have hlive : shedNamed (s.claims.get r.slot).state = true := by
      cases hm : r.pending with
      | false => exact hs.settled r hr hm
      | true =>
        obtain ⟨k, hk, -, hnamed⟩ := hs.marked r hr hm
        obtain rfl : courseOf p = k := Option.some.inj ((course_some hp).symm.trans hk)
        obtain ⟨hstate, -⟩ := hsound.1 p hp r.slot he
        rw [← hstate]
        exact hnamed
    rw [applyClaims_written he, writeResult_state]
    exact (playMove_of_sound hp hk hsound he).shedNamed hlive
  · rw [applyClaims_discarded he]
    refine hs.settled r hr ?_
    rw [toRemove_eq] at hkeep
    simpa [he] using hkeep

theorem PassMove.named (h : PassMove i s t) (hsup : t.supplied = true)
    (hsound : i = .applyStage → EpochsTell s ∧ ClaimsInOrder s) (hs : Named s) : Named t := by
  have none_sheds {k : Course} (hp : course s = some k) (hk : k.stage.hasSheds = false) :
      ∀ k ∈ course s, k.stage.hasSheds = false := by
    rw [hp]
    rintro _ ⟨⟩
    exact hk
  cases h with
  | stays hb ht =>
    refine ⟨fun r hr hf => hb.named hr (hs.settled r (hb.records_sublist.subset hr) hf), ?_, ?_, ?_⟩
    · rw [ht]
      exact fun r hr => hs.marked r (hb.records_sublist.subset hr)
    · rw [ht]
      exact hs.toPush
    · rw [ht]
      exact hs.snapped
  | begins hb hp ht hk hd =>
    refine hs.early (slotsMove_of_book hb) (by rw [hp]; rintro k ⟨⟩) ht (fun x hx => ?_) fun hst => ?_
    · rw [hd] at hx
      exact absurd hx List.not_mem_nil
    · exact absurd (hk.symm.trans hst) (by simp)
  | early stage hb hp ht hk hk' =>
    have hwaits := hs.toPush _ hp
    refine hs.early hb (none_sheds hp (early_stage hk).1) ht hwaits fun hst => ?_
    exact absurd (hk'.symm.trans (congrArg PassStage.hasSnapshot (show stage = .snapped from hst))) (by decide)
  | snaps hn hb hp hk ht =>
    refine hs.early (slotsMove_of_book hb) (none_sheds hp (by rw [hk]; rfl)) ht (fun x hx => absurd hx List.not_mem_nil)
      fun _ c hc => ?_
    obtain h | h := (holdsGas_iff _).mp hc
    · exact (congrArg shedNamed h).trans rfl
    · exact (congrArg shedNamed h).trans rfl
  | sheds low hb hp hk ht =>
    refine hs.later_same hp ht rfl rfl (fun x hx => ?_) hb
    obtain hx | ⟨-, hg⟩ := (cutsFrom_shortfall _ low _).toPush x hx
    · exact hs.toPush _ hp x hx
    · exact hs.snapped _ hp hk _ hg
  | @pushes k x rest pushed r hp hk hx hr hb ht =>
    obtain ⟨hslot, -, hmark⟩ := hr
    have hfirst := hs.toPush _ hp
    rw [hx] at hfirst
    refine hs.later hp ht rfl rfl (fun x' hx' => hfirst x' (List.mem_cons_of_mem _ hx')) (fun r' hr' => ?_) fun c => ?_
    · rw [records_of_book hb] at hr'
      obtain rfl | hr' := List.mem_cons.mp (show r' ∈ r :: (evict s).stack.records from hr')
      · exact .inr ⟨hmark, hslot ▸ hfirst x List.mem_cons_self⟩
      · exact .inl ((evict_records_sublist s).subset hr')
    · obtain ⟨w, o, hget⟩ := pushRecord_claim r s c
      rw [show t.claims = (pushRecord r s).claims from congrArg Book.claims hb, hget]
  | passes stage hb hp hk hk' ha ht =>
    have hwaits := hs.toPush _ hp
    exact hs.later_same hp ht hk' rfl hwaits hb
  | @pops k r rest hp hk hr hb ht =>
    have hwaits := hs.toPush _ hp
    refine hs.later hp ht rfl rfl hwaits (fun r' hr' => .inl ?_) fun c => ?_
    · rw [records_of_book hb] at hr'
      rw [hr]
      exact List.mem_cons_of_mem _ hr'
    · rw [show t.claims = (popRecord r rest s).claims from congrArg Book.claims hb, popRecord_get]
  | admits hb hp hk ho ht =>
    have hwaits := hs.toPush _ hp
    exact hs.later_same hp ht rfl rfl hwaits hb
  | allots hb hp hk ht =>
    have hwaits := hs.toPush _ hp
    exact hs.later_same hp ht rfl rfl hwaits hb
  | applies hi hp hk hclaims hstack ht =>
    refine ⟨fun r hr _ => ?_, fun r hr hm => ?_, by rw [ht]; rintro k ⟨⟩, by rw [ht]; rintro k ⟨⟩⟩
    · rw [hstack] at hr
      obtain ⟨r₀, hr₀, hkeep, rfl⟩ := mem_applyStack hr
      rw [hclaims]
      have hnamed := applied_named hs hp hk (hsound hi) hr₀ hkeep
      exact hnamed
    · rw [hstack] at hr
      obtain ⟨r₀, -, -, rfl⟩ := mem_applyStack hr
      exact absurd hm (by simp)
  | fails _ _ hf => exact absurd (hf.symm.trans hsup) (by simp)
  | starts _ _ _ hstack ht =>
    refine ⟨fun r hr => ?_, fun r hr => ?_, by rw [ht]; rintro k ⟨⟩, by rw [ht]; rintro k ⟨⟩⟩
    all_goals
      rw [hstack] at hr
      exact absurd hr List.not_mem_nil

theorem named_start (amps : Currents) (u : State) : Named (start amps u) := by
  have hstack : (start amps u).stack.records = [] := by rw [start_stack]
  have ht : course (start amps u) = none := rfl
  refine ⟨fun r hr => ?_, fun r hr => ?_, by rw [ht]; rintro k ⟨⟩, by rw [ht]; rintro k ⟨⟩⟩
  all_goals
    rw [hstack] at hr
    exact absurd hr List.not_mem_nil

theorem recordsNamed_exec (hs : RecordsNamed s) (hsound : i = .applyStage → EpochsTell s ∧ ClaimsInOrder s)
    (h : exec i s = .next t) : RecordsNamed t := by
  rw [recordsNamed_iff] at hs ⊢
  intro hsup
  by_cases hp : ∃ amps a b c, i = .powerOnStart amps a b c
  · obtain ⟨amps, a, b, c, rfl⟩ := hp
    cases h
    exact named_start _ _
  · refine (exec_passMove h).named hsup hsound (hs ?_)
    by_contra hno
    have hoff := exec_supplied (by simpa using hno) (fun amps a b c e => hp ⟨amps, a, b, c, e⟩) h
    exact absurd (hsup.symm.trans hoff) (by simp)

theorem recordsNamed_tick (hs : RecordsNamed s) : RecordsNamed (tick s) := by
  rw [recordsNamed_iff] at hs ⊢
  intro hsup
  have hsupplied : (tick s).supplied = s.supplied := (touches_tick s).same .supplied rfl
  obtain ⟨hsettled, hmarked, hpush, hsnapped⟩ := hs (hsupplied.symm.trans hsup)
  have hstate (c : Slot) : ((tick s).claims.get c).state = (s.claims.get c).state := by
    obtain h | h := tick_claim s c <;> rw [h]
  refine ⟨fun r hr hf => ?_, ?_, ?_, ?_⟩
  · rw [tick_stack] at hr
    rw [hstate]
    exact hsettled r hr hf
  · rwa [tick_stack, course_tick]
  · rwa [course_tick]
  · rwa [course_tick]

/-- Settles O8: moves take records off, pushes and pops pay for theirs, and the apply stage clears its marks by what the
snapshot tells. -/
theorem stackBoundAndWithheldKept : Obligations.StackBoundAndWithheldKept := by
  refine fun s t h => ⟨fun hs => ?bounded, fun hs => ?accounted, fun hs hsound => ?named⟩
  case bounded =>
    exact step_keeps (P := StackBounded) (fun _ _ _ h => h) (fun _ _ _ => stackBounded_exec)
      (fun _ => stackBounded_tick) hs h
  case accounted =>
    exact step_keeps (P := WithheldAccounted) (fun _ _ _ h => h)
      (fun _ _ _ hs h => (exec_passMove h).bookAccounts hs) (fun _ => withheldAccounted_tick) hs h
  case named =>
    obtain ⟨i, rest, hp, hexec⟩ | ⟨i, rfl⟩ | rfl := step_cases h
    · exact recordsNamed_exec (s := { s with pending := rest }) hs (fun hi => hsound rest (by rw [hp, hi])) hexec
    · exact hs
    · exact recordsNamed_tick hs

end Kept

end Sys2Proof.Machine
end
